-- ==== Sys2Proof/Word.lean ====
section
/-!
DEFINITION. The words of the PT-40 and their plainest arithmetic (spec/00_scope.md, "Words and addresses",
"Time", "Numbers"): a word has 16 bits, a host address 18, a tick and a total 32.
-/

namespace Sys2Proof

/-- One word of memory (spec/00_scope.md: "A word is 16 bits"). -/
abbrev Word := BitVec 16

/-- An 18-bit host word address: 0x00000 to 0x1FFFF the SRAM, 0x20000 to 0x3FFFF the flash. -/
abbrev Addr := BitVec 18

/-- The free-running 32-bit count of milliseconds since the last start. -/
abbrev Tick := BitVec 32

/-- A 32-bit total, which wraps modulo 2^32. -/
abbrev Total := BitVec 32

end Sys2Proof
end

