-- ==== Sys2Proof/Syntax.lean ====
section
/-!
DEFINITION. The commands of the PT-40: one constructor for each row of spec/opcode_table.json, in the table's
order. A row is one whole step of the part: a start, an access of the host, a completion at the memory port, an
event on an input, or the expiry of a timer. The operands are what the step takes from outside: an address, the
data of a write, the words a chip delivers, a measurement, the reading of a sensor.
-/

namespace Sys2Proof

/-- The polarity of the line while loop current flows (spec/07_the_line.md). -/
inductive Polarity where
  | normal
  | inverted
deriving DecidableEq, Repr

/-- The two switches whose debouncers settle after a start (R151). -/
inductive Switch where
  | door
  | key
deriving DecidableEq, Repr

/-- The two requesters of flash part reads (R69). -/
inductive FlashReader where
  | profile
  | scan
deriving DecidableEq, Repr

/-- What the vault confirm sensor and the return confirm sensor show: for how many milliseconds each has been
interrupted without a break, none for a clear one (R26). -/
structure ChuteReadings where
  vault : Option Nat
  ret : Option Nat
deriving DecidableEq, Repr

/-- The commands, one for each row of the table. -/
inductive Instr where
  /-- Supply is applied (R72). -/
  | powerStart
  /-- The host's reset line is asserted and released (R72). -/
  | lineStart
  /-- A host write to an address with no treatment of its own (R56). -/
  | hostPassWrite (address : Addr) (data : Word)
  /-- A host write to mailbox word 1, 2, 3 or 4 (R58). -/
  | argumentWrite (number : Nat) (data : Word)
  /-- A host write of code 1 to the mailbox command word (R178). -/
  | dial
  /-- A host write of code 2 to the mailbox command word (R179). -/
  | release
  /-- A host write of code 3 to the mailbox command word (R180). -/
  | setTime
  /-- A host write of code 4 to the mailbox command word (R187). -/
  | setAttention
  /-- A host write of code 5 to the mailbox command word (R181). -/
  | mapDump
  /-- A host write of code 6 to the mailbox command word (R182). -/
  | vaultCleared
  /-- A host write of code 7 to the mailbox command word (R183). `shown`: what the two confirm sensors show as the
  write arrives (R26). -/
  | clearCondition (shown : ChuteReadings)
  /-- A host write of code 8 to the mailbox command word (R184). -/
  | reloadProfile
  /-- A host write of code 9 to the mailbox command word (R185). -/
  | reportNow
  /-- A host write of code 10 to the mailbox command word (R185). -/
  | testReport
  /-- A host write of a code that names no operation to the mailbox command word (R177). -/
  | unknownCommand (code : Word)
  /-- A host write to the dial word (R136). -/
  | dialWordWrite (value : Word)
  /-- A host write to the call-ring consumer index (R146). -/
  | consumerIndexWrite (value : Word)
  /-- A host write to the change word of S0 (R59). -/
  | changeWordWrite (value : Word)
  /-- A host write into a protected window (R63). -/
  | suppressedWrite (address : Addr) (data : Word)
  /-- A host write into the ACCOUNT window (R60). -/
  | accountWrite (offset : Nat) (data : Word)
  /-- A host write into the PROFILE window (R61). -/
  | profileWrite (offset : Nat) (data : Word)
  /-- A host write into the TARIFF window (R61). -/
  | tariffWrite (offset : Nat) (data : Word)
  /-- A host read of one address; of the last word of S5 it unlocks the capture record (R65). -/
  | captureUnlockRead (address : Addr)
  /-- The arbiter grants the free port to the part (R68). `flashBusy`: what the flash's ready output shows (R69). -/
  | partRunGrant (flashBusy : Bool)
  /-- The write of a status, report-ring or call-ring group, or of a result word that shows PENDING, completes (R67). -/
  | groupWriteComplete
  /-- The write of a result word that carries a final code completes (R176). -/
  | resultWordWritten
  /-- The write of a map-dump cell completes (R16). -/
  | mapCellWritten
  /-- The write of an account slot completes (R44). -/
  | accountSlotWritten
  /-- A part read of profile words completes with these words (R70). -/
  | profileReadDone (words : List Word)
  /-- The tariff header read completes with the entry count and the check word (R79). -/
  | scanHeaderRead (count check : Word)
  /-- A tariff entry read completes with its eight words (R79). -/
  | scanEntryRead (words : List Word)
  /-- A slot read of the account start load completes with its 24 words (R46). `headOccupied`: what the
  head-occupied sensor shows if the start-up dump begins in this step (R37). -/
  | startLoadSlotRead (words : List Word) (headOccupied : Bool)
  /-- The scrubber's slot read completes with its 24 words (R48). -/
  | scrubReadDone (words : List Word)
  /-- The flash's ready output shows ready (R69). -/
  | flashReady
  /-- The 50 ms busy limit of a flash read that was set aside expires (R69). -/
  | flashReadFailBack (reader : FlashReader)
  /-- The 500 ms scrub timer expires (R48). -/
  | scrubTurn
  /-- The validator delivers a measurement: diameter, alloy, transit time (R1). -/
  | coinMeasurement (diameter alloy transit : Word)
  /-- The 250 ms hold of the router flap expires (R5). -/
  | flapRelease
  /-- The vault confirm sensor is interrupted (R22). -/
  | vaultConfirm
  /-- The return confirm sensor is interrupted (R23). `headOccupied`: what the head-occupied sensor shows once
  the gate is back at HOLD (R37). -/
  | returnConfirm (headOccupied : Bool)
  /-- The 400 ms confirm limit of a gate cycle expires (R24). -/
  | confirmLimitExpiry
  /-- The 2 s tariff quiet timer expires (R84). -/
  | quietTimerExpiry
  /-- 1,000 ms of tick have passed (R92). -/
  | clockSecond
  /-- The tick reaches the end tick of a RUNNING step (R98). -/
  | stepEnd
  /-- The grace timer expires (R104). -/
  | graceExpiry
  /-- The 1,000 ms of CLEARING end (R108). -/
  | clearingEnd
  /-- The loop current sense changes: to absent, or to present with this polarity (R113). -/
  | loopCurrentChange (sense : Option Polarity)
  /-- The 500 ms loop limit expires (R113). -/
  | loopLimitExpiry
  /-- The 3,000 ms search limit expires (R117). -/
  | searchLimitExpiry
  /-- The tone front end delivers the figure of a 50 ms dwell (R115). -/
  | dwellFigure (figure : BitVec 8)
  /-- The 80 ms tone of a DTMF symbol ends (R118). -/
  | dtmfToneEnd
  /-- The 80 ms gap after a DTMF symbol ends (R118). -/
  | dtmfGapEnd
  /-- A 60 ms pulse break ends (R119). -/
  | pulseBreakEnd
  /-- A 40 ms or 800 ms make ends (R119). -/
  | pulseMakeEnd
  /-- The polarity sense changes while loop current flows (R123). -/
  | polarityChange (sense : Polarity)
  /-- The 40 ms reversal hold completes (R123). -/
  | reversalHoldEnd
  /-- Polarity has stood at the reference for 200 ms (R126). -/
  | clearHoldEnd
  /-- 60,000 ms have passed since dialling without an answer (R122). -/
  | answerTimeout
  /-- One of the two silences of TIMED answer has passed (R124). -/
  | timedAnswerExpiry
  /-- The 1,000 ms pause after a report call's answer ends (R125). -/
  | reportPauseEnd
  /-- The loss timer reaches 300 ms (R127). -/
  | lossTimerExpiry
  /-- The 4,000 ms acknowledgement wait expires (R128). -/
  | ackWaitExpiry
  /-- The DTMF receiver delivers a symbol (R128). -/
  | dtmfSymbolReceived (symbol : BitVec 4)
  /-- The loop voltage sense changes (R130). -/
  | loopVoltageChange (present : Bool)
  /-- Loop voltage has been absent for 5,000 ms in IDLE (R130). -/
  | voltageWatchExpiry
  /-- The 300 s probe timer expires (R131). -/
  | probeTimerExpiry
  /-- The raw hook reading has held this position for 30 ms (R132). -/
  | hookDebounced (off : Bool)
  /-- The 400 ms hang-up timer expires (R133). -/
  | hangUpTimerExpiry
  /-- The 60 s abuse timer expires (R133). -/
  | abuseTimerExpiry
  /-- The oldest entry of the flash list becomes 10,000 ms old (R133). -/
  | flashAgeOut
  /-- The settled door switch has held this position for 50 ms (R152). -/
  | doorDebounced (opened : Bool)
  /-- The settled service key switch has held this position for 50 ms (R151). -/
  | keyDebounced (on : Bool)
  /-- An unsettled debouncer has read this position (OPEN, ON) for 50 ms after a start (R152). -/
  | switchSettled (which : Switch) (active : Bool)
  /-- The cord loop has read open, or closed, for 2 s (R153). -/
  | cordTimerExpiry (opened : Bool)
  /-- The shock contact closes after 250 ms open (R154). -/
  | shockPulse
  /-- The 600 s shock quiet timer expires (R154). -/
  | shockQuietExpiry
  /-- The oldest entry of the pulse list becomes 60 s old (R154). -/
  | pulseAgeOut
  /-- The hook has been ON for 5,000 ms (R167). -/
  | hookQuietExpiry
  /-- The report backoff timer expires (R173). -/
  | backoffExpiry
  /-- A host write to either chip arrives during the start profile load (R72). -/
  | hostWriteHeld (address : Addr) (data : Word)
deriving DecidableEq, Repr

end Sys2Proof
end

