-- ==== Sys2Proof/WellFormed.lean ====
section
/-!
DEFINITION. Which commands the outside can send: the operands lie in the ranges the spec gives them. The meanings
do not need it (they are total on any operands); it says which terms of `Instr` stand for a step of the part.
-/

namespace Sys2Proof

/-- The command codes that name an operation (spec/12_record_and_frame_layouts.md, mailbox word 0). -/
def isCommandCode (code : Word) : Bool := 1 ≤ code.toNat && code.toNat ≤ 10

/-- The operands of a command lie in the ranges of the spec. -/
def Instr.wellFormed : Instr → Bool
  | .argumentWrite number _ => 1 ≤ number && number ≤ 4
  | .unknownCommand code => !isCommandCode code
  | .accountWrite offset _ => offset < 216
  | .profileWrite offset _ => offset < 1024
  | .tariffWrite offset _ => offset < 1602
  | .profileReadDone words => words.length == 16
  | .scanEntryRead words => words.length == 8
  | .startLoadSlotRead words _ => words.length == 24
  | .scrubReadDone words => words.length == 24
  | .powerStart | .lineStart | .hostPassWrite _ _ | .dial | .release | .setTime | .setAttention | .mapDump
  | .vaultCleared | .clearCondition _ | .reloadProfile | .reportNow | .testReport | .dialWordWrite _
  | .consumerIndexWrite _ | .changeWordWrite _ | .suppressedWrite _ _ | .captureUnlockRead _ | .partRunGrant _
  | .groupWriteComplete | .resultWordWritten | .mapCellWritten | .accountSlotWritten | .scanHeaderRead _ _
  | .flashReady | .flashReadFailBack _ | .scrubTurn | .coinMeasurement _ _ _ | .flapRelease | .vaultConfirm
  | .returnConfirm _ | .confirmLimitExpiry | .quietTimerExpiry | .clockSecond | .stepEnd | .graceExpiry
  | .clearingEnd | .loopCurrentChange _ | .loopLimitExpiry | .searchLimitExpiry | .dwellFigure _ | .dtmfToneEnd
  | .dtmfGapEnd | .pulseBreakEnd | .pulseMakeEnd | .polarityChange _ | .reversalHoldEnd | .clearHoldEnd
  | .answerTimeout | .timedAnswerExpiry | .reportPauseEnd | .lossTimerExpiry | .ackWaitExpiry
  | .dtmfSymbolReceived _ | .loopVoltageChange _ | .voltageWatchExpiry | .probeTimerExpiry | .hookDebounced _
  | .hangUpTimerExpiry | .abuseTimerExpiry | .flashAgeOut | .doorDebounced _ | .keyDebounced _
  | .switchSettled _ _ | .cordTimerExpiry _ | .shockPulse | .shockQuietExpiry | .pulseAgeOut | .hookQuietExpiry
  | .backoffExpiry | .hostWriteHeld _ _ => true

end Sys2Proof
end

