-- ==== Sys2Proof/Decode.lean ====
section
/-!
DEFINITION. The command that a word spells by the table's bits. The table of the PT-40 gives bits to no row
(spec/opcode_table.json: every row's "fields" is empty and none has "fixed"), so no word spells a command. The
codes of the mailbox operations are data of a host write, and the meanings read them (Machine/Mailbox.lean).
-/

namespace Sys2Proof

/-- The rows that have bits: none (spec/98_reader.md: "n_rows_with_fixed": 0, "n_rows_with_fields": 0). -/
def decodeTableWord (_nbits _w : Nat) : Option Instr := none

end Sys2Proof
end

