-- ==== Sys2Proof/Config.lean ====
section
/-!
DEFINITION. The free values: constants with no body, one for every point at which the manual leaves a value or
an order open. Nothing in Lean can evaluate one or prove a value of it, so a claim holds whatever they are.
Where a fresh value is needed each time, the part's own counter `free` is the argument.
-/

namespace Sys2Proof.Config

/-- How many words of a group write had reached memory when a start cut it (R66 says the written words keep
their new contents, and not how many there are); read modulo one more than the group's length. Log entry 7. -/
opaque cutWords : Nat → Nat

/-- Which of several expiries that fall due in one millisecond is taken first ("the one taken first decides",
R21, R122, R127 and others); read modulo the number of expiries still to place. Log entry 3. -/
opaque tieOrder : Nat → Nat

/-- Whether the raise of LINE_DOWN is taken before the outcome of the report call whose failure causes it (R173:
"Either order may occur"). Log entry 13. -/
opaque raiseBeforeOutcome : Nat → Bool

/-- Whether a host access that waits at the host bus port when the reset line is asserted is still presented
after the line start (the manual does not say). Log entry 8. -/
opaque accessSurvives : Nat → Bool

/-- Whether the detail of a check-word fault (cause 3 of R71) names the key ZZ, whose data word the check word
is, or no key. Log entry 11. -/
opaque checkFaultNamesZZ : Bool

/-- Whether the structure fault of a window that ends without a ZZ record (R70) names the key ZZ or no key.
Log entry 11. -/
opaque missingEndNamesZZ : Bool

/-- Whether the part read of account slot 0 is requested before that of the tariff header, when both are
requested at the end of the start profile load (R45, R84; R67 orders reads by request alone). Log entry 16. -/
opaque accountReadFirst : Nat → Bool

/-- Whether a coin that interrupts the vault confirm sensor in this millisecond stays in it, or passes (R22, R26: what
the sensor shows afterwards is the outside's). Log entry 9. -/
opaque vaultStays : Nat → Bool

/-- Whether a coin that interrupts the return confirm sensor in this millisecond stays in it, or passes. Log entry 9. -/
opaque returnStays : Nat → Bool

end Sys2Proof.Config
end

