-- ==== Sys2Proof/Machine/State.lean ====
section
/-!
DEFINITION. The state of the PT-40, as plain data: one structure for each of the eight units of spec/00_scope.md
("Units"), the input pins, the memory behind the port, and the queue of waiting commands. `State.reset` is the part
right after a power start. Each field's docstring names the rule that gives it.
-/

namespace Sys2Proof.Machine

/-! ## Common values -/

/-- The two starts (spec/00_scope.md, "Start kinds"). -/
inductive StartKind where
  | power
  | line
deriving DecidableEq, Repr

/-- A wall time: the day of week and the second of day, or UNSET (R92). -/
abbrev WallTime := Option (Nat × Nat)

/-- A running timer: the tick at which it was started and the milliseconds it runs for. -/
structure Timer where
  start : Tick
  limit : Nat
deriving DecidableEq, Repr

/-- The words of memory, as (address, word) pairs in one canonical form: addresses rising, no word 0 listed. -/
abbrev Memory := List (Nat × Word)

/-- The input pins, as the part reads them; the outside sets them. -/
structure Pins where
  /-- Raw hook switch reads OFF (R132). -/
  hookOff : Bool
  /-- Raw vault door switch reads OPEN (R151). -/
  doorOpen : Bool
  /-- Raw service key switch reads ON (R151). -/
  keyOn : Bool
  /-- Handset cord loop reads open (R153). -/
  cordOpen : Bool
  /-- Shock contact reads closed (R154). -/
  shockClosed : Bool
  /-- Head-occupied sensor shows a coin (R37). -/
  headOccupied : Bool
  /-- Vault confirm sensor reads interrupted (R22, R26). -/
  vaultBlocked : Bool
  /-- Return confirm sensor reads interrupted (R23, R26). -/
  returnBlocked : Bool
  /-- The flash's ready output shows busy (R69). -/
  flashBusy : Bool
  /-- Loop voltage sense shows present (R130). -/
  voltage : Bool
  /-- Loop current sense and polarity sense: no current, or current with this polarity (R113, R114). -/
  loop : Option Polarity
deriving DecidableEq, Repr

/-- The hold of a sampled input: the last reading and the milliseconds it has stood, counted up to 2,000. -/
structure Sampler where
  last : Bool
  held : Nat
deriving DecidableEq, Repr

/-- The holds behind the debouncers, the cord timer and the shock contact (R132, R151, R153, R154), and of the two
confirm sensors (R26). -/
structure Samplers where
  hook : Sampler
  door : Sampler
  key : Sampler
  cord : Sampler
  shock : Sampler
  vaultBlocked : Sampler
  returnBlocked : Sampler
deriving DecidableEq, Repr

/-! ## Bus Path Unit -/

/-- The kinds of window (R57). -/
inductive WindowKind where
  | profile
  | tariff
  | mailbox
  | status
  | account
  | callRing
  | reportRing
  | mapDump
deriving DecidableEq, Repr

/-- The seven bases that a start installs (R57); the PROFILE window is fixed at 0x20000. -/
structure Bases where
  tariff : Nat
  mailbox : Nat
  status : Nat
  account : Nat
  callRing : Nat
  reportRing : Nat
  mapDump : Nat
deriving DecidableEq, Repr

/-- Where a host access goes: an address, or a word of a window wherever the window stands when it is taken. -/
inductive Target where
  | address (a : Addr)
  | window (kind : WindowKind) (offset : Nat)
deriving DecidableEq, Repr

/-- A host access at the host bus port (R56). -/
inductive HostAccess where
  | write (target : Target) (data : Word)
  | read (target : Target)
deriving DecidableEq, Repr

/-- The groups that the part writes (R66). -/
inductive Group where
  | account (slot : Nat)
  | result
  | status (index : Nat)
  | report (slot : Nat)
  | call (slot : Nat)
  | cell (index : Nat)
deriving DecidableEq, Repr

/-- What a part read is for (R69): profile words from a window word, the tariff header, a tariff entry, and the
slot of a logical record for the start load or the scrubber. -/
inductive ReadPurpose where
  | profile (position : Nat)
  | scanHeader
  | scanEntry (index : Nat)
  | startLoad (record slot : Nat)
  | scrub (record slot : Nat)
deriving DecidableEq, Repr

/-- A part read, with the 50 ms busy limit it keeps once it has been set aside (R69). -/
structure PartRead where
  purpose : ReadPurpose
  limit : Option Timer
deriving DecidableEq, Repr

/-- The run that the memory port carries (R68): a group write, with the logical record of an account slot, its
address and its words; or a part read, marked when its requester has withdrawn from it. -/
inductive PortRun where
  | write (group : Group) (record : Option Nat) (address : Nat) (words : List Word)
  | read (request : PartRead) (discard : Bool)
deriving DecidableEq, Repr

/-- The capture record (R64). -/
structure Capture where
  locked : Bool
  empty : Bool
  address : Addr
  data : Word
  kind : Option WindowKind
  tick : Tick
  further : Nat
deriving DecidableEq, Repr

/-- The result codes (spec/12_record_and_frame_layouts.md). -/
inductive ResultCode where
  | done
  | pending
  | placed
  | notOffhook
  | noDigits
  | restricted
  | invalidNumber
  | barred
  | noCredit
  | tariffBad
  | rateUnavailable
  | notService
  | causePresent
  | kindQueued
  | notAllowed
  | range
  | unknown
deriving DecidableEq, Repr

/-- Which reading of the profile is in progress (R72, R73). -/
inductive LoadKind where
  | start
  | reload
deriving DecidableEq, Repr

/-- The Bus Path Unit. -/
structure Bpu where
  /-- Window table: none while it holds the PROFILE window alone (R57). -/
  windows : Option Bases
  /-- Copies of mailbox words 1 to 4 (R58). -/
  arg1 : Word
  arg2 : Word
  arg3 : Word
  arg4 : Word
  /-- Profile-changed flag (R61). -/
  profileChanged : Bool
  /-- Refused-write count (R63). -/
  refused : Nat
  /-- Capture record (R64). -/
  capture : Capture
  /-- Dirty-group set, in the order in which groups are chosen (R66, R67). -/
  dirty : List Group
  /-- Waiting part reads, first requested first (R69). -/
  waiting : List PartRead
  /-- Flash reads set aside on a busy flash (R69). -/
  aside : List PartRead
  /-- Starvation count (R68). -/
  starvation : Nat
  /-- The run on the memory port (R68). -/
  port : Option PortRun
  /-- Host accesses that wait for the port or are held (R56, R72); the first is the one presented. -/
  hostQueue : List HostAccess
  /-- The word the last taken host read returned (R56). -/
  readData : Word
  /-- The command in flight, by its code (R58, R175). -/
  inFlight : Option Nat
  /-- Result state: the code (R176). -/
  result : ResultCode
  /-- Result state: the command number (R175). -/
  number : BitVec 8
  /-- Attention causes that are set (R186), by bit as in the change word. -/
  causes : BitVec 9
  /-- Enable set (R187). -/
  enable : BitVec 9
  /-- The attention line is asserted (R186). -/
  attention : Bool
  /-- The profile reading in progress (R72, R73). -/
  load : Option LoadKind
  /-- Profile words read so far (R70). -/
  profileWords : List Word
deriving DecidableEq, Repr

/-! ## Coin Unit -/

/-- A coin type of the table (R2). -/
structure CoinType where
  value : Nat
  dp : Nat
  ap : Nat
  dd : Nat
  da : Nat
  enabled : Bool
deriving DecidableEq, Repr

/-- A coin type with its adaptive nominals (R4). -/
structure CoinSlot where
  type : CoinType
  d : Nat
  a : Nat
deriving DecidableEq, Repr

/-- The coin table with the limits that come with it (R2). -/
structure CoinTable where
  slots : List CoinSlot
  tmin : Nat
  tmax : Nat
  cluster : Nat
deriving DecidableEq, Repr

/-- The route reasons (spec/01_coin_validation.md, "Route reasons"). -/
inductive Reason where
  | none
  | transit
  | noMatch
  | disabled
  | onHook
  | refused
  | railFull
  | cap
  | vault
  | gateFault
deriving DecidableEq, Repr

/-- The coin event of S3 (R10). -/
structure CoinEvent where
  type : Nat
  value : Nat
  toRail : Bool
  reason : Reason
  d : Word
  a : Word
  t : Word
deriving DecidableEq, Repr

/-- An entry of the reject window (R12); the two rejects are kept apart for the detail of R13. -/
inductive Measured where
  | notRejected
  | transit
  | noMatch
deriving DecidableEq, Repr

/-- The map dump in flight: its clear flag, and the rejects held while the cell they belong to is being written
by a clearing dump (R16). -/
structure MapDump where
  clear : Bool
  held : Nat
deriving DecidableEq, Repr

/-- The Coin Unit. -/
structure Cu where
  /-- Coin table, transit window and cluster threshold in force (R2). -/
  table : Option CoinTable
  /-- Router flap powered toward the rail, with its 250 ms hold (R5). -/
  flap : Option Timer
  /-- Coin event (R10). -/
  event : CoinEvent
  /-- Coins routed to the rail (R11). -/
  accepted : Total
  /-- Coins sent to return (R11). -/
  returned : Total
  /-- Reject window, oldest first (R12). -/
  window : List Measured
  /-- Reject map by cell index, in memory's canonical form (R14). -/
  rejects : Memory
  /-- Map dump in flight (R16). -/
  dump : Option MapDump
deriving DecidableEq, Repr

/-! ## Rail Unit -/

/-- A coin on the rail (R18). -/
structure Coin where
  type : Nat
  value : Nat
deriving DecidableEq, Repr

/-- The gate states (R20). The gate's position follows from the state: `gatePosition` in Rail.lean. -/
inductive GateState where
  | hold
  | vaulting
  | refunding
  | fault
deriving DecidableEq, Repr

/-- The three positions that the RLU drives the gate to (R20). -/
inductive GatePosition where
  | hold
  | toVault
  | toReturn
deriving DecidableEq, Repr

/-- The start-up dump: before its beginning, running with its count of unbooked returns, or ended (R36 to R38). -/
inductive DumpState where
  | waiting
  | running (unbooked : Nat)
  | ended
deriving DecidableEq, Repr

/-- A charge request in flight, and whether its collects are being made (R28, R29). -/
structure ChargeRequest where
  amount : Nat
  collecting : Bool
deriving DecidableEq, Repr

/-- The Rail Unit. -/
structure Rlu where
  /-- Escrow rail, head first (R18). -/
  rail : List Coin
  /-- Gate state (R20). -/
  gate : GateState
  /-- Confirm limit of the cycle in progress (R21). -/
  cycle : Option Timer
  /-- Banked credit (R27). -/
  banked : Nat
  /-- Charge request in flight (R28). -/
  charge : Option ChargeRequest
  /-- Remaining count of the refund running or stopped in FAULT (R33, R34). -/
  refund : Option Nat
  /-- A refund is pending (R31). -/
  pendingRefund : Bool
  /-- A hang-up settlement waits for the answer to the charge in flight (R32). -/
  settlementDue : Bool
  /-- Start-up dump (R36). -/
  dump : DumpState
  /-- A CLEAR_CONDITION COIN_JAM waits for the gate state to be HOLD (R26). -/
  clearWaits : Bool
deriving DecidableEq, Repr

/-! ## Cash Account Unit -/

/-- MONEY (R41). -/
structure Money where
  accepted : Total
  refunded : Total
  collected : Total
  charged : Total
  forfeited : Total
  suspense : Total
  banked : Nat
  vaultValue : Total
  vaultCount : Nat
  railCount : Nat
  railTypes : List Nat
  unbooked : Nat
deriving DecidableEq, Repr

/-- TYPE COUNTS (R41): vault counts of types 1 to 8, and returned counts for ON_HOOK, REFUSED, RAIL_FULL, CAP,
VAULT and GATE_FAULT. -/
structure TypeCounts where
  vault : List Nat
  returned : List Nat
deriving DecidableEq, Repr

/-- CALL COUNTS (R41). -/
structure CallCounts where
  attempts : Total
  answered : Total
  free : Total
  cut : Total
  reportsSucceeded : Total
  reportsFailed : Total
deriving DecidableEq, Repr

/-- A vault clearance as LAST COLLECTION keeps it (R41). -/
structure Collection where
  time : WallTime
  value : Total
  count : Nat
deriving DecidableEq, Repr

/-- LAST COLLECTION (R41). -/
structure LastCollection where
  latest : Collection
  previous : Collection
deriving DecidableEq, Repr

/-- The header record (R40): the slots of logical records 1 to 4, the retired set and the spare count. -/
structure Header where
  slots : List Nat
  retired : List Nat
  spares : Nat
deriving DecidableEq, Repr

/-- The account start load: before it, reading the slot of a logical record, or ended (R45 to R47). -/
inductive LoadPhase where
  | waiting
  | reading (record : Nat)
  | ended
deriving DecidableEq, Repr

/-- The count events that can come before CALL COUNTS is loaded (R42, R47). -/
inductive CountEvent where
  | customer (answered free cut : Bool)
  | report (succeeded : Bool)
deriving DecidableEq, Repr

/-- A relocation in progress (R50). -/
structure Relocation where
  record : Nat
  oldSlot : Nat
  newSlot : Nat
deriving DecidableEq, Repr

/-- A scrub turn whose read has been requested: its record, its slot, and whether the slot has been marked dirty
or written since (R48). -/
structure ScrubTurn where
  record : Nat
  slot : Nat
  touched : Bool
deriving DecidableEq, Repr

/-- A vault clearance in flight: which of the two slot writes it waits for have completed (R55). -/
structure Clearance where
  moneyWritten : Bool
  lastWritten : Bool
deriving DecidableEq, Repr

/-- The Cash Account Unit. -/
structure Cau where
  /-- Shadow of the header (R40, R42). -/
  header : Header
  /-- Shadow of MONEY. -/
  money : Money
  /-- Shadow of TYPE COUNTS. -/
  types : TypeCounts
  /-- Shadow of CALL COUNTS. -/
  calls : CallCounts
  /-- Shadow of LAST COLLECTION. -/
  last : LastCollection
  /-- Faulted set of logical records (R46). -/
  faulted : List Nat
  /-- Strike records of slots 0 to 8 (R49). -/
  strikes : List (Option Nat)
  /-- Mismatch counts of records 0 to 4 (R49). -/
  mismatches : List Nat
  /-- Scrub position (R48). -/
  position : Nat
  /-- Pass number (R48). -/
  pass : Nat
  /-- Scrub timer (R48). -/
  scrub : Option Timer
  /-- The scrub turn whose read is awaited (R48). -/
  turn : Option ScrubTurn
  /-- Account start load (R45). -/
  load : LoadPhase
  /-- Count events that wait for their record's load (R47). -/
  early : List CountEvent
  /-- Capacity in force (R53). -/
  capacity : Option Nat
  /-- The profile's VC figure (R53). -/
  vc : Option Nat
  /-- Relocations in progress (R50). -/
  relocations : List Relocation
  /-- Vault clearance in flight (R55). -/
  clearance : Option Clearance
  /-- Records whose writes a CLEAR_CONDITION ACCOUNT_FAULT waits for (R52). -/
  clearing : List Nat
deriving DecidableEq, Repr

/-! ## Rating Unit -/

/-- A tariff entry as read (R76): eight digit positions, prefix length, class code, connection charge, band rates. -/
structure TariffEntry where
  digits : List Nat
  length : Nat
  cls : Nat
  c0 : Nat
  rates : List Nat
deriving DecidableEq, Repr

/-- A rate cache entry (R86). -/
structure CacheEntry where
  valid : Bool
  key : List Nat
  copy : TariffEntry
  index : Nat
  locked : Bool
  stale : Bool
  age : Nat
deriving DecidableEq, Repr

/-- The scan engine's state (R79); a lookup carries its number and its restart count (R82). -/
inductive Engine where
  | idle
  | lookup (number : List Nat) (restarts : Nat)
  | verify
deriving DecidableEq, Repr

/-- The progress of a scan (R79): entry count, table check word, running sum, best match with its table index,
and the lowest out-of-range entry. The reading position is the part read that is requested. -/
structure Scan where
  count : Nat
  check : Word
  sum : Word
  best : Option (Nat × TariffEntry)
  outOfRange : Option Nat
deriving DecidableEq, Repr

/-- The step timing states (R97). -/
inductive TimingState where
  | idle
  | running
  | waiting
  | held
deriving DecidableEq, Repr

/-- The step timing (R97): step index, the current step's band, start and end tick, the carried remainder, and
the start tick and band of the due step kept in HELD. -/
structure Timing where
  state : TimingState
  index : Total
  band : Nat
  start : Tick
  finish : Tick
  carry : Nat
  heldStart : Tick
  heldBand : Nat
deriving DecidableEq, Repr

/-- The Rating Unit. -/
structure Rtu where
  /-- Free prefix list (R75). -/
  freeList : List (List Nat)
  /-- Scan engine (R79). -/
  engine : Engine
  /-- Scan progress (R79). -/
  scan : Scan
  /-- Quiet timer (R84). -/
  quiet : Option Timer
  /-- Verification-due mark (R84). -/
  verifyDue : Bool
  /-- Rate cache, entries 0 to 7 (R86). -/
  cache : List CacheEntry
  /-- Wall clock: UNSET, or day of week and second of day (R92). -/
  clock : WallTime
  /-- The tick at which the millisecond phase last stood at 0 (R92). -/
  second : Tick
  /-- Band calendar: for each day, boundaries of a second of day and a band (R94). -/
  calendar : Option (List (List (Nat × Nat)))
  /-- Charge step s and grace time in seconds (R95). -/
  steps : Option (Nat × Nat)
  /-- Band in force as last judged (R94). -/
  band : Nat
  /-- Step timing (R97). -/
  timing : Timing
deriving DecidableEq, Repr

/-! ## Line Unit -/

/-- The line states (R108). -/
inductive LineState where
  | idle
  | seizing
  | searching
  | dialling
  | awaitAnswer
  | connected
  | sending
  | awaitAck
  | clearing
deriving DecidableEq, Repr

/-- The line owners (R108). -/
inductive Owner where
  | none
  | customer
  | report
  | probe
deriving DecidableEq, Repr

/-- The polarity policies (R112). -/
inductive Policy where
  | auto
  | normal
  | inverted
deriving DecidableEq, Repr

/-- The line settings (R112). -/
structure LineSettings where
  pulse : Bool
  policy : Policy
  timed : Bool
  depth : Nat
  threshold : Nat
  inCall : Bool
deriving DecidableEq, Repr

/-- The sweep of the dial-tone search (R115): whether it is the second, its best step and figure, its miss count. -/
structure Sweep where
  second : Bool
  best : Option (Nat × Nat)
  misses : Nat
deriving DecidableEq, Repr

/-- What the digit sender is doing (R118, R119). -/
inductive SendPhase where
  | idle
  | tone
  | gap
  | breaking
  | making
deriving DecidableEq, Repr

/-- The digit sender (R118, R119): its phase, the symbol being sent, the breaks of that digit still to come, the
symbols still to come, and the phase's timer. -/
structure Sender where
  phase : SendPhase
  symbol : Nat
  breaks : Nat
  rest : List Nat
  timer : Option Timer
deriving DecidableEq, Repr

/-- A cadence period in progress: on or off, its dwells, and whether it will be judged (R121). -/
structure Period where
  on : Bool
  dwells : Nat
  judged : Bool
deriving DecidableEq, Repr

/-- The tone classifier (R121): the period in progress, the length of the judged on period before it, the busy
cycles in a row, whether ringback has been classified, and the tick of the last on dwell (R124). -/
structure Classifier where
  period : Option Period
  onLength : Option Nat
  cycles : Nat
  ringback : Bool
  lastOn : Option Tick
deriving DecidableEq, Repr

/-- The loss timer (R127): milliseconds counted, and the tick from which it runs on. -/
structure LossTimer where
  counted : Nat
  since : Option Tick
deriving DecidableEq, Repr

/-- The seizes' outcomes (R129). -/
inductive LineOutcome where
  | noLoop
  | noDialtone
  | busy
  | noAnswer
  | lineLost
  | farClear
deriving DecidableEq, Repr

/-- The Line Unit. -/
structure Lu where
  /-- Line state and owner (R108). -/
  line : LineState
  owner : Owner
  /-- Waiting seize of the customer, with its number (R109). -/
  waitingSeize : Option (List Nat)
  /-- Line settings in force, and the copy of the seize (R112). -/
  settings : Option LineSettings
  copy : Option LineSettings
  /-- Polarity reference (R114). -/
  reference : Option Polarity
  /-- Gain step and last good step (R115, R116). -/
  gain : Nat
  lastGood : Nat
  /-- Search sweep (R115), and whether loop current has been absent in the dwell in progress. -/
  sweep : Sweep
  spoiled : Bool
  /-- Failed-seize count (R129). -/
  failedSeizes : Nat
  /-- The number of the seize (R109). -/
  number : List Nat
  /-- Digit sender (R118) and in-call queue (R120). -/
  sender : Sender
  inCall : List Nat
  /-- Tone classifier (R121). -/
  classifier : Classifier
  /-- Loss timer (R127), voltage watch (R130), probe timer and due probe (R131). -/
  loss : LossTimer
  voltWatch : Option Timer
  probe : Option Timer
  probeDue : Bool
  /-- Timers of CLEARING (R108), of the seize (R113), of the holds (R123, R126), of answer (R122; its start is the
  end of dialling), of the report call's pause (R125) and of the acknowledgement (R128). -/
  clearing : Option Timer
  loopLimit : Option Timer
  searchLimit : Option Timer
  reversalHold : Option Timer
  clearHold : Option Timer
  answerLimit : Option Timer
  pause : Option Timer
  ackWait : Option Timer
  /-- The polarity that the sense showed last stood opposite at the entry to AWAIT_ANSWER, and the sense has not
  returned to the reference (R114, R123). -/
  mustReturn : Bool
  /-- The polarity that the sense showed before the loop current was last lost (R114, R123; log entry 31). -/
  shown : Option Polarity
  /-- ANSWERED has been handed to the CRU, and frames are taken from then on (R125, R128). -/
  announced : Bool
deriving DecidableEq, Repr

/-! ## Call Controller -/

/-- The call states (R134). -/
inductive CallState where
  | idle
  | collecting
  | rating
  | placing
  | talking
  | grace
  | ending
deriving DecidableEq, Repr

/-- The classes, by their codes 0 to 6 (spec/12_record_and_frame_layouts.md). -/
inductive CallClass where
  | noClass
  | freeClass
  | localClass
  | nationalClass
  | mobileClass
  | internationalClass
  | barredClass
deriving DecidableEq, Repr

/-- The outcomes of a call (R141), by their codes 0 to 9. -/
inductive CallOutcome where
  | localClear
  | farClear
  | creditExhausted
  | released
  | busy
  | noAnswer
  | noDialtone
  | noLoop
  | lineLost
  | abandoned
deriving DecidableEq, Repr

/-- A tick kept with a figure: the answer tick with the band at answer (R139). -/
structure AnswerMark where
  tick : Tick
  band : Nat
deriving DecidableEq, Repr

/-- The outcome of an ending call with its ending tick (R141). -/
structure EndingMark where
  outcome : CallOutcome
  tick : Tick
deriving DecidableEq, Repr

/-- The call under construction (R138): class, table or free-prefix index, locked cache entry, digits, start wall
time, the answer, the vault confirms counted (R139), and the ending. -/
structure PlacedCall where
  cls : CallClass
  index : Nat
  entry : Option Nat
  digits : List Nat
  startTime : WallTime
  answer : Option AnswerMark
  collected : Nat
  ending : Option EndingMark
deriving DecidableEq, Repr

/-- A CALL record (R144). The duration and the band at answer are present together. -/
structure CallRecord where
  outcome : CallOutcome
  cls : CallClass
  index : Nat
  digits : List Nat
  startTime : WallTime
  answered : Option (Nat × Nat)
  steps : Nat
  charged : Nat
  collected : Nat
  toRefund : Nat
deriving DecidableEq, Repr

/-- A record of the call ring (R145, R147). -/
inductive RingRecord where
  | call (r : CallRecord)
  | collection (c : Collection)
  | start (kind : StartKind) (time : WallTime)
deriving DecidableEq, Repr

/-- The Call Controller. -/
structure Cc where
  /-- Debounced hook state is OFF (R132). -/
  off : Bool
  /-- Hang-up timer, flash list and abuse timer (R133). -/
  hangUp : Option Timer
  flashes : List Tick
  abuse : Option Timer
  /-- Call state (R134). -/
  call : CallState
  /-- Digit list and ignored-digit count (R136). -/
  digits : List Nat
  ignored : Nat
  /-- Class published in S2 (R138). -/
  cls : CallClass
  /-- Call under construction (R138). -/
  placed : Option PlacedCall
  /-- Steps started and charged so far (R101). -/
  steps : Nat
  charged : Nat
  /-- The current step is paid (R101). -/
  paid : Bool
  /-- Grace timer, its expiry with a retry in flight, the amount owed, and the note of a coin (R102 to R104). -/
  grace : Option Timer
  graceOver : Bool
  owed : Nat
  noted : Bool
  /-- Low-credit flag (R106). -/
  low : Bool
  /-- Call ring: producer and consumer index, held count, lost-record count (R145). -/
  producer : Nat
  consumer : Nat
  heldCount : Nat
  lost : Nat
  /-- Records appended and not yet written, by slot (R145). -/
  records : List (Nat × RingRecord)
deriving DecidableEq, Repr

/-! ## Condition and Report Unit -/

/-- The fourteen condition kinds, in the order of their codes 01 to 14. -/
inductive Condition where
  | vaultForced
  | vaultNearFull
  | vaultFull
  | coinJam
  | slugCluster
  | rejectBurst
  | handsetCut
  | shock
  | hookAbuse
  | lineDown
  | accountTamper
  | accountFault
  | tariffBad
  | profileBad
deriving DecidableEq, Repr

/-- A row of the condition table (R148). -/
structure ConditionRow where
  active : Bool
  count : Nat
  last : Option WallTime
  detail : Nat
deriving DecidableEq, Repr

/-- The restriction levels (R155). -/
inductive Restriction where
  | full
  | coinsRefused
  | freeOnly
  | noCalls
deriving DecidableEq, Repr

/-- The kind of a report: a condition, or TEST (R161). -/
inductive ReportKind where
  | condition (k : Condition)
  | test
deriving DecidableEq, Repr

/-- A report record with its ring slot (R161, R162); its severity is its kind's. -/
structure ReportRecord where
  kind : ReportKind
  sending : Bool
  sequence : Total
  count : Nat
  first : WallTime
  last : WallTime
  detail : Nat
  attempts : Nat
  sent : Option Nat
  updated : Bool
  firstMerge : Option WallTime
  slot : Nat
deriving DecidableEq, Repr

/-- The report call in progress (R167 to R171): the phone identity kept for it, the sends of the record being sent,
and the accepted count. -/
structure ReportCall where
  identity : List Nat
  sends : Nat
  accepted : Nat
deriving DecidableEq, Repr

/-- The Condition and Report Unit. -/
structure Cru where
  /-- Condition table, code 01 first (R148). -/
  rows : List ConditionRow
  /-- Debounced door (OPEN is true) and key (ON is true); none while unsettled (R151). -/
  door : Option Bool
  key : Option Bool
  /-- The positions at which the door and the key settled after the start; none while unsettled (R151, R152). -/
  doorSettled : Option Bool
  keySettled : Option Bool
  /-- Door mark (R151). -/
  doorMark : Bool
  /-- Restriction (R155). -/
  restriction : Restriction
  /-- Shock pulse list and shock quiet timer (R154). -/
  pulses : List Tick
  shockQuiet : Option Timer
  /-- Report queue in join order, sequence counter, dropped count (R161, R165). -/
  queue : List ReportRecord
  sequence : Total
  dropped : Nat
  /-- Report call in progress (R167). -/
  report : Option ReportCall
  /-- Failure count and backoff timer (R173). -/
  failures : Nat
  backoff : Option Timer
  /-- Hook quiet timer, and whether its 5,000 ms have passed with the hook ON (R167). -/
  hookQuiet : Option Timer
  quietReached : Bool
  /-- Report number and phone identity in force (R167). -/
  number : Option (List Nat)
  identity : Option (List Nat)
deriving DecidableEq, Repr

/-! ## The part and the state -/

/-- The PT-40 without the queue of commands: everything the manual gives the part. -/
structure Part where
  /-- Tick (spec/00_scope.md, "Time"). -/
  tick : Tick
  /-- The kind of the last start (R147). -/
  started : StartKind
  /-- The MODEL's own counter: the argument of the next free value (Config). -/
  free : Nat
  /-- The words stored in the two memory chips through the port (R56, R66). -/
  mem : Memory
  /-- Input pins. -/
  pins : Pins
  /-- Holds of the sampled inputs. -/
  samplers : Samplers
  bpu : Bpu
  cu : Cu
  rlu : Rlu
  cau : Cau
  rtu : Rtu
  lu : Lu
  cc : Cc
  cru : Cru
deriving DecidableEq, Repr

/-- The machine: the part, and the commands that wait for it, first in first out. -/
structure State where
  part : Part
  pending : List Instr
deriving DecidableEq, Repr

/-- No command of the PT-40 stops the machine with a fault: the manual names no event after which the part stops,
so there is no reason to give. -/
inductive Fault where
deriving DecidableEq, Repr

/-- Why a command is refused. -/
inductive Refusal where
  /-- Raised by `exec` for a command that has no meaning yet (none: every row of the table has one). Safe: a claim
  about the command could only become unprovable. -/
  | notModelled (mnemonic : String)
deriving DecidableEq, Repr

/-! ## The state after a start -/

/-- The pins with nothing happening: handset on its hook, door closed, key off, cord whole, rail and chutes empty,
flash ready, exchange battery on the open loop. DESIGN CHOICE, log entry 10. -/
def Pins.quiet : Pins :=
  { hookOff := false, doorOpen := false, keyOn := false, cordOpen := false, shockClosed := false,
    headOccupied := false, vaultBlocked := false, returnBlocked := false, flashBusy := false, voltage := true,
    loop := none }

/-- A hold that begins with this reading (R26, R132, R151, R153, R154). -/
def Sampler.begin (reading : Bool) : Sampler := { last := reading, held := 0 }

/-- The holds at a start: each input's present reading, held for 0 ms. -/
def Samplers.begin (pins : Pins) : Samplers :=
  { hook := Sampler.begin pins.hookOff, door := Sampler.begin pins.doorOpen, key := Sampler.begin pins.keyOn,
    cord := Sampler.begin pins.cordOpen, shock := Sampler.begin pins.shockClosed,
    vaultBlocked := Sampler.begin pins.vaultBlocked, returnBlocked := Sampler.begin pins.returnBlocked }

/-- The capture record after a start: UNLOCKED and empty, every field 0 (R64). -/
def Capture.fresh : Capture :=
  { locked := false, empty := true, address := 0, data := 0, kind := none, tick := 0, further := 0 }

/-- The Bus Path Unit at a start: the window table holds PROFILE alone, and the first part read of the start
profile load is requested (R57, R72). -/
def Bpu.fresh : Bpu :=
  { windows := none, arg1 := 0, arg2 := 0, arg3 := 0, arg4 := 0, profileChanged := false, refused := 0,
    capture := Capture.fresh, dirty := [], waiting := [{ purpose := .profile 0, limit := none }], aside := [],
    starvation := 0, port := none, hostQueue := [], readData := 0, inFlight := none, result := .done, number := 0,
    causes := 0, enable := 0, attention := false, load := some .start, profileWords := [] }

/-- The Coin Unit at a start (spec/01_coin_validation.md, "State of the Coin Unit after each start"). -/
def Cu.fresh : Cu :=
  { table := none, flap := none,
    event := { type := 0, value := 0, toRail := false, reason := .none, d := 0, a := 0, t := 0 },
    accepted := 0, returned := 0, window := [], rejects := [], dump := none }

/-- The Rail Unit at a start: the gate at HOLD, the rail not yet listed, the start-up dump first in line (R20, R31). -/
def Rlu.fresh : Rlu :=
  { rail := [], gate := .hold, cycle := none, banked := 0, charge := none, refund := none, pendingRefund := false,
    settlementDue := false, dump := .waiting, clearWaits := false }

/-- MONEY taken as zero (R46). -/
def Money.zero : Money :=
  { accepted := 0, refunded := 0, collected := 0, charged := 0, forfeited := 0, suspense := 0, banked := 0,
    vaultValue := 0, vaultCount := 0, railCount := 0, railTypes := [], unbooked := 0 }

/-- TYPE COUNTS taken as zero (R46). -/
def TypeCounts.zero : TypeCounts := { vault := List.replicate 8 0, returned := List.replicate 6 0 }

/-- CALL COUNTS taken as zero (R46). -/
def CallCounts.zero : CallCounts :=
  { attempts := 0, answered := 0, free := 0, cut := 0, reportsSucceeded := 0, reportsFailed := 0 }

/-- A clearance that has not been made: the wall time UNSET, no value, no coins (R41). -/
def Collection.unset : Collection := { time := none, value := 0, count := 0 }

/-- The default header (R40). -/
def Header.default : Header := { slots := [1, 2, 3, 4], retired := [], spares := 4 }

/-- The Cash Account Unit at a start, before its load (R45): what the load will take stands at its default. -/
def Cau.fresh : Cau :=
  { header := Header.default, money := Money.zero, types := TypeCounts.zero, calls := CallCounts.zero,
    last := { latest := Collection.unset, previous := Collection.unset }, faulted := [],
    strikes := List.replicate 9 none, mismatches := List.replicate 5 0, position := 1, pass := 0, scrub := none,
    turn := none, load := .waiting, early := [], capacity := none, vc := none, relocations := [], clearance := none,
    clearing := [] }

/-- An empty tariff entry, the contents of a cache entry that is not valid. -/
def TariffEntry.blank : TariffEntry := { digits := [], length := 0, cls := 0, c0 := 0, rates := [] }

/-- An invalid cache entry (R86). -/
def CacheEntry.invalid : CacheEntry :=
  { valid := false, key := [], copy := TariffEntry.blank, index := 0, locked := false, stale := false, age := 0 }

/-- A scan that has read nothing (R79). -/
def Scan.fresh : Scan := { count := 0, check := 0, sum := 0, best := none, outOfRange := none }

/-- Step timing IDLE (R97), with step index 0 and no carried remainder. -/
def Timing.fresh : Timing :=
  { state := .idle, index := 0, band := 0, start := 0, finish := 0, carry := 0, heldStart := 0, heldBand := 0 }

/-- The Rating Unit at a power start (R75, R79, R84, R86, R92, R94, R97). -/
def Rtu.fresh : Rtu :=
  { freeList := [], engine := .idle, scan := Scan.fresh, quiet := none, verifyDue := false,
    cache := List.replicate 8 CacheEntry.invalid, clock := none, second := 0, calendar := none, steps := none,
    band := 0, timing := Timing.fresh }

/-- The digit sender at rest. -/
def Sender.still : Sender := { phase := .idle, symbol := 0, breaks := 0, rest := [], timer := none }

/-- A tone classifier that starts empty (R121), with no ringback and no on dwell yet. -/
def Classifier.empty : Classifier :=
  { period := none, onLength := none, cycles := 0, ringback := false, lastOn := none }

/-- The Line Unit at a power start: CLEARING for 1,000 ms with no owner, last good step 8 (R108, R116). -/
def Lu.fresh : Lu :=
  { line := .clearing, owner := .none, waitingSeize := none, settings := none, copy := none, reference := none,
    gain := 0, lastGood := 8, sweep := { second := false, best := none, misses := 0 }, spoiled := false,
    failedSeizes := 0, number := [], sender := Sender.still, inCall := [], classifier := Classifier.empty,
    loss := { counted := 0, since := none }, voltWatch := none, probe := none, probeDue := false,
    clearing := some { start := 0, limit := 1000 }, loopLimit := none, searchLimit := none, reversalHold := none,
    clearHold := none, answerLimit := none, pause := none, ackWait := none, mustReturn := false, shown := none,
    announced := false }

/-- The Call Controller at a start (spec/08_calls_and_call_records.md, "State of the Call Controller after each
start"). -/
def Cc.fresh : Cc :=
  { off := false, hangUp := none, flashes := [], abuse := none, call := .idle, digits := [], ignored := 0,
    cls := .noClass, placed := none, steps := 0, charged := 0, paid := false, grace := none, graceOver := false,
    owed := 0, noted := false, low := false, producer := 0, consumer := 0, heldCount := 0, lost := 0, records := [] }

/-- A clear row: count 0, last raise absent, detail 0 (R148). -/
def ConditionRow.clear : ConditionRow := { active := false, count := 0, last := none, detail := 0 }

/-- The Condition and Report Unit at a start (R148 to R174); the hook quiet timer starts with the start (R167). -/
def Cru.fresh : Cru :=
  { rows := List.replicate 14 ConditionRow.clear, door := none, key := none, doorSettled := none, keySettled := none,
    doorMark := false, restriction := .full,
    pulses := [], shockQuiet := none, queue := [], sequence := 0, dropped := 0, report := none, failures := 0,
    backoff := none, hookQuiet := some { start := 0, limit := 5000 }, quietReached := false, number := none,
    identity := none }

/-- The part right after a power start, with the pins quiet and nothing stored through the port yet. -/
def Part.reset : Part :=
  { tick := 0, started := .power, free := 0, mem := [], pins := Pins.quiet, samplers := Samplers.begin Pins.quiet,
    bpu := Bpu.fresh, cu := Cu.fresh, rlu := Rlu.fresh, cau := Cau.fresh, rtu := Rtu.fresh, lu := Lu.fresh,
    cc := Cc.fresh, cru := Cru.fresh }

/-- The machine right after a power start, with no command waiting. -/
def State.reset : State := { part := Part.reset, pending := [] }

end Sys2Proof.Machine
end

