-- ==== Sys2Proof/Machine/Operands.lean ====
section
/-!
DEFINITION. The forms of words (spec/12_record_and_frame_layouts.md): how figures, digit lists, wall times and check
words are put into words and read back, and the codes of the named values.
-/

namespace Sys2Proof.Machine

/-! ## Numbers -/

/-- A word that carries a figure: its low 16 bits. -/
def word (n : Nat) : Word := BitVec.ofNat 16 n

/-- Bits `low` to `low + length - 1` of a word, as a number. -/
def bits (w : Word) (low length : Nat) : Nat := w.toNat / 2 ^ low % 2 ^ length

/-- A flag at a bit position. -/
def flagBit (position : Nat) (b : Bool) : Nat := if b then 2 ^ position else 0

/-- A count that saturates at a limit (spec/00_scope.md, "Numbers"). -/
def satAdd (limit n : Nat) : Nat := min limit (n + 1)

/-- A 32-bit figure in two words, low word first. -/
def totalWords (t : Total) : List Word := [t.setWidth 16, (t >>> 16).setWidth 16]

/-- The 32-bit figure of two words, low word first. -/
def totalOf (low high : Word) : Total := BitVec.ofNat 32 (low.toNat + 65536 * high.toNat)

/-- An amount added to a 32-bit total, which wraps. -/
def addTo (t : Total) (amount : Nat) : Total := t + BitVec.ofNat 32 amount

/-- A run of exactly `n` words: what a part read of `n` words takes from what the chip delivers. -/
def fit (n : Nat) (words : List Word) : List Word := (words ++ List.replicate n 0).take n

/-- Word `i` of a record. -/
def wordAt (words : List Word) (i : Nat) : Word := words.getD i 0

/-! ## Digits and wall times (R188) -/

/-- Four digit codes in one word, the first in bits 0 to 3. -/
def packFour (a b c d : Nat) : Word := word (a % 16 + 16 * (b % 16) + 256 * (c % 16) + 4096 * (d % 16))

/-- A digit list packed into `n` words; positions beyond the list are code 0. -/
def packDigits : Nat → List Nat → List Word
  | 0, _ => []
  | n + 1, ds => packFour (ds.getD 0 0) (ds.getD 1 0) (ds.getD 2 0) (ds.getD 3 0) :: packDigits n (ds.drop 4)

/-- The four digit codes of a word. -/
def unpackWord (w : Word) : List Nat := [bits w 0 4, bits w 4 4, bits w 8 4, bits w 12 4]

/-- The digit codes of a run of words. -/
def unpackDigits : List Word → List Nat
  | [] => []
  | w :: ws => unpackWord w ++ unpackDigits ws

/-- A wall time in two words: the second of day modulo 65,536, then day × 2 + floor(second / 65,536); UNSET is
0 and 0xFFFF. -/
def wallWords : WallTime → List Word
  | none => [0, 0xFFFF]
  | some (day, second) => [word second, word (day * 2 + second / 65536)]

/-- The wall time of two words. -/
def wallOf (low high : Word) : WallTime :=
  if low = 0 ∧ high = 0xFFFF then none else some (high.toNat / 2, low.toNat + 65536 * (high.toNat % 2))

/-- An optional wall time; absent is 0xFFFF in both words (R189). -/
def optionalWall : Option WallTime → List Word
  | none => [0xFFFF, 0xFFFF]
  | some t => wallWords t

/-- An optional figure of one word; absent is 0xFFFF (R189). -/
def optionalWord : Option Nat → Word
  | none => 0xFFFF
  | some n => word n

/-! ## Check words (R39, R70, R77) -/

/-- The 16-bit sum of a run of words. -/
def sumWords : List Word → Word
  | [] => 0
  | w :: ws => w + sumWords ws

/-- The check word of an account record: the complement of the sum of its data words plus its logical number. -/
def accountCheck (record : Nat) (data : List Word) : Word := ~~~(sumWords data + word record)

/-! ## Codes (spec/12_record_and_frame_layouts.md, "Mailbox and codes") -/

def ResultCode.code : ResultCode → Nat
  | .done => 0 | .pending => 1 | .placed => 2 | .notOffhook => 3 | .noDigits => 4 | .restricted => 5
  | .invalidNumber => 6 | .barred => 7 | .noCredit => 8 | .tariffBad => 9 | .rateUnavailable => 10
  | .notService => 11 | .causePresent => 12 | .kindQueued => 13 | .notAllowed => 14 | .range => 15 | .unknown => 16

def CallClass.code : CallClass → Nat
  | .noClass => 0 | .freeClass => 1 | .localClass => 2 | .nationalClass => 3 | .mobileClass => 4
  | .internationalClass => 5 | .barredClass => 6

/-- The class of a tariff entry's class code; a code outside 2 to 6 is out of range (R76). -/
def classOf : Nat → CallClass
  | 2 => .localClass | 3 => .nationalClass | 4 => .mobileClass | 5 => .internationalClass | 6 => .barredClass
  | _ => .noClass

def CallState.code : CallState → Nat
  | .idle => 0 | .collecting => 1 | .rating => 2 | .placing => 3 | .talking => 4 | .grace => 5 | .ending => 6

def LineState.code : LineState → Nat
  | .idle => 0 | .seizing => 1 | .searching => 2 | .dialling => 3 | .awaitAnswer => 4 | .connected => 5
  | .sending => 6 | .awaitAck => 7 | .clearing => 8

def Owner.code : Owner → Nat
  | .none => 0 | .customer => 1 | .report => 2 | .probe => 3

def GateState.code : GateState → Nat
  | .hold => 0 | .vaulting => 1 | .refunding => 2 | .fault => 3

def TimingState.code : TimingState → Nat
  | .idle => 0 | .running => 1 | .waiting => 2 | .held => 3

def CallOutcome.code : CallOutcome → Nat
  | .localClear => 0 | .farClear => 1 | .creditExhausted => 2 | .released => 3 | .busy => 4 | .noAnswer => 5
  | .noDialtone => 6 | .noLoop => 7 | .lineLost => 8 | .abandoned => 9

/-- The window kinds a captured write can have; the flash windows are never captured (R64). -/
def WindowKind.code : WindowKind → Nat
  | .mailbox => 1 | .status => 2 | .account => 3 | .callRing => 4 | .reportRing => 5 | .mapDump => 6
  | .profile => 0 | .tariff => 0

def Reason.code : Reason → Nat
  | .none => 0 | .transit => 1 | .noMatch => 2 | .disabled => 3 | .onHook => 4 | .refused => 5 | .railFull => 6
  | .cap => 7 | .vault => 8 | .gateFault => 9

/-- The place of a routing reason among the returned counts of TYPE COUNTS (R41); the other reasons have none (R9). -/
def Reason.countIndex : Reason → Option Nat
  | .onHook => some 0 | .refused => some 1 | .railFull => some 2 | .cap => some 3 | .vault => some 4
  | .gateFault => some 5 | .none => Option.none | .transit => Option.none | .noMatch => Option.none
  | .disabled => Option.none

/-- The rank of a restriction level (R155), which is also its code. -/
def Restriction.level : Restriction → Nat
  | .full => 0 | .coinsRefused => 1 | .freeOnly => 2 | .noCalls => 3

/-- The restriction level of a rank. -/
def restrictionOf : Nat → Restriction
  | 0 => .full | 1 => .coinsRefused | 2 => .freeOnly | _ => .noCalls

/-! ## Condition kinds (spec/09_conditions_and_service_state.md, "Condition kinds") -/

def Condition.code : Condition → Nat
  | .vaultForced => 1 | .vaultNearFull => 2 | .vaultFull => 3 | .coinJam => 4 | .slugCluster => 5
  | .rejectBurst => 6 | .handsetCut => 7 | .shock => 8 | .hookAbuse => 9 | .lineDown => 10
  | .accountTamper => 11 | .accountFault => 12 | .tariffBad => 13 | .profileBad => 14

/-- The kind of a condition code 1 to 14. -/
def conditionOf : Nat → Option Condition
  | 1 => some .vaultForced | 2 => some .vaultNearFull | 3 => some .vaultFull | 4 => some .coinJam
  | 5 => some .slugCluster | 6 => some .rejectBurst | 7 => some .handsetCut | 8 => some .shock
  | 9 => some .hookAbuse | 10 => some .lineDown | 11 => some .accountTamper | 12 => some .accountFault
  | 13 => some .tariffBad | 14 => some .profileBad | _ => none

/-- The level each kind holds while active. -/
def Condition.restriction : Condition → Restriction
  | .vaultForced => .freeOnly | .vaultNearFull => .full | .vaultFull => .coinsRefused | .coinJam => .coinsRefused
  | .slugCluster => .full | .rejectBurst => .coinsRefused | .handsetCut => .noCalls | .shock => .full
  | .hookAbuse => .full | .lineDown => .noCalls | .accountTamper => .full | .accountFault => .coinsRefused
  | .tariffBad => .freeOnly | .profileBad => .noCalls

/-- Severity URGENT; the other kinds are ROUTINE, and PROFILE_BAD, which is never reported, has none. -/
def Condition.urgent : Condition → Bool
  | .vaultForced => true | .coinJam => true | .handsetCut => true | .lineDown => true | .accountTamper => true
  | .accountFault => true | .vaultNearFull => false | .vaultFull => false | .slugCluster => false
  | .rejectBurst => false | .shock => false | .hookAbuse => false | .tariffBad => false | .profileBad => false

/-- The kinds that clear by CLEAR_CONDITION in service mode. -/
def Condition.serviceCleared : Condition → Bool
  | .vaultForced => true | .coinJam => true | .accountTamper => true | .accountFault => true
  | .vaultNearFull => false | .vaultFull => false | .slugCluster => false | .rejectBurst => false
  | .handsetCut => false | .shock => false | .hookAbuse => false | .lineDown => false | .tariffBad => false
  | .profileBad => false

/-- The kind code of a report: the condition's, or 15 for TEST (R161). -/
def ReportKind.code : ReportKind → Nat
  | .condition k => k.code
  | .test => 15

/-- The severity of a report: its kind's; TEST is ROUTINE (R161). -/
def ReportKind.urgent : ReportKind → Bool
  | .condition k => k.urgent
  | .test => false

end Sys2Proof.Machine
end

