-- ==== Sys2Proof/Machine/Profile.lean ====
section
/-!
DEFINITION. The profile (spec/04_the_memory_path.md, "The profile"): the tagged records, how the loader reads them
(R70), the form of each record's data (spec/12_record_and_frame_layouts.md, "Profile records"), and the judgement
whether the profile is good (R71). Pure functions of the words read.
-/

namespace Sys2Proof.Machine

/-- The keys, in the order of the key table; `position` counts from 1. -/
inductive Key where
  | wb
  | pi
  | ct
  | cp
  | vc
  | ss
  | ln
  | rn
  | fp
  | bc
  | zz
deriving DecidableEq, Repr

/-- A key's position in the key table, 1 for WB to 11 for ZZ (R71). -/
def Key.position : Key → Nat
  | .wb => 1 | .pi => 2 | .ct => 3 | .cp => 4 | .vc => 5 | .ss => 6 | .ln => 7 | .rn => 8 | .fp => 9 | .bc => 10
  | .zz => 11

/-- The key of a key word: the first letter's character code in bits 8 to 15, the second's in bits 0 to 7. Any other
word is an unknown key. -/
def keyOf (w : Word) : Option Key :=
  if w = 0x5742 then some .wb else if w = 0x5049 then some .pi else if w = 0x4354 then some .ct
  else if w = 0x4350 then some .cp else if w = 0x5643 then some .vc else if w = 0x5353 then some .ss
  else if w = 0x4C4E then some .ln else if w = 0x524E then some .rn else if w = 0x4650 then some .fp
  else if w = 0x4243 then some .bc else if w = 0x5A5A then some .zz else none

/-- The position of an optional key: 0 where no key is concerned (R71). -/
def keyPosition : Option Key → Nat
  | none => 0
  | some k => k.position

/-- A record of the profile: its key, if it is a known one, and its data words. -/
structure ProfileRecord where
  key : Option Key
  data : List Word
deriving DecidableEq, Repr

/-- What the words read so far come to (R70): more words are needed; the reading has ended in a structure fault that
concerns this key position; or it has ended at the ZZ record, with the records before it and whether the check
matches. -/
inductive Reading where
  | more
  | structureFault (position : Nat)
  | ended (records : List ProfileRecord) (checks : Bool)
deriving DecidableEq, Repr

/-- Read the records from window word `at_` on (R70). `sum` is the sum of the words before it. Each record takes at
least two words, so 513 rounds reach the end of the window. -/
def readRecords : Nat → Nat → Word → List ProfileRecord → List Word → Reading
  | 0, _, _, _, _ => .more
  | rounds + 1, at_, sum, records, key :: length :: data =>
    let n := length.toNat
    if n > 255 ∨ at_ + 2 + n > 1024 then .structureFault (keyPosition (keyOf key))
    else if keyOf key = some .zz then
      if n ≠ 1 then .structureFault (keyPosition (some .zz))
      else match data with
        | [] => .more
        | check :: _ => .ended records (check == ~~~(sum + key + length))
    else if data.length < n then .more
    else readRecords rounds (at_ + 2 + n) (sum + key + length + sumWords (data.take n))
      (records ++ [{ key := keyOf key, data := data.take n }]) (data.drop n)
  | _ + 1, _, _, _, _ => .more

/-- The reading of a run of words from window word 0. A window read to its end without a ZZ record is a structure
fault (R70); whether its detail names ZZ is a free value (log entry 11). -/
def readProfile (words : List Word) : Reading :=
  match readRecords 513 0 0 [] words with
  | .more => if words.length < 1024 then .more
      else .structureFault (if Config.missingEndNamesZZ then Key.zz.position else 0)
  | r => r

/-! ## The settings -/

/-- A good profile, taken whole (R71, R72). -/
structure Profile where
  bases : Bases
  identity : List Nat
  coins : List CoinType
  tmin : Nat
  tmax : Nat
  cluster : Nat
  vc : Nat
  step : Nat
  graceTime : Nat
  line : LineSettings
  number : List Nat
  free : List (List Nat)
  calendar : List (List (Nat × Nat))
deriving DecidableEq, Repr

/-- A figure within a checked range. -/
def inRange (low high : Nat) (w : Word) : Option Nat :=
  if low ≤ w.toNat ∧ w.toNat ≤ high then some w.toNat else none

/-- Every digit lies in 0 to 9. -/
def decimal (ds : List Nat) : Bool := ds.all (· ≤ 9)

/-- A 32-bit base that is an 18-bit address. -/
def baseOf (low high : Word) : Option Nat := if high.toNat ≤ 3 then some (low.toNat + 65536 * high.toNat) else none

/-- WB: seven bases. -/
def parseWb : List Word → Option Bases
  | [t0, t1, m0, m1, s0, s1, a0, a1, c0, c1, r0, r1, d0, d1] => do
    let tariff ← baseOf t0 t1
    let mailbox ← baseOf m0 m1
    let status ← baseOf s0 s1
    let account ← baseOf a0 a1
    let callRing ← baseOf c0 c1
    let reportRing ← baseOf r0 r1
    let mapDump ← baseOf d0 d1
    pure { tariff, mailbox, status, account, callRing, reportRing, mapDump }
  | _ => none

/-- PI: six decimal digits. -/
def parsePi : List Word → Option (List Nat)
  | [a, b] => let ds := (unpackDigits [a, b]).take 6; if decimal ds then some ds else none
  | _ => none

/-- The coin types of a CT record, six words each (R2). -/
def parseTypes : Nat → List Word → Option (List CoinType)
  | 0, ws => if ws.isEmpty then some [] else none
  | n + 1, v :: dp :: ap :: dd :: da :: en :: rest => do
    let value ← inRange 1 5000 v
    let d ← inRange 1 8191 dd
    let a ← inRange 1 8191 da
    let e ← inRange 0 1 en
    let types ← parseTypes n rest
    pure ({ value, dp := dp.toNat, ap := ap.toNat, dd := d, da := a, enabled := e == 1 } :: types)
  | _ + 1, _ => none

/-- CT: one to eight coin types. -/
def parseCt (ws : List Word) : Option (List CoinType) :=
  if 6 ≤ ws.length ∧ ws.length ≤ 48 then parseTypes (ws.length / 6) ws else none

/-- CP: the transit window, the cap, and the cluster threshold, 24 when it is left out (R2). -/
def parseCp : List Word → Option (Nat × Nat × Nat)
  | [lo, hi, cap] => if lo.toNat ≤ hi.toNat ∧ cap.toNat = 9999 then some (lo.toNat, hi.toNat, 24) else none
  | [lo, hi, cap, cl] => do
    let cluster ← inRange 4 1000 cl
    if lo.toNat ≤ hi.toNat ∧ cap.toNat = 9999 then some (lo.toNat, hi.toNat, cluster) else none
  | _ => none

/-- VC: the vault capacity. -/
def parseVc : List Word → Option Nat
  | [c] => inRange 100 5000 c
  | _ => none

/-- SS: the charge step and the grace time in seconds. -/
def parseSs : List Word → Option (Nat × Nat)
  | [s, g] => do
    let step ← inRange 1 1000 s
    let seconds ← inRange 5 30 g
    pure (step, seconds)
  | _ => none

/-- LN: the line settings (R112). -/
def parseLn : List Word → Option LineSettings
  | [m, p, a, d, t, i] => do
    let mode ← inRange 0 1 m
    let policy ← inRange 0 2 p
    let answer ← inRange 0 1 a
    let depth ← inRange 1 4 d
    let threshold ← inRange 0 255 t
    let inCall ← inRange 0 1 i
    pure { pulse := mode == 1, policy := if policy = 0 then .auto else if policy = 1 then .normal else .inverted,
           timed := answer == 1, depth, threshold, inCall := inCall == 1 }
  | _ => none

/-- RN: the report number, decimal when the dial mode is PULSE. -/
def parseRn (pulse : Bool) : List Word → Option (List Nat)
  | n :: ws => do
    let count ← inRange 1 16 n
    let ds := (unpackDigits ws).take count
    if ws.length = 4 ∧ (!pulse || decimal ds) then some ds else none
  | [] => none

/-- The prefixes of an FP record: a length word and two words of digits each. -/
def parsePrefixes : Nat → List Word → Option (List (List Nat))
  | 0, ws => if ws.isEmpty then some [] else none
  | n + 1, l :: a :: b :: rest => do
    let length ← inRange 1 8 l
    let others ← parsePrefixes n rest
    pure ((unpackDigits [a, b]).take length :: others)
  | _ + 1, _ => none

/-- FP: zero to four free prefixes. -/
def parseFp : List Word → Option (List (List Nat))
  | m :: ws => do
    let count ← inRange 0 4 m
    parsePrefixes count ws
  | [] => none

/-- The boundaries of one day: the second of day, whose bit 16 stands in bit 8 of the second word, and the band. -/
def parseBoundaries : Nat → List Word → Option (List (Nat × Nat) × List Word)
  | 0, ws => some ([], ws)
  | n + 1, low :: w :: rest => do
    let second := low.toNat + 65536 * bits w 8 1
    if second > 86399 then none
    else do
      let (others, left) ← parseBoundaries n rest
      pure ((second, bits w 0 2) :: others, left)
  | _ + 1, _ => none

/-- The days of a BC record. -/
def parseDays : Nat → List Word → Option (List (List (Nat × Nat)))
  | 0, ws => if ws.isEmpty then some [] else none
  | n + 1, c :: ws => do
    let count ← inRange 1 4 c
    let (day, left) ← parseBoundaries count ws
    let days ← parseDays n left
    pure (day :: days)
  | _ + 1, [] => none

/-! ## The judgement (R71) -/

/-- A record's length fits its key's form and its values lie in their checked ranges (cause 6). -/
def recordFits (pulse : Bool) (r : ProfileRecord) : Bool :=
  match r.key with
  | none => true
  | some .wb => (parseWb r.data).isSome
  | some .pi => (parsePi r.data).isSome
  | some .ct => (parseCt r.data).isSome
  | some .cp => (parseCp r.data).isSome
  | some .vc => (parseVc r.data).isSome
  | some .ss => (parseSs r.data).isSome
  | some .ln => (parseLn r.data).isSome
  | some .rn => (parseRn pulse r.data).isSome
  | some .fp => (parseFp r.data).isSome
  | some .bc => (parseDays 7 r.data).isSome
  | some .zz => true

/-- The data words of the first record with a key. -/
def dataOf (k : Key) (records : List ProfileRecord) : Option (List Word) :=
  (records.find? (fun r => r.key == some k)).map (·.data)

/-- The first record whose known key has come before (cause 4). The fault of a repeated key is taken to lie at its second
record, so that for keys in the order A B B A it is B's: the model's choice (log entry 47). -/
def firstRepeated : List Key → List ProfileRecord → Option Key
  | _, [] => none
  | seen, r :: rs =>
    match r.key with
    | none => firstRepeated seen rs
    | some k => if k ∈ seen then some k else firstRepeated (k :: seen) rs

/-- The required keys that the records before ZZ must hold, in the table's order (cause 5). -/
def requiredKeys : List Key := [.wb, .pi, .ct, .cp, .vc, .ss, .ln, .rn, .bc]

/-- A day's boundaries begin at second 0 and their seconds rise (cause 7). -/
def dayRises : List (Nat × Nat) → Bool
  | [] => true
  | [_] => true
  | (a, _) :: (b, q) :: rest => a < b && dayRises ((b, q) :: rest)

def dayFits (day : List (Nat × Nat)) : Bool := (day.head?.map (·.1) == some 0) && dayRises day

/-- The windows as base, length and chip boundary (R57); the PROFILE window is among them. -/
def windowSpans (b : Bases) : List (Nat × Nat) :=
  [(0x20000, 1024), (b.tariff, 1602), (b.mailbox, 8), (b.status, 128), (b.account, 216), (b.callRing, 1536),
   (b.reportRing, 128), (b.mapDump, 256)]

/-- Two spans share no address. -/
def apart (a b : Nat × Nat) : Bool := a.1 + a.2 ≤ b.1 || b.1 + b.2 ≤ a.1

/-- Each span is apart from those after it. -/
def allApart : List (Nat × Nat) → Bool
  | [] => true
  | s :: rest => rest.all (apart s) && allApart rest

/-- The bases are well placed (R57): inside their chips, no address shared, each SRAM base a multiple of 8. -/
def wellPlaced (b : Bases) : Bool :=
  (0x20000 ≤ b.tariff && b.tariff + 1602 ≤ 0x40000)
  && ([(b.mailbox, 8), (b.status, 128), (b.account, 216), (b.callRing, 1536), (b.reportRing, 128),
      (b.mapDump, 256)].all fun s => s.1 + s.2 ≤ 0x20000 && s.1 % 8 == 0)
  && allApart (windowSpans b)

/-- The built-in bases (R57). -/
def builtInBases : Bases :=
  { tariff := 0x20400, mailbox := 0x1FF00, status := 0x1FF08, account := 0x1FE00, callRing := 0x1F800,
    reportRing := 0x1F680, mapDump := 0x1F700 }

/-- The dial mode word of the LN record is PULSE, whatever its other words hold (R71; log entry 46). -/
def pulseMode (records : List ProfileRecord) : Bool :=
  match dataOf .ln records with
  | some (mode :: _) => mode == 1
  | _ => false

/-- The settings of records that have all required keys; none if a record does not fit. -/
def settingsOf (records : List ProfileRecord) : Option Profile := do
  let bases ← (dataOf .wb records).bind parseWb
  let identity ← (dataOf .pi records).bind parsePi
  let coins ← (dataOf .ct records).bind parseCt
  let (tmin, tmax, cluster) ← (dataOf .cp records).bind parseCp
  let vc ← (dataOf .vc records).bind parseVc
  let (step, graceTime) ← (dataOf .ss records).bind parseSs
  let line ← (dataOf .ln records).bind parseLn
  let number ← (dataOf .rn records).bind (parseRn line.pulse)
  let free ← match dataOf .fp records with
    | none => some []
    | some ws => parseFp ws
  let calendar ← (dataOf .bc records).bind (parseDays 7)
  pure { bases, identity, coins, tmin, tmax, cluster, vc, step, graceTime, line, number, free, calendar }

/-- The judgement of a reading that reached its ZZ record: a good profile, or the detail of the first fault, cause
times 100 plus the key's position (R71). -/
def judgeRecords (records : List ProfileRecord) (checks : Bool) : Except Nat Profile :=
  if !checks then .error (300 + if Config.checkFaultNamesZZ then Key.zz.position else 0)
  else match firstRepeated [] records with
    | some k => .error (400 + k.position)
    | none =>
      match requiredKeys.find? (fun k => (dataOf k records).isNone) with
      | some k => .error (500 + k.position)
      | none =>
        let pulse := pulseMode records
        match records.find? (fun r => !recordFits pulse r) with
        | some r => .error (600 + keyPosition r.key)
        | none =>
          match settingsOf records with
          | none => .error 600
          | some p =>
            if !(p.calendar.all dayFits) then .error (700 + Key.bc.position)
            else if !(wellPlaced p.bases) then .error (800 + Key.wb.position)
            else .ok p

end Sys2Proof.Machine
end

