-- ==== Sys2Proof/Machine/Ops.lean ====
section
/-!
DEFINITION. The named operations over the parts of the state that every unit shares: the words behind the port
(R56, R66), timers measured by the tick (spec/00_scope.md, "Time"), the dirty-group set (R66), the part reads (R69)
and the windows (R57). Every operation of the model takes a `Part` and answers a `Part`.
-/

namespace Sys2Proof.Machine

/-- Run an operation of the part as the effect of a command: the queue of waiting commands is left as it is. -/
def onPart (f : Part → Part) (s : State) : Host.Outcome State Fault Refusal := .next { s with part := f s.part }

/-! ## Memory -/

/-- The word at an address. A word nothing has stored yet reads 0 (DESIGN CHOICE, log entry 6). -/
def readWord : Memory → Nat → Word
  | [], _ => 0
  | (b, w) :: rest, a => if a = b then w else readWord rest a

/-- Store a word, keeping the canonical form: addresses rise and no word 0 is listed. -/
def writeWord : Memory → Nat → Word → Memory
  | [], a, w => if w = 0 then [] else [(a, w)]
  | (b, v) :: rest, a, w =>
    if a < b then (if w = 0 then (b, v) :: rest else (a, w) :: (b, v) :: rest)
    else if a = b then (if w = 0 then rest else (a, w) :: rest)
    else (b, v) :: writeWord rest a w

/-- Store a run of words from an address on. -/
def writeWords : Memory → Nat → List Word → Memory
  | m, _, [] => m
  | m, a, w :: ws => writeWords (writeWord m a w) (a + 1) ws

/-- The canonical form: addresses strictly rise and no listed word is 0. -/
def Memory.wf : Memory → Bool
  | [] => true
  | [(_, w)] => w != 0
  | (a, w) :: (b, v) :: rest => w != 0 && decide (a < b) && Memory.wf ((b, v) :: rest)

/-! ## Timers -/

/-- A timer started now. -/
def newTimer (limit : Nat) (p : Part) : Timer := { start := p.tick, limit }

/-- Milliseconds since a tick; the wrap of the tick does not disturb it. -/
def elapsed (start : Tick) (p : Part) : Nat := (p.tick - start).toNat

/-- The timer has run for its limit. -/
def expired (t : Timer) (p : Part) : Bool := t.limit ≤ elapsed t.start p

/-- Bring the tick to the end of a timer, if it is not there yet (log entry 2). -/
def advanceTo (t : Timer) (p : Part) : Part :=
  if expired t p then p else { p with tick := t.start + BitVec.ofNat 32 t.limit }

/-- The effect of a timer's expiry: nothing where the timer does not run (log entry 4). -/
def onExpiry (t : Option Timer) (f : Part → Part) (p : Part) : Part :=
  match t with
  | none => p
  | some t => f (advanceTo t p)

/-! ## The dirty-group set (R66) -/

/-- The place of a group in the order of R67: account slots, the result word and S0 to S7, report-ring slots,
call-ring slots, map-dump cells. -/
def groupRank : Group → Nat
  | .account i => i
  | .result => 9
  | .status k => 10 + k
  | .report i => 18 + i
  | .call i => 26 + i
  | .cell i => 90 + i

/-- A group put into the set at its place; a member stays as it is. -/
def insertGroup (g : Group) : List Group → List Group
  | [] => [g]
  | h :: t => if g = h then h :: t else if groupRank g < groupRank h then g :: h :: t else h :: insertGroup g t

/-- Mark a group dirty. -/
def mark (g : Group) (p : Part) : Part := { p with bpu.dirty := insertGroup g p.bpu.dirty }

/-- Mark status group S0 to S7 dirty. -/
def markS (k : Nat) : Part → Part := mark (.status k)

/-- Mark several groups dirty. -/
def markAll : List Group → Part → Part
  | [], p => p
  | g :: gs, p => markAll gs (mark g p)

def isCell : Group → Bool
  | .cell _ => true
  | .account _ => false
  | .result => false
  | .status _ => false
  | .report _ => false
  | .call _ => false

/-- Mark all 256 map-dump cells dirty at once (R16); they stand behind every other group. -/
def markCells (p : Part) : Part :=
  { p with bpu.dirty := p.bpu.dirty.filter (fun g => !isCell g) ++ (List.range 256).map Group.cell }

/-! ## Part reads (R69) -/

/-- A part read joins the waiting part reads. -/
def requestRead (purpose : ReadPurpose) (p : Part) : Part :=
  { p with bpu.waiting := p.bpu.waiting ++ [{ purpose, limit := none }] }

/-- The read is one of the tariff scan's. -/
def ofScan : ReadPurpose → Bool
  | .scanHeader => true
  | .scanEntry _ => true
  | .profile _ => false
  | .startLoad _ _ => false
  | .scrub _ _ => false

/-- The read goes to the flash. -/
def ofFlash : ReadPurpose → Bool
  | .profile _ => true
  | .scanHeader => true
  | .scanEntry _ => true
  | .startLoad _ _ => false
  | .scrub _ _ => false

/-- Withdraw the reads of a requester: one not yet begun is removed, and the words of one that the port carries are
discarded when they come (R69, R82, R83). -/
def withdrawReads (mine : ReadPurpose → Bool) (p : Part) : Part :=
  { p with
    bpu.waiting := p.bpu.waiting.filter (fun r => !mine r.purpose)
    bpu.aside := p.bpu.aside.filter (fun r => !mine r.purpose)
    bpu.port := match p.bpu.port with
      | some (.read r d) => some (.read r (d || mine r.purpose))
      | other => other }

/-! ## Windows (R57) -/

/-- The base of a window, while the window table holds it. -/
def baseOfKind (kind : WindowKind) (p : Part) : Option Nat :=
  match kind with
  | .profile => some 0x20000
  | .tariff => p.bpu.windows.map (·.tariff)
  | .mailbox => p.bpu.windows.map (·.mailbox)
  | .status => p.bpu.windows.map (·.status)
  | .account => p.bpu.windows.map (·.account)
  | .callRing => p.bpu.windows.map (·.callRing)
  | .reportRing => p.bpu.windows.map (·.reportRing)
  | .mapDump => p.bpu.windows.map (·.mapDump)

/-- The length of a window in words. -/
def windowLength : WindowKind → Nat
  | .profile => 1024
  | .tariff => 1602
  | .mailbox => 8
  | .status => 128
  | .account => 216
  | .callRing => 1536
  | .reportRing => 128
  | .mapDump => 256

def windowKinds : List WindowKind :=
  [.profile, .tariff, .mailbox, .status, .account, .callRing, .reportRing, .mapDump]

/-- The offset of an address in a window of the table. -/
def offsetIn (kind : WindowKind) (address : Nat) (p : Part) : Option Nat :=
  (baseOfKind kind p).bind fun b => if b ≤ address ∧ address < b + windowLength kind then some (address - b) else none

/-- The window an address lies in, with its offset there. -/
def windowAt (address : Nat) (p : Part) : Option (WindowKind × Nat) :=
  windowKinds.findSome? fun k => (offsetIn k address p).map fun o => (k, o)

/-- The address a host access goes to: a window word stands where its window stands when the access is taken. -/
def addressOf (t : Target) (p : Part) : Option Nat :=
  match t with
  | .address a => some a.toNat
  | .window kind offset => (baseOfKind kind p).map (· + offset)

/-! ## The mailbox result (R176) -/

/-- The result state takes a final code, keeping the command number, and the result word is marked dirty. -/
def complete (code : ResultCode) (p : Part) : Part := mark .result { p with bpu.result := code }

/-- The command with this code is in flight and has no final result yet. -/
def awaits (code : Nat) (p : Part) : Bool := p.bpu.inFlight == some code && p.bpu.result == .pending

/-- Complete a command if it is the one in flight. -/
def completeIf (code : Nat) (result : ResultCode) (p : Part) : Part :=
  if awaits code p then complete result p else p

end Sys2Proof.Machine
end

