-- ==== Sys2Proof/Machine/Flags.lean ====
section
/-!
DEFINITION. The attention causes and the attention line (R186), and the restriction (R155): the figures that are
derived again whenever what they are derived from changes.
-/

namespace Sys2Proof.Machine

/-- The nine attention causes. -/
inductive Cause where
  | call
  | credit
  | lowCredit
  | coin
  | result
  | condition
  | service
  | capture
  | record
deriving DecidableEq, Repr

/-- A cause's bit in the change word and in SET_ATTENTION's argument. -/
def causePosition : Cause → Nat
  | .call => 0 | .credit => 1 | .lowCredit => 2 | .coin => 3 | .result => 4 | .condition => 5 | .service => 6
  | .capture => 7 | .record => 8

def causeBit (c : Cause) : BitVec 9 := BitVec.ofNat 9 (2 ^ causePosition c)

/-- The attention line: asserted while at least one cause is both set and enabled. -/
def lineFor (causes enable : BitVec 9) : Bool := (causes &&& enable) != 0

/-- Judge the attention line again. -/
def judgeLine (p : Part) : Part := { p with bpu.attention := lineFor p.bpu.causes p.bpu.enable }

/-- Set an attention cause (R186). -/
def setCause (c : Cause) (p : Part) : Part :=
  judgeLine (markS 0 { p with bpu.causes := p.bpu.causes ||| causeBit c })

/-- Clear the causes whose positions hold a one in the written word (R59). -/
def clearCauses (data : Word) (p : Part) : Part :=
  judgeLine (markS 0 { p with bpu.causes := p.bpu.causes &&& ~~~(data.setWidth 9) })

/-- Replace the enable set (R187). -/
def setEnable (w : Word) (p : Part) : Part := judgeLine { p with bpu.enable := w.setWidth 9 }

/-! ## Conditions and the restriction -/

/-- The row of a kind. -/
def rowOf (k : Condition) (p : Part) : ConditionRow := p.cru.rows.getD (k.code - 1) ConditionRow.clear

def isActive (k : Condition) (p : Part) : Bool := (rowOf k p).active

/-- Put a row in its place. -/
def setRow (k : Condition) (r : ConditionRow) (p : Part) : Part :=
  { p with cru.rows := p.cru.rows.set (k.code - 1) r }

/-- Service mode is on while the debounced key state is ON (R151). -/
def serviceMode (p : Part) : Bool := p.cru.key == some true

def allConditions : List Condition :=
  [.vaultForced, .vaultNearFull, .vaultFull, .coinJam, .slugCluster, .rejectBurst, .handsetCut, .shock, .hookAbuse,
   .lineDown, .accountTamper, .accountFault, .tariffBad, .profileBad]

/-- The highest rank among the levels of active conditions. -/
def highest (p : Part) : List Condition → Nat
  | [] => 0
  | k :: ks => max (if isActive k p then k.restriction.level else 0) (highest p ks)

/-- The level that active conditions and service mode hold (R155). -/
def derivedRestriction (p : Part) : Restriction :=
  if serviceMode p then .noCalls else restrictionOf (highest p allConditions)

/-- Derive the restriction again; a level different from the one before marks S0 dirty and sets SERVICE. -/
def deriveRestriction (p : Part) : Part :=
  if derivedRestriction p = p.cru.restriction then p
  else setCause .service (markS 0 { p with cru.restriction := derivedRestriction p })

end Sys2Proof.Machine
end

