-- ==== Sys2Proof/Machine/Account.lean ====
section
/-!
DEFINITION. The account records (R39 to R46): their words, the reading of a loaded slot, the marks that changes make,
and the money and count events of R42 that no other unit's work surrounds.
-/

namespace Sys2Proof.Machine

/-! ## Words of the records (spec/12_record_and_frame_layouts.md, "Account slots") -/

/-- The retired set as bits. -/
def setBits : List Nat → Nat
  | [] => 0
  | n :: ns => 2 ^ n ||| setBits ns

def headerWords (h : Header) : List Word :=
  [packFour (h.slots.getD 0 0) (h.slots.getD 1 0) (h.slots.getD 2 0) (h.slots.getD 3 0), word (setBits h.retired),
   word h.spares]

def moneyWords (m : Money) : List Word :=
  totalWords m.accepted ++ totalWords m.refunded ++ totalWords m.collected ++ totalWords m.charged
    ++ totalWords m.forfeited ++ totalWords m.suspense ++ [word m.banked] ++ totalWords m.vaultValue
    ++ [word m.vaultCount, word m.railCount] ++ packDigits 2 m.railTypes ++ [word m.unbooked]

def typeWords (t : TypeCounts) : List Word :=
  fit 8 (t.vault.map word) ++ fit 6 (t.returned.map word)

def callWords (c : CallCounts) : List Word :=
  totalWords c.attempts ++ totalWords c.answered ++ totalWords c.free ++ totalWords c.cut
    ++ totalWords c.reportsSucceeded ++ totalWords c.reportsFailed

def collectionWords (c : Collection) : List Word := wallWords c.time ++ totalWords c.value ++ [word c.count]

/-- The header that a write carries: each relocation still in progress is left out (R50). -/
def withoutRelocation (h : Header) (r : Relocation) : Header :=
  { slots := h.slots.set (r.record - 1) r.oldSlot, retired := h.retired.filter (· != r.oldSlot), spares := h.spares + 1 }

def publishedHeader (p : Part) : Header := p.cau.relocations.foldl withoutRelocation p.cau.header

/-- The data words that the shadow gives a logical record, before the padding with zeros. -/
def recordFields (record : Nat) (p : Part) : List Word :=
  match record with
  | 0 => headerWords (publishedHeader p)
  | 1 => moneyWords p.cau.money
  | 2 => typeWords p.cau.types
  | 3 => callWords p.cau.calls
  | _ => collectionWords p.cau.last.latest ++ collectionWords p.cau.last.previous

/-- The 24 words of a logical record: 23 data words and the check word (R39). -/
def recordWords (record : Nat) (p : Part) : List Word :=
  fit 23 (recordFields record p) ++ [accountCheck record (fit 23 (recordFields record p))]

/-- A slot checks for a logical record (R39). -/
def slotChecks (record : Nat) (words : List Word) : Bool :=
  wordAt words 23 == accountCheck record (fit 23 words)

/-! ## Reading a loaded slot (R45, R46) -/

def totalAt (words : List Word) (i : Nat) : Total := totalOf (wordAt words i) (wordAt words (i + 1))

/-- The slots of 1 to 8 that are neither mapped nor retired (R40). -/
def freeSpares (h : Header) : List Nat :=
  [1, 2, 3, 4, 5, 6, 7, 8].filter fun s => !(h.slots.contains s) && !(h.retired.contains s)

/-- The header of a slot's words. Bits that the layout does not use are not read (log entry 24). -/
def headerOf (words : List Word) : Header :=
  { slots := unpackWord (wordAt words 0),
    retired := [1, 2, 3, 4, 5, 6, 7, 8].filter fun s => (wordAt words 1).getLsbD s,
    spares := (wordAt words 2).toNat }

def distinct : List Nat → Bool
  | [] => true
  | n :: ns => !(ns.contains n) && distinct ns

/-- A header's contents keep R40. -/
def headerFits (h : Header) : Bool :=
  h.slots.all (fun s => decide (1 ≤ s) && decide (s ≤ 8) && !(h.retired.contains s)) && distinct h.slots
    && h.spares == (freeSpares h).length

def moneyOf (words : List Word) : Money :=
  { accepted := totalAt words 0, refunded := totalAt words 2, collected := totalAt words 4, charged := totalAt words 6,
    forfeited := totalAt words 8, suspense := totalAt words 10, banked := (wordAt words 12).toNat,
    vaultValue := totalAt words 13, vaultCount := (wordAt words 15).toNat, railCount := (wordAt words 16).toNat,
    railTypes := unpackDigits [wordAt words 17, wordAt words 18], unbooked := (wordAt words 19).toNat }

def typesOf (words : List Word) : TypeCounts :=
  { vault := (fit 8 words).map BitVec.toNat, returned := (fit 6 (words.drop 8)).map BitVec.toNat }

def callsOf (words : List Word) : CallCounts :=
  { attempts := totalAt words 0, answered := totalAt words 2, free := totalAt words 4, cut := totalAt words 6,
    reportsSucceeded := totalAt words 8, reportsFailed := totalAt words 10 }

def collectionOf (words : List Word) : Collection :=
  { time := wallOf (wordAt words 0) (wordAt words 1), value := totalAt words 2, count := (wordAt words 4).toNat }

def lastOf (words : List Word) : LastCollection :=
  { latest := collectionOf words, previous := collectionOf (words.drop 5) }

/-! ## Marks (R42) -/

/-- The physical slot of a logical record. -/
def slotOf (record : Nat) (p : Part) : Nat :=
  match record with
  | 0 => 0
  | n + 1 => p.cau.header.slots.getD n 0

/-- A scrub turn on a slot that is marked or written is skipped (R48). -/
def touchSlot (slot : Nat) (p : Part) : Part :=
  { p with cau.turn := p.cau.turn.map fun t => if t.slot = slot then { t with touched := true } else t }

/-- Mark an account slot dirty. -/
def markSlot (slot : Nat) (p : Part) : Part := mark (.account slot) (touchSlot slot p)

/-- Mark the slot of a changed record, unless the record is in the faulted set (R42, R46). -/
def markRecord (record : Nat) (p : Part) : Part :=
  if record ∈ p.cau.faulted then p else markSlot (slotOf record p) p

/-- A change to MONEY. -/
def bookMoney (f : Money → Money) (p : Part) : Part := markRecord 1 { p with cau.money := f p.cau.money }

/-- A change to TYPE COUNTS. -/
def bookTypes (f : TypeCounts → TypeCounts) (p : Part) : Part := markRecord 2 { p with cau.types := f p.cau.types }

/-- One more in a list of saturating counts. -/
def countUp (i : Nat) (counts : List Nat) : List Nat := counts.set i (satAdd 65535 (counts.getD i 0))

/-! ## Counts (R42, R47) -/

/-- A logical record's load has ended. -/
def isLoaded (record : Nat) (p : Part) : Bool :=
  match p.cau.load with
  | .waiting => false
  | .reading r => record < r
  | .ended => true

def addCounts (e : CountEvent) (c : CallCounts) : CallCounts :=
  match e with
  | .customer answered free cut =>
    { c with attempts := c.attempts + 1, answered := addTo c.answered (flagBit 0 answered),
             free := addTo c.free (flagBit 0 free), cut := addTo c.cut (flagBit 0 cut) }
  | .report true => { c with reportsSucceeded := c.reportsSucceeded + 1 }
  | .report false => { c with reportsFailed := c.reportsFailed + 1 }

/-- A count event; one that comes before CALL COUNTS is loaded waits (R47). -/
def countEvent (e : CountEvent) (p : Part) : Part :=
  if isLoaded 3 p then markRecord 3 { p with cau.calls := addCounts e p.cau.calls }
  else { p with cau.early := p.cau.early ++ [e] }

end Sys2Proof.Machine
end

