-- ==== Sys2Proof/Machine/Seize.lean ====
section
/-!
DEFINITION. Holding the line (R108 to R114): entering CLEARING, the release by an owner, the grant of a seize, and
the asks of the three requesters. What ends a seize, and what the owners do then, is in Line.lean and Calls.lean.
-/

namespace Sys2Proof.Machine

/-- The loop switch, as the LU drives it: open in IDLE and CLEARING, closed in every other state but for the breaks of
pulse dialling (R108, R113, R119). -/
def loopClosed (p : Part) : Bool :=
  match p.lu.line with
  | .idle | .clearing => false
  | .seizing | .searching | .dialling | .awaitAnswer | .connected | .sending | .awaitAck =>
    p.lu.sender.phase != .breaking

/-- Open the loop, set the owner to NONE and enter CLEARING for 1,000 ms (R108). The sender stops; the copy of the
settings, the polarity reference and the in-call queue are emptied (R110, R112, R114, R120). -/
def enterClearing (p : Part) : Part :=
  markS 0 { p with
    lu.line := .clearing
    lu.owner := .none
    lu.copy := none
    lu.reference := none
    lu.spoiled := false
    lu.number := []
    lu.sender := Sender.still
    lu.inCall := []
    lu.classifier := Classifier.empty
    lu.loss := { counted := 0, since := none }
    lu.clearing := some (newTimer 1000 p)
    lu.loopLimit := none
    lu.searchLimit := none
    lu.reversalHold := none
    lu.clearHold := none
    lu.answerLimit := none
    lu.pause := none
    lu.ackWait := none
    lu.mustReturn := false
    lu.announced := false }

/-- The release by a requester (R110): its waiting seize is withdrawn, and the line is cleared if it owns it. -/
def releaseLine (owner : Owner) (p : Part) : Part :=
  let p := if owner = .customer then { p with lu.waitingSeize := none } else p
  if p.lu.owner = owner ∧ owner ≠ .none then enterClearing p else p

/-- The polarity reference of a seize whose first loop current shows a polarity (R114). -/
def referenceFor (policy : Policy) (sense : Polarity) : Polarity :=
  match policy with
  | .auto => sense
  | .normal => .normal
  | .inverted => .inverted

/-- Loop current is first seen in SEIZING: the reference is fixed and the search begins (R113 to R116). -/
def currentSeen (sense : Polarity) (p : Part) : Part :=
  markS 0 { p with
    lu.line := .searching
    lu.reference := p.lu.copy.map fun c => referenceFor c.policy sense
    lu.loopLimit := none
    lu.loss := { counted := 0, since := none }
    lu.gain := p.lu.lastGood - 2
    lu.sweep := { second := false, best := none, misses := 0 }
    lu.spoiled := false }

/-- Grant a seize (R109, R112, R113): the loop closes, SEIZING is entered with a copy of the settings, and the loop
limit and the search limit start. -/
def grantSeize (owner : Owner) (number : List Nat) (p : Part) : Part :=
  let q := markS 0 { p with
    lu.line := .seizing
    lu.owner := owner
    lu.waitingSeize := none
    lu.copy := p.lu.settings
    lu.number := number
    lu.clearing := none
    lu.voltWatch := none
    lu.loopLimit := some (newTimer 500 p)
    lu.searchLimit := some (newTimer 3000 p) }
  match q.pins.loop with
  | none => q
  | some sense => currentSeen sense q

/-- The customer's seize (R109): granted in IDLE, kept as the waiting seize otherwise, refused with no settings. -/
def askCustomerSeize (number : List Nat) (p : Part) : Part :=
  if p.lu.settings.isNone then p
  else if p.lu.line = .idle then grantSeize .customer number p
  else { p with lu.waitingSeize := some number }

/-- The line can be granted to a report call or a probe (R109). -/
def lineFree (p : Part) : Bool :=
  p.lu.line == .idle && p.lu.waitingSeize.isNone && !p.cc.off && p.lu.settings.isSome

/-- A due probe asks for its seize when the conditions of R131 hold. -/
def probeAsk (p : Part) : Part :=
  if p.lu.probeDue && lineFree p then grantSeize .probe [] { p with lu.probeDue := false } else p

/-- The conditions of R167 under which a report call is asked. -/
def reportReady (p : Part) : Bool :=
  p.cru.report.isNone && lineFree p && p.cru.quietReached && !isActive .lineDown p
    && p.cru.queue.any (fun r => !r.sending) && p.cru.backoff.isNone

/-- Ask for a report call when every condition of R167 holds; the phone identity is kept for the call. -/
def reportAsk (p : Part) : Part :=
  match p.cru.number, p.cru.identity with
  | some number, some identity =>
    if reportReady p then
      grantSeize .report number
        { p with cru.report := some { identity, sends := 0, accepted := 0 } }
    else p
  | _, _ => p

/-- The line enters IDLE: with voltage absent the voltage watch begins from 0 (R130; log entry 18). It does so after a raise
too, although voltage has not been back since: R130 has the watch wait for voltage after a raise, and has the line
leaving IDLE return it to 0, and does not say which holds here. The model's choice (DESIGN CHOICE, log entry 53). -/
def enterIdle (p : Part) : Part :=
  markS 0 { p with
    lu.line := .idle
    lu.clearing := none
    lu.voltWatch := if p.pins.voltage then none else some (newTimer 5000 p) }

/-- The end of CLEARING (R108): the waiting seize is granted, or the line enters IDLE and the requesters ask. -/
def endClearing (p : Part) : Part :=
  match p.lu.waitingSeize with
  | some number => grantSeize .customer number p
  | none => reportAsk (probeAsk (enterIdle p))

end Sys2Proof.Machine
end

