-- ==== Sys2Proof/Machine/Conditions.lean ====
section
/-!
DEFINITION. Conditions and the report queue (R148 to R150, R161 to R166, R174): a raise and a clear, and what a raise
does to the queue.
-/

namespace Sys2Proof.Machine

/-! ## Backoff (R173, R174) -/

/-- Stop the backoff timer; S4 shows whether it runs. -/
def cancelBackoff (p : Part) : Part :=
  if p.cru.backoff.isSome then markS 4 { p with cru.backoff := none } else p

/-! ## The report queue (R161 to R166) -/

/-- The lowest-numbered slot that no record of the queue is in (R162). -/
def emptySlot (queue : List ReportRecord) : Nat :=
  ([0, 1, 2, 3, 4, 5, 6, 7].find? fun s => !(queue.any fun r => r.slot == s)).getD 0

/-- A record joins at the newest end, in a slot; a new URGENT record cancels backoff, and a report call may be asked
(R163, R167, R174). -/
def joinRecord (kind : ReportKind) (detail slot : Nat) (p : Part) : Part :=
  let record : ReportRecord :=
    { kind, sending := false, sequence := p.cru.sequence + 1, count := 1, first := p.rtu.clock, last := p.rtu.clock,
      detail, attempts := 0, sent := none, updated := false, firstMerge := none, slot }
  let q := mark (.report slot)
    { p with cru.sequence := p.cru.sequence + 1, cru.queue := p.cru.queue ++ [record] }
  reportAsk (if kind.urgent then cancelBackoff q else q)

/-- One more report dropped or displaced (R165). -/
def countDropped (p : Part) : Part := markS 4 { p with cru.dropped := satAdd 65535 p.cru.dropped }

/-- The record that a new URGENT record displaces: the oldest QUEUED ROUTINE one (R165). -/
def displaceable (queue : List ReportRecord) : Option ReportRecord :=
  queue.find? fun r => !r.sending && !r.kind.urgent

/-- A new record joins a queue with room, displaces, or is dropped (R163, R165). -/
def newRecord (kind : ReportKind) (detail : Nat) (p : Part) : Part :=
  if p.cru.queue.length < 8 then joinRecord kind detail (emptySlot p.cru.queue) p
  else if kind.urgent then
    match displaceable p.cru.queue with
    | some old =>
      joinRecord kind detail old.slot
        (countDropped { p with cru.queue := p.cru.queue.filter fun r => r.slot != old.slot })
    | none => countDropped p
  else countDropped p

/-- A raise merges into a record (R163). -/
def mergeRecord (now : WallTime) (detail : Nat) (r : ReportRecord) : ReportRecord :=
  { r with
    count := satAdd 65535 r.count, last := now, detail
    updated := r.updated || r.sending
    firstMerge := if r.sending && !r.updated then some now else r.firstMerge }

/-- Apply a change to the record in a slot and mark the slot dirty (R162). -/
def changeRecord (slot : Nat) (f : ReportRecord → ReportRecord) (p : Part) : Part :=
  mark (.report slot) { p with cru.queue := p.cru.queue.map fun r => if r.slot = slot then f r else r }

/-- The queue takes a raise (R163). -/
def enqueueRaise (k : Condition) (detail : Nat) (first : Bool) (p : Part) : Part :=
  match p.cru.queue.find? fun r => r.kind == .condition k with
  | some r => changeRecord r.slot (mergeRecord p.rtu.clock detail) p
  | none => if first then newRecord (.condition k) detail p else p

/-! ## Raise and clear (R149, R150) -/

/-- The row after a raise, whether it makes the row active or merges. -/
def raisedRow (now : WallTime) (detail : Nat) (r : ConditionRow) : ConditionRow :=
  { active := true, count := satAdd 255 r.count, last := some now, detail }

/-- A raise (R149). PROFILE_BAD is never handed to the report queue. -/
def raise (k : Condition) (detail : Nat) (p : Part) : Part :=
  let q := setCause .condition (markS 7 (deriveRestriction
    (setRow k (raisedRow p.rtu.clock detail (rowOf k p)) p)))
  if k = .profileBad then q else enqueueRaise k detail (!isActive k p) q

/-- A clear (R150); of a row already clear it changes nothing. -/
def clear (k : Condition) (p : Part) : Part :=
  if isActive k p then
    setCause .condition (markS 7 (deriveRestriction (setRow k { rowOf k p with active := false } p)))
  else p

/-- A raise of LINE_DOWN; the one that makes it active starts the probe timer (R129 to R131). -/
def raiseLineDown (detail : Nat) (p : Part) : Part :=
  raise .lineDown detail (if isActive .lineDown p then p else { p with lu.probe := some (newTimer 300000 p) })

/-- LINE_DOWN clears: the probe timer stops and a due probe is withdrawn (R131). -/
def clearLineDown (p : Part) : Part :=
  clear .lineDown (if isActive .lineDown p then { p with lu.probe := none, lu.probeDue := false } else p)

end Sys2Proof.Machine
end

