-- ==== Sys2Proof/Machine/Charging.lean ====
section
/-!
DEFINITION. Charging arithmetic (R92 to R101, R105, R106): the band in force, the duration of a step, the step timing
through a call, the charges it sends, and the low-credit flag. Credit on hand (R19) stands here too, since the
low-credit test reads it.
-/

namespace Sys2Proof.Machine

/-! ## The band in force (R94) -/

/-- The band of the last boundary at or before a second of day. -/
def bandAt (second : Nat) : Nat → List (Nat × Nat) → Nat
  | band, [] => band
  | band, (s, b) :: rest => if s ≤ second then bandAt second b rest else band

/-- The band in force: 0 while the clock is UNSET or no calendar is in force. -/
def bandOf (calendar : Option (List (List (Nat × Nat)))) (clock : WallTime) : Nat :=
  match calendar, clock with
  | some days, some (day, second) => bandAt second 0 (days.getD day [])
  | _, _ => 0

def bandNow (p : Part) : Nat := bandOf p.rtu.calendar p.rtu.clock

/-! ## The figures of the call (R91, R95) -/

/-- The charge step in force; 0 where none is. -/
def chargeStep (p : Part) : Nat := match p.rtu.steps with
  | some (s, _) => s
  | none => 0

/-- The grace time in force, in milliseconds. -/
def graceTime (p : Part) : Nat := match p.rtu.steps with
  | some (_, g) => g * 1000
  | none => 0

/-- The tariff copy in the call's locked entry; a FREE call has none. -/
def callCopy (p : Part) : Option TariffEntry :=
  (p.cc.placed.bind (·.entry)).map fun i => (p.rtu.cache.getD i CacheEntry.invalid).copy

/-- The call's rate in a band, in units per minute. -/
def rateOf (band : Nat) (p : Part) : Nat := match callCopy p with
  | some e => e.rates.getD band 0
  | none => 0

/-- The call's connection charge. -/
def connectionCharge (p : Part) : Nat := match callCopy p with
  | some e => e.c0
  | none => 0

/-! ## Step durations (R96) -/

/-- The duration of a step and the remainder it carries on, with the two clamps. -/
def stepDuration (s r e : Nat) : Nat × Nat :=
  let d := (60000 * s + e) / r
  if d < 500 then (500, 0)
  else if 3600000 < d then (3600000, 0)
  else (d, (60000 * s + e) % r)

/-! ## Credit on hand (R19) -/

/-- The sum of the values of coins. -/
def sumValues : List Coin → Nat
  | [] => 0
  | c :: cs => c.value + sumValues cs

def railValue (p : Part) : Nat := sumValues p.rlu.rail

/-- How many of the first rail entries a refund owes: all of them during the start-up dump or with a refund pending,
and as many as its remaining count for a refund that has begun. -/
def owedCount (r : Rlu) : Nat :=
  if r.dump = .ended then (if r.pendingRefund then r.rail.length else r.refund.getD 0) else r.rail.length

/-- Banked credit plus the value of the rail entries that no refund owes. -/
def creditOnHand (p : Part) : Nat := p.rlu.banked + sumValues (p.rlu.rail.drop (owedCount p.rlu))

/-! ## Low credit (R106) -/

/-- An answered, non-FREE call is being charged. -/
def isCharging (p : Part) : Bool := p.rtu.timing.state != .idle

/-- Examine the credit on hand for the low-credit flag. -/
def examineCredit (p : Part) : Part :=
  if !isCharging p then p
  else if creditOnHand p < chargeStep p then
    if p.cc.low then p else setCause .lowCredit (markS 1 { p with cc.low := true })
  else if p.cc.low then markS 1 { p with cc.low := false } else p

/-- The examination after a change to banked credit or rail value, made while the flag is set. R106's words clear a set
flag at the moment a coin brings the credit on hand to s or more, where the worked sequence of a grace still shows it
set (spec/06_charging_arithmetic.md, row 37,000): that the words decide is the model's choice (log entry 51). -/
def reexamineCredit (p : Part) : Part := if p.cc.low then examineCredit p else p

/-! ## Step timing (R97 to R100) -/

/-- The CC sends a charge request (R28). -/
def sendCharge (amount : Nat) (p : Part) : Part := { p with rlu.charge := some { amount, collecting := false } }

/-- Enter WAITING with a step as the current step. -/
def enterWaiting (p : Part) : Part := markS 2 { p with rtu.timing.state := .waiting }

/-- Enter HELD, keeping the due step's start tick and band. -/
def enterHeld (start : Tick) (band : Nat) (p : Part) : Part :=
  markS 2 { p with rtu.timing.state := .held, rtu.timing.heldStart := start, rtu.timing.heldBand := band }

/-- Begin a step in RUNNING: its duration is computed from the carried remainder (R96). -/
def runStep (index : Total) (start : Tick) (band carry : Nat) (p : Part) : Part :=
  let (d, e) := stepDuration (chargeStep p) (rateOf band p) carry
  markS 2 { p with
    rtu.timing.state := .running
    rtu.timing.index := index
    rtu.timing.band := band
    rtu.timing.start := start
    rtu.timing.finish := start + BitVec.ofNat 32 d
    rtu.timing.carry := e }

/-- The end tick of the current step has passed. -/
def stepIsOver (p : Part) : Bool :=
  (p.rtu.timing.finish - p.rtu.timing.start).toNat ≤ elapsed p.rtu.timing.start p

/-- A step that begins after its own end has passed takes its end at once (R100): WAITING in a zero-rate band, and
HELD otherwise, since its charge has only just been sent. -/
def takePassedEnd (p : Part) : Part :=
  if stepIsOver p then
    if rateOf (bandNow p) p = 0 then enterWaiting p else enterHeld p.rtu.timing.finish (bandNow p) p
  else p

/-- Begin a due step (R98): the index rises, a change of band drops the remainder, and the step notice has the CC
send the step charge (R101). -/
def beginDueStep (start : Tick) (band : Nat) (p : Part) : Part :=
  let t := p.rtu.timing
  let q := runStep (t.index + 1) start band (if band = t.band then t.carry else 0) p
  takePassedEnd (sendCharge (chargeStep q) { q with cc.paid := false })

/-- A due step begins if the current step is paid, and is kept in HELD otherwise (R98). -/
def stepDue (start : Tick) (band : Nat) (p : Part) : Part :=
  if p.cc.paid then beginDueStep start band p else enterHeld start band p

/-- The end of a RUNNING step (R98). -/
def endStep (p : Part) : Part :=
  if rateOf (bandNow p) p = 0 then enterWaiting p else stepDue p.rtu.timing.finish (bandNow p) p

/-- The CC reports the current step paid, which releases a HELD timing (R100). -/
def reportPaid (p : Part) : Part :=
  let q := { p with cc.paid := true }
  if q.rtu.timing.state = .held then beginDueStep q.rtu.timing.heldStart q.rtu.timing.heldBand q else q

/-- The answer step of a non-FREE call (R97), with the answer charge of c0 + s (R101). -/
def beginAnswerStep (p : Part) : Part :=
  let band := bandNow p
  let q := if rateOf band p = 0 then
      markS 2 { p with
        rtu.timing.state := .waiting
        rtu.timing.index := 1
        rtu.timing.band := band
        rtu.timing.start := p.tick
        rtu.timing.finish := p.tick
        rtu.timing.carry := 0 }
    else runStep 1 p.tick band 0 p
  sendCharge (connectionCharge q + chargeStep q) { q with cc.paid := false }

/-- Judge the band in force again (R94). A band change makes a step due in WAITING when the new band pays (R99), and
acts on the published band while the timing is IDLE (R107). -/
def judgeBand (p : Part) : Part :=
  if bandNow p = p.rtu.band then p
  else
    let q := { p with rtu.band := bandNow p }
    match q.rtu.timing.state with
    | .idle => markS 2 q
    | .waiting =>
      if rateOf (bandNow q) q = 0 then q
      else stepDue q.tick (bandNow q) { q with rtu.timing.carry := 0 }
    | .running => q
    | .held => q

/-- Charging stops at an ending event (R105): the timing returns to IDLE, the grace timer stops, and the low-credit
flag is cleared (R106). -/
def stopCharging (p : Part) : Part :=
  let q := { p with cc.grace := none, cc.graceOver := false, cc.noted := false, cc.owed := 0 }
  if isCharging p then markS 2 (markS 1 { q with rtu.timing.state := .idle, cc.low := false }) else q

end Sys2Proof.Machine
end

