-- ==== Sys2Proof/Machine/CallRing.lean ====
section
/-!
DEFINITION. The call ring (R144 to R147) and the hook-independent parts of a call: its states (R134) and its record.
-/

namespace Sys2Proof.Machine

/-! ## The call ring (R145, R146) -/

/-- Append a record: into slot p while fewer than 64 are held, and lost otherwise. -/
def appendRecord (r : RingRecord) (p : Part) : Part :=
  if p.cc.heldCount < 64 then
    setCause .record (markS 4 (mark (.call p.cc.producer) { p with
      cc.records := p.cc.records.filter (fun e => e.1 != p.cc.producer) ++ [(p.cc.producer, r)]
      cc.producer := (p.cc.producer + 1) % 64
      cc.heldCount := p.cc.heldCount + 1 }))
  else setCause .record (markS 4 { p with cc.lost := satAdd 65535 p.cc.lost })

/-- How many held slots a written consumer index frees. -/
def freedBy (value consumer held : Nat) : Nat :=
  let f := (value + 64 - consumer) % 64
  if f = 0 ∧ held = 64 then 64 else f

/-- The CC takes or ignores a consumer index (R146). The value is read modulo 64, as the difference is. -/
def takeConsumerIndex (value : Nat) (p : Part) : Part :=
  let f := freedBy (value % 64) p.cc.consumer p.cc.heldCount
  if 1 ≤ f ∧ f ≤ p.cc.heldCount then
    markS 4 { p with cc.consumer := value % 64, cc.heldCount := p.cc.heldCount - f }
  else p

/-! ## The call state (R134, R136) -/

/-- Every change of call state marks S0 dirty and sets CALL. -/
def setCall (c : CallState) (p : Part) : Part :=
  if p.cc.call = c then p else setCause .call (markS 0 { p with cc.call := c })

/-- Empty the digit list and the ignored-digit count. -/
def clearDigits (p : Part) : Part :=
  if p.cc.digits = [] ∧ p.cc.ignored = 0 then p else markS 2 { p with cc.digits := [], cc.ignored := 0 }

/-- Enter COLLECTING with an empty digit list. -/
def enterCollecting (p : Part) : Part := setCall .collecting (clearDigits p)

/-! ## The CALL record (R144) -/

/-- The duration in seconds, saturating at 65,535. -/
def callSeconds (answer ending : Tick) : Nat := min 65535 ((ending - answer).toNat / 1000)

/-- The record of a call at its completion. -/
def callRecord (c : PlacedCall) (e : EndingMark) (toRefund : Nat) (p : Part) : CallRecord :=
  { outcome := e.outcome, cls := c.cls, index := c.index, digits := c.digits, startTime := c.startTime,
    answered := c.answer.map fun a => (callSeconds a.tick e.tick, a.band), steps := p.cc.steps,
    charged := p.cc.charged, collected := c.collected, toRefund }

end Sys2Proof.Machine
end

