-- ==== Sys2Proof/Machine/Rail.lean ====
section
/-!
DEFINITION. The rail, the gate and the money of a call (R18 to R35, R101 to R105, R141, R142): the changes the RLU
makes and publishes, charge requests and their answers, refunds and settlements, the ending of a call and its
completion, and the one loop that serves the gate's work in order.
-/

namespace Sys2Proof.Machine

/-! ## Publishing a change (R19, R106, R107) -/

/-- After a change: S2 is marked if the credit on hand differs from what it was, and low credit is examined again. -/
def creditFollows (before : Nat) (p : Part) : Part :=
  let q := if creditOnHand p = before then p else markS 2 p
  reexamineCredit q

/-- A change to the rail, to banked credit or to the gate state: S1, CREDIT, and what follows. -/
def railChange (f : Part → Part) (p : Part) : Part :=
  creditFollows (creditOnHand p) (setCause .credit (markS 1 (f p)))

/-- Another change to the credit on hand, as when a refund becomes pending: S1 is marked. -/
def owedChange (f : Part → Part) (p : Part) : Part :=
  let q := f p
  if creditOnHand q = creditOnHand p then q else creditFollows (creditOnHand p) (markS 1 q)

/-! ## Money events of the rail (R42) -/

/-- Remove the head type from the MONEY rail list. -/
def dropHeadType (m : Money) : Money := { m with railTypes := m.railTypes.drop 1, railCount := m.railCount - 1 }

/-- The head entry leaves the rail. -/
def dropHead (p : Part) : Part := { p with rlu.rail := p.rlu.rail.drop 1 }

/-- A collect confirmed (R22): banked credit, and MONEY and TYPE COUNTS with it. -/
def bookCollect (c : Coin) (p : Part) : Part :=
  bookTypes (fun t => { t with vault := countUp (c.type - 1) t.vault })
    (bookMoney (fun m => dropHeadType { m with
        collected := addTo m.collected c.value, banked := m.banked + c.value,
        vaultValue := addTo m.vaultValue c.value, vaultCount := m.vaultCount + 1 })
      (dropHead { p with rlu.banked := p.rlu.banked + c.value }))

/-- A refund confirmed (R23). -/
def bookRefund (c : Coin) (p : Part) : Part :=
  bookMoney (fun m => dropHeadType { m with refunded := addTo m.refunded c.value }) (dropHead p)

/-- A listed coin that left without its confirm (R24, R38). -/
def bookSuspense (c : Coin) (p : Part) : Part :=
  bookMoney (fun m => dropHeadType { m with suspense := addTo m.suspense c.value }) (dropHead p)

/-- A charge deducted (R28). -/
def bookCharge (a : Nat) (p : Part) : Part :=
  bookMoney (fun m => { m with charged := addTo m.charged a, banked := m.banked - a })
    { p with rlu.banked := p.rlu.banked - a }

/-- A forfeit of banked credit (R32, R36). -/
def bookForfeit (p : Part) : Part :=
  bookMoney (fun m => { m with forfeited := addTo m.forfeited p.rlu.banked, banked := m.banked - p.rlu.banked })
    { p with rlu.banked := 0 }

/-! ## Vault thresholds (R53) -/

/-- A collect has brought the vault count to a threshold whose condition is not active. Where it is both thresholds,
VAULT_NEAR_FULL is raised first: the model's choice (log entry 50). -/
def judgeVault (p : Part) : Part :=
  match p.cau.capacity with
  | none => p
  | some c =>
    let n := p.cau.money.vaultCount
    let p := if n = c * 9 / 10 ∧ !isActive .vaultNearFull p then raise .vaultNearFull n p else p
    if n = c - 8 ∧ !isActive .vaultFull p then raise .vaultFull n p else p

/-- A moment at which the capacity in force is taken: a count at or above a threshold raises its condition. Where it is at
both, VAULT_NEAR_FULL is raised first: the model's choice (log entry 50). -/
def judgeCapacity (p : Part) : Part :=
  match p.cau.capacity with
  | none => p
  | some c =>
    let n := p.cau.money.vaultCount
    let p := if c * 9 / 10 ≤ n ∧ !isActive .vaultNearFull p then raise .vaultNearFull n p else p
    if c - 8 ≤ n ∧ !isActive .vaultFull p then raise .vaultFull n p else p

/-- Take the capacity in force: the VC figure, or the vault count plus the rail count where that is greater. -/
def takeCapacity (p : Part) : Part :=
  judgeCapacity { p with
    cau.capacity := p.cau.vc.map fun v => max v (p.cau.money.vaultCount + p.cau.money.railCount) }

/-! ## The gate's position and its cycles (R20, R21) -/

/-- The position that the table of R20 gives a gate state. -/
def positionIn : GateState → GatePosition
  | .hold => .hold
  | .vaulting => .toVault
  | .refunding => .toReturn
  | .fault => .hold

/-- The gate output, as the RLU drives it now (R20). It is no field of its own, as it follows from the gate state; at
either start it is HOLD. -/
def gatePosition (p : Part) : GatePosition := positionIn p.rlu.gate

/-- Begin a gate cycle on the head coin. -/
def beginCycle (g : GateState) (p : Part) : Part :=
  railChange (fun p => { p with rlu.gate := g, rlu.cycle := some (newTimer 400 p) }) p

/-- The cycle has ended: the gate is at HOLD, or in FAULT. A CLEAR_CONDITION COIN_JAM that waits for HOLD completes
(R26). -/
def endCycle (g : GateState) (p : Part) : Part :=
  let q := { p with rlu.gate := g, rlu.cycle := none }
  if g = .hold ∧ q.rlu.clearWaits then completeIf 7 .done { q with rlu.clearWaits := false } else q

/-! ## Settlement (R32) -/

/-- The settlement with no charge in flight: the forfeit is taken and the refund request joins the gate work. -/
def settle (p : Part) : Part :=
  let q := if p.rlu.banked = 0 then p else railChange bookForfeit p
  owedChange (fun p => { p with rlu.pendingRefund := true, rlu.settlementDue := false }) q

/-- A hang-up settlement waits for the answer to a charge in flight. -/
def hangUpSettlement (p : Part) : Part :=
  if p.rlu.charge.isSome then { p with rlu.settlementDue := true } else settle p

/-! ## The ending of a call (R141, R142) -/

/-- Empty the locked mark of a cache entry; a stale one becomes invalid, and the valid entries older than it become
younger by one (R88, R89). -/
def invalidateEntry (i : Nat) (cache : List CacheEntry) : List CacheEntry :=
  let e := cache.getD i CacheEntry.invalid
  if e.valid then
    (cache.map fun x => if x.valid && decide (e.age < x.age) then { x with age := x.age - 1 } else x).set i
      CacheEntry.invalid
  else cache

def unlockEntry (i : Nat) (cache : List CacheEntry) : List CacheEntry :=
  let e := cache.getD i CacheEntry.invalid
  if e.stale then invalidateEntry i cache else cache.set i { e with locked := false }

/-- Step 2 of the completion: the settlement, if a hang-up has been taken since the call was placed, and the coins to
refund. -/
def coinsToRefund (p : Part) : Nat :=
  if p.rlu.settlementDue then
    (if p.rlu.dump = .ended then p.rlu.rail.length - p.rlu.refund.getD 0 else 0)
  else 0

/-- Step 2 of the completion: the settlement of a hang-up taken since the call was placed. -/
def settleIfDue (p : Part) : Part := if p.rlu.settlementDue then settle p else p

/-- Step 3 of the completion: the call's cache entry is unlocked; a FREE call has none (R89). -/
def unlockFor (c : PlacedCall) (p : Part) : Part :=
  match c.entry with
  | some i => { p with rtu.cache := unlockEntry i p.rtu.cache }
  | none => p

/-- Steps 4 and 5 of the completion: the CALL record is appended, and CALL COUNTS are updated whether or not the ring
takes it. -/
def recordCall (c : PlacedCall) (e : EndingMark) (toRefund : Nat) (p : Part) : Part :=
  countEvent (.customer c.answer.isSome (c.cls == .freeClass) (e.outcome == .creditExhausted))
    (appendRecord (.call (callRecord c e toRefund p)) p)

/-- Step 6 of the completion: IDLE with the hook ON, COLLECTING with an empty digit list with it OFF. -/
def leaveCall (p : Part) : Part :=
  let q := { p with cc.placed := none }
  if q.cc.off then enterCollecting q else setCall .idle q

/-- The completion of a call's ending (R142), its six steps in order; a RELEASE in flight is then DONE (R179). -/
def completeEnding (p : Part) : Part :=
  match p.cc.placed with
  | none => p
  | some c =>
    let q := releaseLine .customer p
    completeIf 2 .done (leaveCall (recordCall c (c.ending.getD { outcome := .localClear, tick := p.tick })
      (coinsToRefund q) (unlockFor c (settleIfDue q))))

/-- An ending event (R141): the outcome and the tick are kept, charging stops, and the ending completes at once when
no charge is in flight. -/
def endCall (outcome : CallOutcome) (p : Part) : Part :=
  let p := { p with cc.placed := p.cc.placed.map fun c => { c with ending := some { outcome, tick := p.tick } } }
  let p := setCall .ending (stopCharging p)
  if p.rlu.charge.isSome then p else completeEnding p

/-! ## Charge answers (R101 to R104) -/

/-- A step is started and paid: the figures rise. -/
def stepStarted (a : Nat) (p : Part) : Part :=
  markS 2 { p with cc.steps := p.cc.steps + 1, cc.charged := p.cc.charged + a }

/-- Enter GRACE at a SHORT answer (R102). -/
def enterGrace (a : Nat) (p : Part) : Part :=
  setCall .grace { p with
    cc.grace := some (newTimer (graceTime p) p), cc.graceOver := false, cc.owed := a, cc.noted := false }

/-- The CC takes CHARGED. -/
def answerCharged (a : Nat) (p : Part) : Part :=
  let p := stepStarted a { p with rlu.charge := none }
  match p.cc.call with
  | .ending => completeEnding p
  | .talking => reportPaid (examineCredit p)
  | .grace =>
    reportPaid (setCall .talking (examineCredit { p with cc.grace := none, cc.graceOver := false, cc.noted := false }))
  | .idle => p
  | .collecting => p
  | .rating => p
  | .placing => p

/-- The CC takes SHORT. -/
def answerShort (a : Nat) (p : Part) : Part :=
  let p := { p with rlu.charge := none }
  match p.cc.call with
  | .ending => completeEnding p
  | .talking => enterGrace a (examineCredit p)
  | .grace =>
    let p := examineCredit p
    if p.cc.graceOver then endCall .creditExhausted p
    else if p.cc.noted then sendCharge p.cc.owed { p with cc.noted := false }
    else p
  | .idle => p
  | .collecting => p
  | .rating => p
  | .placing => p

/-- Deduct a charge and answer it CHARGED (R28). -/
def deduct (a : Nat) (p : Part) : Part := answerCharged a (railChange (bookCharge a) p)

/-! ## Gate work in order (R31) -/

/-- A charge request taken up with the gate at HOLD (R28): decided at once, or marked as needing coins. -/
def takeUpCharge (a : Nat) (p : Part) : Part :=
  if a ≤ p.rlu.banked then deduct a p
  else if p.rlu.banked + railValue p < a then answerShort a p
  else { p with rlu.charge := some { amount := a, collecting := true } }

/-- A refund begins: its count is fixed at the rail count (R33). -/
def beginRefund (p : Part) : Part :=
  { p with rlu.refund := some p.rlu.rail.length, rlu.pendingRefund := false }

/-- One turn of the gate's work: the part after it, and whether more work may follow at once. Nothing runs before the
start-up dump has ended, nor while a cycle is in progress (R31). In FAULT a charge is answered from banked credit
alone (R30). At HOLD a charge that collects goes on (R29), then a refund (R33), then a pending refund begins, then a
waiting charge is taken up. -/
def gateTurn (p : Part) : Part × Bool :=
  if p.rlu.dump ≠ .ended then (p, false)
  else match p.rlu.gate with
    | .vaulting => (p, false)
    | .refunding => (p, false)
    | .fault =>
      match p.rlu.charge with
      | some c => (if c.amount ≤ p.rlu.banked then deduct c.amount p else answerShort c.amount p, true)
      | none => (p, false)
    | .hold =>
      match p.rlu.charge, p.rlu.refund with
      | some { amount := a, collecting := true }, _ =>
        if a ≤ p.rlu.banked then (deduct a p, true) else (beginCycle .vaulting p, false)
      | _, some 0 => ({ p with rlu.refund := none }, true)
      | _, some (_ + 1) => (beginCycle .refunding p, false)
      | c, none =>
        if p.rlu.pendingRefund then (beginRefund p, true)
        else match c with
          | some c => (takeUpCharge c.amount p, true)
          | none => (p, false)

/-- Turns of the gate's work until none follows. -/
def gateTurns : Nat → Part → Part
  | 0, p => p
  | n + 1, p =>
    let (q, more) := gateTurn p
    if more then gateTurns n q else q

/-- Serve the gate's work. Every CHARGED answer lowers banked credit, and at most a few turns pass between two of
them, so the rounds suffice. -/
def gateWork (p : Part) : Part := gateTurns (2 * p.rlu.banked + 20) p

end Sys2Proof.Machine
end

