-- ==== Sys2Proof/Machine/Tariff.lean ====
section
/-!
DEFINITION. Rating a number (R74 to R91) and judging its result (R137, R138): the free prefix list, the rate cache,
the scan engine, and the placing of a call.
-/

namespace Sys2Proof.Machine

/-- What a result carries of its chosen entry (R74, R80, R87): the tariff copy, with the class, the connection charge
and the four band rates; the table index; and the number of the cache entry that was hit or filled. -/
structure Chosen where
  copy : TariffEntry
  index : Nat
  entry : Nat
deriving DecidableEq, Repr

/-- The result of a lookup, as it is handed to the CC (R74). BARRED carries its chosen entry, or none where no entry
matched. -/
inductive Rating where
  | free (index : Nat)
  | rated (chosen : Chosen)
  | barred (chosen : Option Chosen)
  | tariffBad
  | unavailable
deriving DecidableEq, Repr

/-! ## The free prefix list (R75) -/

/-- A number begins with a prefix. -/
def beginsWith (number pre : List Nat) : Bool := pre.isPrefixOf number

/-- The first prefix of the list that the number begins with. -/
def freeIndex (number : List Nat) (list : List (List Nat)) : Option Nat := list.findIdx? (beginsWith number)

/-! ## The rate cache (R86 to R90) -/

/-- The rating key: the first eight digits, or the whole of a shorter number. -/
def ratingKey (number : List Nat) : List Nat := number.take 8

/-- The entry that a key hits (R87). -/
def probe (key : List Nat) (cache : List CacheEntry) : Option Nat :=
  cache.findIdx? fun e => e.valid && !e.stale && e.key == key

/-- An entry becomes the youngest (R88): each valid entry that was younger rises by one. An entry that is not valid
counts every valid entry as younger. -/
def makeYoungest (i : Nat) (cache : List CacheEntry) : List CacheEntry :=
  let e := cache.getD i CacheEntry.invalid
  (cache.map fun x =>
      if x.valid && (!e.valid || decide (x.age < e.age)) then { x with age := x.age + 1 } else x).set i
    { e with age := 0 }

/-- The greatest age among the unlocked valid entries, with its entry. -/
def oldestUnlocked : Nat → List CacheEntry → Option (Nat × Nat)
  | _, [] => none
  | i, e :: es =>
    match oldestUnlocked (i + 1) es with
    | none => if e.valid && !e.locked then some (i, e.age) else none
    | some (j, a) => if e.valid && !e.locked && decide (a < e.age) then some (i, e.age) else some (j, a)

/-- The target of a fill (R88): the lowest-numbered invalid entry, or the oldest unlocked one. -/
def fillTarget (cache : List CacheEntry) : Nat :=
  match cache.findIdx? fun e => !e.valid with
  | some i => i
  | none => ((oldestUnlocked 0 cache).map (·.1)).getD 0

/-- Fill an entry with a rating, which becomes the youngest. -/
def fillEntry (i : Nat) (key : List Nat) (index : Nat) (copy : TariffEntry) (cache : List CacheEntry) :
    List CacheEntry :=
  (makeYoungest i cache).set i { valid := true, key, copy, index, locked := false, stale := false, age := 0 }

/-- A notice or a bad verdict (R90): unlocked entries are invalidated, and the locked one becomes stale. -/
def invalidateCache (cache : List CacheEntry) : List CacheEntry :=
  cache.map fun e => if e.valid then (if e.locked then { e with stale := true } else CacheEntry.invalid) else e

/-! ## The result of a chosen entry (R74) -/

/-- What the result of a cache entry that was hit or filled carries. -/
def chosenOf (i : Nat) (cache : List CacheEntry) : Chosen :=
  { copy := (cache.getD i CacheEntry.invalid).copy, index := (cache.getD i CacheEntry.invalid).index, entry := i }

/-- RATED or BARRED by the class of the tariff copy (R80, R87). -/
def ratingOf (c : Chosen) : Rating := if classOf c.copy.cls = .barredClass then .barred (some c) else .rated c

/-! ## Judging a result (R138) -/

/-- A result other than PLACED returns the call to COLLECTING with its digits as they were (R138). The ignored-digit count
stays too: the model's choice beside R136's "each time the call enters COLLECTING" (log entry 49). -/
def refuseDial (code : ResultCode) (p : Part) : Part := completeIf 1 code (setCall .collecting p)

/-- PLACED: the entry is locked, the call is built, S2 shows it, and the line is asked for (R89, R138). -/
def placeCall (cls : CallClass) (index : Nat) (entry : Option Nat) (p : Part) : Part :=
  let p := markS 2 { p with
    rtu.cache := match entry with
      | some i => p.rtu.cache.set i { p.rtu.cache.getD i CacheEntry.invalid with locked := true }
      | none => p.rtu.cache
    rtu.timing := Timing.fresh
    cc.cls := cls
    cc.steps := 0
    cc.charged := 0
    cc.placed := some { cls, index, entry, digits := p.cc.digits, startTime := p.rtu.clock, answer := none,
                        collected := 0, ending := none } }
  completeIf 1 .placed (setCall .placing (askCustomerSeize p.cc.digits p))

/-- The CC judges a result against the restriction and the credit on hand (R138). -/
def judgeRating (r : Rating) (p : Part) : Part :=
  match r with
  | .tariffBad => refuseDial .tariffBad p
  | .unavailable => refuseDial .rateUnavailable p
  | .barred _ => refuseDial .barred p
  | .free i =>
    if p.cru.restriction = .noCalls then refuseDial .restricted p else placeCall .freeClass i none p
  | .rated c =>
    if p.cru.restriction = .noCalls then refuseDial .restricted p
    else if p.cru.restriction = .freeOnly then refuseDial .restricted p
    else if creditOnHand p < c.copy.c0 + chargeStep p then refuseDial .noCredit p
    else placeCall (classOf c.copy.cls) c.index (some c.entry) p

/-! ## The scan engine (R79 to R85) -/

/-- A scan begins from the header. -/
def beginScan (p : Part) : Part := requestRead .scanHeader { p with rtu.scan := Scan.fresh }

/-- A verification begins whenever the mark is set and the engine is IDLE (R84). -/
def beginVerify (p : Part) : Part :=
  if p.rtu.verifyDue ∧ p.rtu.engine = .idle then
    beginScan { p with rtu.engine := .verify, rtu.verifyDue := false }
  else p

/-- The engine stops without a verdict: a read not yet begun is withdrawn, and the words of one in progress are
discarded (R82 to R84). -/
def stopScan (p : Part) : Part := withdrawReads ofScan { p with rtu.engine := .idle }

/-- A tariff entry of its eight words (R76). -/
def entryOf (words : List Word) : TariffEntry :=
  { digits := unpackDigits [wordAt words 0, wordAt words 1], length := bits (wordAt words 2) 0 4,
    cls := bits (wordAt words 2) 8 3, c0 := (wordAt words 3).toNat,
    rates := [(wordAt words 4).toNat, (wordAt words 5).toNat, (wordAt words 6).toNat, (wordAt words 7).toNat] }

/-- Every field of an entry lies in its checked range (R76). -/
def entryInRange (e : TariffEntry) : Bool :=
  decide (1 ≤ e.length) && decide (e.length ≤ 8) && classOf e.cls != .noClass && decide (e.c0 ≤ 5000)
    && e.rates.all fun r => decide (r ≤ 60000)

/-- An entry matches a number (R78). -/
def entryMatches (number : List Nat) (e : TariffEntry) : Bool :=
  decide (e.length ≤ number.length) && number.take e.length == e.digits.take e.length

/-- A matching entry replaces the best match only with a greater prefix length (R79). -/
def betterMatch (number : List Nat) (i : Nat) (e : TariffEntry) (best : Option (Nat × TariffEntry)) :
    Option (Nat × TariffEntry) :=
  if entryMatches number e then
    match best with
    | none => some (i, e)
    | some (j, b) => if b.length < e.length then some (i, e) else some (j, b)
  else best

/-- The verdict of a scan that has read the whole table (R77): the detail of its first fault, or none if good. -/
def verdictOf (s : Scan) : Option Nat :=
  if s.check ≠ ~~~s.sum then some 2
  else match s.outOfRange with
    | some i => some (100 + i)
    | none => none

/-- Apply a verdict to TARIFF_BAD and to the cache (R81, R90). -/
def applyVerdict (fault : Option Nat) (p : Part) : Part :=
  match fault with
  | some detail => { raise .tariffBad detail p with
      rtu.cache := invalidateCache (raise .tariffBad detail p).rtu.cache }
  | none => clear .tariffBad p

/-- The result of a lookup scan (R80), once its verdict has been applied: TARIFF_BAD; BARRED without an index where no
entry was chosen; or, the cache filled with the chosen entry, RATED or BARRED by its class. -/
def scanResult (fault : Option Nat) (number : List Nat) (best : Option (Nat × TariffEntry)) (p : Part) :
    Rating × Part :=
  match fault, best with
  | some _, _ => (.tariffBad, p)
  | none, none => (.barred none, p)
  | none, some (index, copy) =>
    let i := fillTarget p.rtu.cache
    let cache := fillEntry i (ratingKey number) index copy p.rtu.cache
    (ratingOf (chosenOf i cache), { p with rtu.cache := cache })

/-- The completion of a scan with a verdict (R80, R84, R85). -/
def completeScan (fault : Option Nat) (p : Part) : Part :=
  match p.rtu.engine with
  | .idle => p
  | .verify => beginVerify (applyVerdict fault { p with rtu.engine := .idle })
  | .lookup number _ =>
    let r := scanResult fault number p.rtu.scan.best
      (applyVerdict fault { p with rtu.engine := .idle, rtu.verifyDue := false })
    judgeRating r.1 r.2

/-- The header read completes (R79). -/
def takeHeader (count check : Word) (p : Part) : Part :=
  match p.rtu.engine with
  | .idle => p
  | .verify | .lookup _ _ =>
    if count.toNat = 0 ∨ 200 < count.toNat then completeScan (some 1) p
    else requestRead (.scanEntry 0) { p with
      rtu.scan := { count := count.toNat, check, sum := count, best := none, outOfRange := none } }

/-- The scan after entry `i` (R79). -/
def scanAfter (engine : Engine) (i : Nat) (words : List Word) (s : Scan) : Scan :=
  let e := entryOf words
  { s with
    sum := s.sum + sumWords words
    best := match engine with
      | .lookup number _ => betterMatch number i e s.best
      | .verify => s.best
      | .idle => s.best
    outOfRange := match s.outOfRange with
      | some j => some j
      | none => if entryInRange e then none else some i }

/-- An entry read completes (R79): the next read is requested, or the scan completes with its verdict. -/
def takeEntry (i : Nat) (words : List Word) (p : Part) : Part :=
  match p.rtu.engine with
  | .idle => p
  | .verify | .lookup _ _ =>
    let s := scanAfter p.rtu.engine i words p.rtu.scan
    let q := { p with rtu.scan := s }
    if i + 1 < s.count then requestRead (.scanEntry (i + 1)) q else completeScan (verdictOf s) q

/-! ## The lookup (R74) -/

/-- A lookup that misses the cache begins a scan, ending a verification in progress (R85), and the call waits in
RATING (R137). -/
def beginLookup (number : List Nat) (p : Part) : Part :=
  let p := if p.rtu.engine = .verify then { stopScan p with rtu.verifyDue := true } else p
  setCall .rating (beginScan { p with rtu.engine := .lookup number 0 })

/-- The result with which the free list or the cache ends a lookup at its taking (R75, R87); none where neither answers.
A hit makes its entry the youngest. -/
def answerAtTaking (number : List Nat) (p : Part) : Option (Rating × Part) :=
  match freeIndex number p.rtu.freeList with
  | some i => some (.free i, p)
  | none =>
    match probe (ratingKey number) p.rtu.cache with
    | some i =>
      let cache := makeYoungest i p.rtu.cache
      some (ratingOf (chosenOf i cache), { p with rtu.cache := cache })
    | none => none

/-- The lookup of a number (R74): the free list, then the cache, then a scan. -/
def lookup (number : List Nat) (p : Part) : Part :=
  match answerAtTaking number p with
  | some (r, q) => judgeRating r q
  | none => beginLookup number p

/-- The CC abandons the outstanding lookup (R83). -/
def abandonLookup (p : Part) : Part :=
  match p.rtu.engine with
  | .lookup _ _ => beginVerify (stopScan p)
  | .verify => p
  | .idle => p

/-- A scan read fails back after 50 ms of a busy flash (R83, R84). -/
def scanFailsBack (p : Part) : Part :=
  match p.rtu.engine with
  | .lookup _ _ => beginVerify (judgeRating .unavailable (stopScan p))
  | .verify => let q := stopScan p; beginVerify { q with rtu.quiet := some (newTimer 2000 q) }
  | .idle => p

/-- A tariff-write notice (R82, R84, R90). -/
def tariffNotice (p : Part) : Part :=
  let p := { p with rtu.cache := invalidateCache p.rtu.cache, rtu.quiet := some (newTimer 2000 p) }
  match p.rtu.engine with
  | .idle => p
  | .verify => beginVerify (stopScan p)
  | .lookup number restarts =>
    if restarts < 3 then beginScan { stopScan p with rtu.engine := .lookup number (restarts + 1) }
    else beginVerify (judgeRating .unavailable (stopScan p))

/-! ## DIAL (R137) -/

/-- The CC takes or refuses DIAL. -/
def dialCall (p : Part) : Part :=
  if p.cc.call ≠ .collecting then complete .notAllowed p
  else if !p.cc.off then complete .notOffhook p
  else if p.cc.digits = [] then complete .noDigits p
  else if p.cru.restriction = .noCalls then complete .restricted p
  else if (match p.lu.settings with
      | some s => s.pulse && !decimal p.cc.digits
      | none => false) then complete .invalidNumber p
  else lookup p.cc.digits p

end Sys2Proof.Machine
end

