-- ==== Sys2Proof/Machine/Calls.lean ====
section
/-!
DEFINITION. The customer's side (R132 to R143): the hook switch with its flashes, a lift and a hang-up, the digits, the
notices of the line, RELEASE and the grace expiry.
-/

namespace Sys2Proof.Machine

/-! ## Ending causes (R141) -/

def isAnswered (p : Part) : Bool := (p.cc.placed.bind (·.answer)).isSome

/-- A placed call that has not ended: the states in which an ending event acts. -/
def isPlaced (p : Part) : Bool := p.cc.call == .placing || p.cc.call == .talking || p.cc.call == .grace

/-- The call-record outcome of a line outcome. -/
def outcomeOf : LineOutcome → CallOutcome
  | .noLoop => .noLoop | .noDialtone => .noDialtone | .busy => .busy | .noAnswer => .noAnswer
  | .lineLost => .lineLost | .farClear => .farClear

/-- The CC takes an outcome of the line; in ENDING and without a placed call it takes no action (R139, R141). -/
def takeLineOutcome (o : LineOutcome) (p : Part) : Part :=
  if isPlaced p then gateWork (endCall (outcomeOf o) p) else p

/-- ANSWERED (R139): the answer is recorded, the call enters TALKING, and a RATED call sends its answer charge. -/
def takeAnswered (p : Part) : Part :=
  match p.cc.placed with
  | none => p
  | some c =>
    let p := { p with cc.placed := some { c with answer := some { tick := p.tick, band := bandNow p } } }
    let p := setCall .talking p
    if c.cls = .freeClass then p else gateWork (beginAnswerStep p)

/-- RELEASE (R141, R179): its result is written when the ending completes. -/
def releaseCall (p : Part) : Part :=
  if isPlaced p then gateWork (endCall (if isAnswered p then .released else .abandoned) p)
  else complete .notAllowed p

/-- The expiry of the grace timer (R104). -/
def endGrace (p : Part) : Part :=
  let p := { p with cc.grace := none }
  if p.cc.call ≠ .grace then p
  else if p.rlu.charge.isSome then { p with cc.graceOver := true }
  else gateWork (endCall .creditExhausted p)

/-! ## The hook switch (R132, R133, R135) -/

/-- The entries of a list of ticks that are younger than a limit. -/
def youngerThan (limit : Nat) (p : Part) (ticks : List Tick) : List Tick :=
  ticks.filter fun t => decide (elapsed t p < limit)

/-- Append the tick now; when a 33rd joins, the oldest leaves. -/
def appendTick (limit : Nat) (p : Part) (ticks : List Tick) : List Tick :=
  let kept := youngerThan limit p ticks ++ [p.tick]
  kept.drop (kept.length - 32)

/-- The flash list is judged: HOOK_ABUSE at six or more. -/
def judgeFlashes (p : Part) : Part :=
  if 6 ≤ p.cc.flashes.length then raise .hookAbuse p.cc.flashes.length p else p

/-- The abuse timer starts again while HOOK_ABUSE is active. -/
def restartAbuse (p : Part) : Part :=
  if isActive .hookAbuse p then { p with cc.abuse := some (newTimer 60000 p) } else p

/-- A flash (R133): the list, HOOK_ABUSE at six or more, and the abuse timer while it is active. -/
def takeFlash (p : Part) : Part :=
  restartAbuse (judgeFlashes { p with cc.hangUp := none, cc.flashes := appendTick 10000 p p.cc.flashes })

/-- A lift (R135). -/
def takeLift (p : Part) : Part := if p.cc.call = .idle then enterCollecting p else p

/-- A hang-up acts by the call state (R135). -/
def takeHangUp (p : Part) : Part :=
  match p.cc.call with
  | .idle => gateWork (hangUpSettlement p)
  | .collecting => gateWork (setCall .idle (hangUpSettlement p))
  | .rating => gateWork (setCall .idle (hangUpSettlement (completeIf 1 .notOffhook (abandonLookup p))))
  | .placing | .talking | .grace =>
    gateWork (endCall (if isAnswered p then .localClear else .abandoned)
      { p with rlu.settlementDue := true })
  | .ending => gateWork (hangUpSettlement p)

/-! ## The dial word (R136, R140) -/

/-- One digit joins the list, or is ignored and counted. -/
def appendDigit (d : Nat) (p : Part) : Part :=
  if p.cc.digits.length < 20 then markS 2 { p with cc.digits := p.cc.digits ++ [d] }
  else if p.cc.ignored < 255 then markS 2 { p with cc.ignored := p.cc.ignored + 1 }
  else p

/-- The last digit leaves the list. -/
def eraseDigit (p : Part) : Part :=
  if p.cc.digits = [] then p else markS 2 { p with cc.digits := p.cc.digits.dropLast }

/-- A dial word written in COLLECTING. -/
def collectDigit (value : Nat) (p : Part) : Part :=
  if value ≤ 15 then appendDigit value p
  else if value = 0xFE then clearDigits p
  else if value = 0xFF then eraseDigit p
  else p

end Sys2Proof.Machine
end

