-- ==== Sys2Proof/Machine/Reports.lean ====
section
/-!
DEFINITION. Sending symbols (R118 to R120) and report calls (R167 to R174): the digit sender's steps, the frame of a
record, the choice of the next record, the acceptance of a frame, and the end of a report call.
-/

namespace Sys2Proof.Machine

/-! ## The digit sender (R118, R119) -/

/-- Send a DTMF symbol: 80 ms of tone begin. -/
def startTone (symbol : Nat) (rest : List Nat) (p : Part) : Part :=
  { p with lu.sender := { phase := .tone, symbol, breaks := 0, rest, timer := some (newTimer 80 p) } }

/-- The breaks of a digit in pulse mode: digit 0 takes ten. -/
def breaksOf (digit : Nat) : Nat := if digit = 0 then 10 else digit

/-- Loop-closed time without current pauses while a break holds the loop open (R127). -/
def pauseLoss (p : Part) : Part :=
  match p.lu.loss.since with
  | some t => { p with lu.loss := { counted := p.lu.loss.counted + elapsed t p, since := none } }
  | none => p

/-- A break begins: the loop opens for 60 ms, with this many breaks of the digit to come after it. -/
def startBreak (symbol toCome : Nat) (rest : List Nat) (p : Part) : Part :=
  let p := pauseLoss p
  { p with lu.sender := { phase := .breaking, symbol, breaks := toCome, rest, timer := some (newTimer 60 p) } }

/-- Begin to send a digit of the number, by the dial mode of the seize's copy. -/
def startDigit (digit : Nat) (rest : List Nat) (p : Part) : Part :=
  if (match p.lu.copy with
      | some c => c.pulse
      | none => false) then startBreak digit (breaksOf digit - 1) rest p
  else startTone digit rest p

/-! ## Frames (R169) -/

/-- The decimal digits of a number, most significant first, with leading zeros. -/
def decimalDigits : Nat → Nat → List Nat
  | 0, _ => []
  | width + 1, n => n / 10 ^ width % 10 :: decimalDigits width n

/-- The day of the week, or 9 if UNSET; then the minute of day, or 9999 if UNSET. -/
def stampDigits : WallTime → List Nat
  | none => [9, 9, 9, 9, 9]
  | some (day, second) => day :: decimalDigits 4 (second / 60)

/-- The 22 digits between the star and the check digit. -/
def frameDigits (identity : List Nat) (r : ReportRecord) : List Nat :=
  (identity ++ List.replicate 6 0).take 6 ++ decimalDigits 2 r.kind.code ++ [if r.kind.urgent then 1 else 2]
    ++ decimalDigits 3 (min r.count 999) ++ stampDigits r.last ++ decimalDigits 5 r.detail

/-- The weighted sum: weights 1, 3, 1, 3 and so on, the first with weight 1. -/
def weightedSum : List Nat → Nat
  | [] => 0
  | [a] => a
  | a :: b :: rest => a + 3 * b + weightedSum rest

/-- The check digit. -/
def checkDigit (ds : List Nat) : Nat := (10 - weightedSum ds % 10) % 10

/-- The 25 symbols of a frame. -/
def frameOf (identity : List Nat) (r : ReportRecord) : List Nat :=
  10 :: frameDigits identity r ++ [checkDigit (frameDigits identity r), 11]

/-! ## Sending a record (R169 to R172) -/

/-- The next record: the oldest QUEUED URGENT one, or else the oldest QUEUED ROUTINE one. -/
def nextRecord (queue : List ReportRecord) : Option ReportRecord :=
  match queue.find? fun r => !r.sending && r.kind.urgent with
  | some r => some r
  | none => queue.find? fun r => !r.sending

/-- The record being sent. -/
def sendingRecord (p : Part) : Option ReportRecord := p.cru.queue.find? (·.sending)

/-- The record as its frame is composed and handed over. -/
def composed (r : ReportRecord) : ReportRecord :=
  { r with sending := true, sent := some r.count, updated := false, firstMerge := none,
           attempts := satAdd 255 r.attempts }

/-- Compose a frame from the record, and hand it to the LU (R169). In CONNECTED, after ANSWERED has been handed, the LU
takes it and enters SENDING; a frame handed in any other state is returned unsent, and the record stays SENDING
(R128, R169). -/
def sendFrame (r : ReportRecord) (p : Part) : Part :=
  match p.cru.report with
  | none => p
  | some c =>
    let p := changeRecord r.slot composed { p with cru.report := some { c with sends := c.sends + 1 } }
    if p.lu.line = .connected ∧ p.lu.announced = true then
      match frameOf c.identity r with
      | [] => p
      | s :: rest => startTone s rest (markS 0 { p with lu.line := .sending })
    else p

/-- A record that was not accepted returns to QUEUED in its place (R171). -/
def requeued (r : ReportRecord) : ReportRecord :=
  { r with sending := false, sent := none, updated := false, firstMerge := none }

/-- The SENDING record, if any, returns to QUEUED. -/
def requeueSending (p : Part) : Part :=
  match sendingRecord p with
  | some r => changeRecord r.slot requeued p
  | none => p

/-- The backoff of a failure count, in milliseconds (R173). -/
def backoffTime (f : Nat) : Nat := if f ≥ 6 then 1920000 else 60000 * 2 ^ (f - 1)

/-- A failure: the count rises and backoff starts. -/
def reportFailure (p : Part) : Part :=
  let f := satAdd 255 p.cru.failures
  markS 4 { p with cru.failures := f, cru.backoff := some (newTimer (backoffTime f) p) }

/-- The report call is over; it is counted, or not (R173). -/
def closeReport (counted : Option Bool) (p : Part) : Part :=
  let p := { p with cru.report := none }
  match counted with
  | some succeeded => countEvent (.report succeeded) p
  | none => p

/-- The CRU releases the line after its frames: a success (R172, R173). -/
def finishReport (p : Part) : Part := closeReport (some true) (releaseLine .report p)

/-- Choose the next record and send it, or end the call (R169). -/
def chooseRecord (p : Part) : Part :=
  match nextRecord p.cru.queue with
  | some r => sendFrame r { p with cru.report := p.cru.report.map fun c => { c with sends := 0 } }
  | none => finishReport p

/-- ANSWERED reaches the CRU (R168). -/
def reportAnswered (p : Part) : Part := chooseRecord p

/-- The record re-armed (R170): it keeps only the raises that the accepted frame did not carry. -/
def rearmed (sequence : Total) (r : ReportRecord) : ReportRecord :=
  { r with
    sending := false, sequence
    count := max 1 (r.count - r.sent.getD 0)
    first := match r.firstMerge with
      | some t => t
      | none => r.first
    attempts := 0, sent := none, updated := false, firstMerge := none }

/-- The record of an accepted frame leaves the queue, or is re-armed at the newest end. -/
def acceptRecord (r : ReportRecord) (p : Part) : Part :=
  let others := p.cru.queue.filter fun x => x.slot != r.slot
  mark (.report r.slot)
    (if r.updated then
      { p with cru.sequence := p.cru.sequence + 1, cru.queue := others ++ [rearmed (p.cru.sequence + 1) r] }
    else { p with cru.queue := others })

/-- ACKNOWLEDGED (R170): the failure count becomes 0, and the call goes on or ends at eight accepted frames. -/
def frameAccepted (p : Part) : Part :=
  match p.cru.report, sendingRecord p with
  | some c, some r =>
    let p := if p.cru.failures = 0 then p else markS 4 { p with cru.failures := 0 }
    let p := acceptRecord r { p with cru.report := some { c with accepted := c.accepted + 1 } }
    if 8 ≤ c.accepted + 1 then finishReport p else chooseRecord p
  | _, _ => p

/-- DECLINED or SILENCE (R171): the frame is sent again, or after its third send the call ends as a failure. -/
def frameNotAccepted (p : Part) : Part :=
  match p.cru.report, sendingRecord p with
  | some c, some r =>
    if c.sends < 3 then sendFrame r p
    else closeReport (some (decide (0 < c.accepted))) (reportFailure (releaseLine .report (requeueSending p)))
  | _, _ => p

/-- The outcomes that can come after a frame has been accepted. -/
def lateOutcome : LineOutcome → Bool
  | .lineLost => true
  | .farClear => true
  | .noLoop => false
  | .noDialtone => false
  | .busy => false
  | .noAnswer => false

/-- An outcome of the line ends the report call (R168, R172, R173). -/
def reportOutcome (o : LineOutcome) (p : Part) : Part :=
  match p.cru.report with
  | none => p
  | some c =>
    let p := requeueSending p
    if lateOutcome o && decide (0 < c.accepted) then closeReport (some true) p
    else closeReport (some false) (reportFailure p)

/-- LIFTED ends the report call (R111, R173). -/
def reportLifted (p : Part) : Part :=
  match p.cru.report with
  | none => p
  | some c => closeReport (if 0 < c.accepted then some true else none) (requeueSending p)

end Sys2Proof.Machine
end

