-- ==== Sys2Proof/Machine/Line.lean ====
section
/-!
DEFINITION. The line at work (R111 to R131): outcomes and the failed-seize count, the dial-tone search, the end of
dialling, the tone classifier, answer and clear, loop loss, and the frames' acknowledgement.
-/

namespace Sys2Proof.Machine

/-! ## Outcomes (R129, R131) -/

/-- A probe has ended: with LINE_DOWN still active its timer starts again (R131). -/
def probeEnded (p : Part) : Part :=
  if isActive .lineDown p then { p with lu.probe := some (newTimer 300000 p) } else p

/-- The failed-seize count after a failed seize, and LINE_DOWN at the third (R129). -/
def countFailedSeize (detail : Nat) (p : Part) : Part :=
  if p.lu.failedSeizes + 1 < 3 then { p with lu.failedSeizes := p.lu.failedSeizes + 1 }
  else raiseLineDown detail { p with lu.failedSeizes := 0 }

/-- What an outcome does to the failed-seize count: 2 or 3 is the detail of LINE_DOWN. -/
def failedSeizeDetail : LineOutcome → Option Nat
  | .noLoop => some 2
  | .noDialtone => some 3
  | .busy => none
  | .noAnswer => none
  | .lineLost => none
  | .farClear => none

/-- The LU's count for an outcome of a seize with an owner; a PROBE seize does not add to it. -/
def seizeFailure (owner : Owner) (o : LineOutcome) (p : Part) : Part :=
  match failedSeizeDetail o with
  | some d => if owner = .probe then p else countFailedSeize d p
  | none => p

/-- Hand an outcome to the owner that has just been ended. -/
def handOutcome (owner : Owner) (o : LineOutcome) (p : Part) : Part :=
  match owner with
  | .customer => takeLineOutcome o p
  | .report => reportOutcome o p
  | .probe => probeEnded p
  | .none => p

/-- A seize or call ends by itself (R129). For a report call the raise of LINE_DOWN and the outcome may be taken in
either order (R173), which a free value decides (log entry 13). -/
def lineOutcome (o : LineOutcome) (p : Part) : Part :=
  let owner := p.lu.owner
  let p := enterClearing p
  if owner = .report then
    let q := { p with free := p.free + 1 }
    if Config.raiseBeforeOutcome p.free then handOutcome owner o (seizeFailure owner o q)
    else seizeFailure owner o (handOutcome owner o q)
  else handOutcome owner o (seizeFailure owner o p)

/-- A lift ends a REPORT or PROBE call in any of its states (R111). -/
def liftLine (p : Part) : Part :=
  match p.lu.owner with
  | .report => reportLifted (enterClearing p)
  | .probe => probeEnded (enterClearing p)
  | .customer => p
  | .none => p

/-! ## States -/

/-- The states in which the loss timer runs: from SEARCHING through AWAIT_ACK (R127). -/
def isWatched (l : LineState) : Bool :=
  match l with
  | .searching | .dialling | .awaitAnswer | .connected | .sending | .awaitAck => true
  | .idle | .seizing | .clearing => false

/-- The states in which the far end's clear is seen (R126). -/
def isConnected (l : LineState) : Bool :=
  match l with
  | .connected | .sending | .awaitAck => true
  | .idle | .seizing | .searching | .dialling | .awaitAnswer | .clearing => false

/-- The seize's copy has answer mode TIMED. -/
def isTimed (p : Part) : Bool := match p.lu.copy with
  | some c => c.timed
  | none => false

/-- The dial-tone threshold of the seize's copy. -/
def toneThreshold (p : Part) : Nat := match p.lu.copy with
  | some c => c.threshold
  | none => 0

/-- The look-beyond depth of the seize's copy. -/
def lookBeyond (p : Part) : Nat := match p.lu.copy with
  | some c => c.depth
  | none => 0

/-- The polarity that the sense shows, or showed last: in a break of pulse dialling and in a loss of current it shows
none (R114, R123; log entry 31). -/
def lastShown (p : Part) : Option Polarity :=
  match p.pins.loop with
  | some s => some s
  | none => p.lu.shown

/-- A polarity that the sense shows or showed is the one opposite the reference. -/
def opposes (shown : Option Polarity) (p : Part) : Bool :=
  match shown, p.lu.reference with
  | some s, some r => s != r
  | _, _ => false

/-- The polarity sense shows the polarity opposite the reference. -/
def isOpposite (p : Part) : Bool := opposes p.pins.loop p

/-- The polarity sense stands at the reference. -/
def isAtReference (p : Part) : Bool :=
  match p.pins.loop, p.lu.reference with
  | some s, some r => s == r
  | _, _ => false

/-! ## Dialling (R118, R119) -/

/-- Dialling has ended: AWAIT_ANSWER is entered, its timers start and the classifier starts empty. A polarity that
stands opposite answers nothing until it has returned to the reference (R114, R123). After the last break of PULSE
dialling the sense shows none, and the polarity that it showed last is judged. -/
def enterAwaitAnswer (p : Part) : Part :=
  markS 0 { p with
    lu.line := .awaitAnswer
    lu.sender := Sender.still
    lu.classifier := Classifier.empty
    lu.answerLimit := some (newTimer 60000 p)
    lu.mustReturn := opposes (lastShown p) p }

/-- Dial tone is found at a step (R117, R129): a PROBE seize releases the line, and the others dial. -/
def dialToneFound (step : Nat) (p : Part) : Part :=
  let p := clearLineDown { p with
    lu.gain := step, lu.lastGood := step, lu.failedSeizes := 0, lu.searchLimit := none }
  if p.lu.owner = .probe then probeEnded (enterClearing p)
  else
    let p := markS 0 { p with lu.line := .dialling }
    match p.lu.number with
    | [] => enterAwaitAnswer p
    | d :: rest => startDigit d rest p

/-! ## The dial-tone search (R115 to R117) -/

/-- A usable figure against the best of the sweep. -/
def judgeFigure (step figure : Nat) (s : Sweep) : Sweep :=
  match s.best with
  | none => { s with best := some (step, figure), misses := 0 }
  | some (_, f) =>
    if f < figure then { s with best := some (step, figure), misses := 0 } else { s with misses := s.misses + 1 }

/-- The end of a sweep: dial tone is found, the second sweep begins, or the seize ends. -/
def endSweep (p : Part) : Part :=
  let found := p.lu.sweep.best.bind fun b => if toneThreshold p ≤ b.2 then some b.1 else none
  match found with
  | some step => dialToneFound step p
  | none =>
    if p.lu.sweep.second then lineOutcome .noDialtone p
    else { p with lu.gain := 0, lu.sweep := { second := true, best := none, misses := 0 } }

/-- A dwell of the search ends with its figure. -/
def searchDwell (figure : Nat) (p : Part) : Part :=
  if p.lu.spoiled || p.pins.loop.isNone then { p with lu.spoiled := p.pins.loop.isNone }
  else
    let p := { p with lu.sweep := judgeFigure p.lu.gain figure p.lu.sweep }
    if p.lu.gain ≥ 15 ∨ (p.lu.sweep.second = false ∧ lookBeyond p ≤ p.lu.sweep.misses) then endSweep p
    else { p with lu.gain := p.lu.gain + 1 }

/-! ## The tone classifier (R121) -/

/-- Lengths of a busy period, 300 to 600 ms; of ringback's on period, 800 to 2,200 ms, and off period, 1,500 to
4,500 ms. -/
def isBusyLength (n : Nat) : Bool := 300 ≤ n && n ≤ 600
def isRingOn (n : Nat) : Bool := 800 ≤ n && n ≤ 2200
def isRingOff (n : Nat) : Bool := 1500 ≤ n && n ≤ 4500

/-- An ended period is judged: an on period is kept for the off period that follows it, and the off period makes a
busy cycle, a ringback, or neither. -/
def judgePeriod (on : Bool) (length : Nat) (c : Classifier) : Classifier :=
  if on then { c with onLength := some length, cycles := if isBusyLength length then c.cycles else 0 }
  else match c.onLength with
    | none => { c with cycles := 0 }
    | some l =>
      if isBusyLength l && isBusyLength length then { c with onLength := none, cycles := c.cycles + 1 }
      else { c with onLength := none, cycles := 0, ringback := c.ringback || (isRingOn l && isRingOff length) }

/-- The classifier takes a dwell. A period ends when a dwell of the other kind arrives. -/
def classify (on : Bool) (now : Tick) (c : Classifier) : Classifier :=
  let c := if on then { c with lastOn := some now } else c
  match c.period with
  | none => { c with period := some { on, dwells := 1, judged := false } }
  | some r =>
    if r.on = on then { c with period := some { r with dwells := r.dwells + 1 } }
    else
      let c := if r.judged then judgePeriod r.on (r.dwells * 50) c else c
      { c with period := some { on, dwells := 1, judged := true } }

/-- The classifier works: in AWAIT_ANSWER for every call, and on a connected line whose answer was assumed by timing,
while nothing is being sent (R121, R126). -/
def classifierRuns (p : Part) : Bool :=
  match p.lu.line with
  | .awaitAnswer => true
  | .connected | .awaitAck => isTimed p && p.lu.sender.phase == .idle
  | .sending | .idle | .seizing | .searching | .dialling | .clearing => false

/-- A dwell after dialling: busy ends the call, BUSY in AWAIT_ANSWER and FAR_CLEAR afterwards (R122, R126). -/
def progressDwell (figure : Nat) (p : Part) : Part :=
  if classifierRuns p then
    let p := { p with lu.classifier := classify (decide (toneThreshold p ≤ figure)) p.tick p.lu.classifier }
    if 2 ≤ p.lu.classifier.cycles then
      lineOutcome (if p.lu.line = .awaitAnswer then .busy else .farClear) p
    else p
  else p

/-! ## Answer (R122 to R125) -/

/-- The silence that TIMED answer waits for: 6,000 ms since the last on dwell once ringback has been classified, or
20,000 ms since the end of dialling (R124). -/
def timedSilence (p : Part) : Option Timer :=
  if p.lu.line = .awaitAnswer ∧ isTimed p then
    if p.lu.classifier.ringback then p.lu.classifier.lastOn.map fun t => { start := t, limit := 6000 }
    else p.lu.answerLimit.map fun t => { start := t.start, limit := 20000 }
  else none

/-- The call is answered (R125). -/
def answerCall (p : Part) : Part :=
  let p := markS 0 { p with
    lu.line := .connected
    lu.answerLimit := none
    lu.reversalHold := none
    lu.clearHold := none
    lu.classifier := Classifier.empty }
  match p.lu.owner with
  | .customer => takeAnswered p
  | .report => { p with lu.pause := some (newTimer 1000 p) }
  | .probe => p
  | .none => p

/-- The end of the pause after a report call's answer: ANSWERED goes to the CRU (R125). -/
def endPause (p : Part) : Part := reportAnswered { p with lu.pause := none, lu.announced := true }

/-! ## The polarity and current senses (R113, R123, R126, R127) -/

/-- The reversal hold after a change of the sense (R123). -/
def followReversal (p : Part) : Part :=
  if p.lu.line = .awaitAnswer ∧ isTimed p = false then
    if isOpposite p then
      if p.lu.mustReturn then p else { p with lu.reversalHold := some (newTimer 40 p) }
    else { p with lu.reversalHold := none, lu.mustReturn := p.lu.mustReturn && !isAtReference p }
  else p

/-- The clear hold after a change of the sense (R126), for a call answered by reversal. -/
def followClear (p : Part) : Part :=
  if isConnected p.lu.line ∧ isTimed p = false then
    { p with lu.clearHold := if isAtReference p then some (newTimer 200 p) else none }
  else p

/-- Run the loss timer on while current is absent and no break holds the loop open (R127). -/
def resumeLoss (p : Part) : Part :=
  if isWatched p.lu.line && p.pins.loop.isNone && loopClosed p && p.lu.loss.since.isNone then
    { p with lu.loss := { p.lu.loss with since := some p.tick } }
  else p

/-- The loss timer after a change of the current sense. -/
def followLoss (p : Part) : Part :=
  if isWatched p.lu.line then
    if p.pins.loop.isSome then { p with lu.loss := { counted := 0, since := none } }
    else resumeLoss { p with lu.spoiled := true }
  else p

/-- The senses show this now (R113, R114); a reading that is no change has no effect. A loss of current keeps the
polarity that was shown. -/
def senseLoop (sense : Option Polarity) (p : Part) : Part :=
  if p.pins.loop = sense then p
  else
    let p := { p with pins.loop := sense, lu.shown := if sense.isNone then p.pins.loop else p.lu.shown }
    match p.lu.line, sense with
    | .seizing, some s => currentSeen s p
    | _, _ => followClear (followReversal (followLoss p))

/-! ## The sender's steps (R118 to R120, R128) -/

/-- In-call digits: the sender takes the oldest of the queue (R120). -/
def sendInCall (p : Part) : Part :=
  match p.lu.inCall with
  | [] => p
  | d :: rest => startTone d [] { p with lu.inCall := rest }

/-- A sending of in-call digits or of a frame has ended, or the number's last symbol. -/
def endSending (p : Part) : Part :=
  let p := { p with lu.sender := Sender.still }
  match p.lu.line with
  | .dialling => enterAwaitAnswer p
  | .sending =>
    markS 0 { p with lu.line := .awaitAck, lu.classifier := Classifier.empty, lu.ackWait := some (newTimer 4000 p) }
  | .connected =>
    match p.lu.inCall with
    | [] => { p with lu.classifier := Classifier.empty }
    | _ :: _ => sendInCall p
  | .awaitAck | .awaitAnswer | .idle | .seizing | .searching | .clearing => p

/-- The end of a tone: its gap begins. -/
def endTone (p : Part) : Part :=
  { p with lu.sender := { p.lu.sender with phase := .gap, timer := some (newTimer 80 p) } }

/-- The end of a gap: the next symbol, or the end of the sending. -/
def endGap (p : Part) : Part :=
  match p.lu.sender.rest with
  | s :: rest => startTone s rest p
  | [] => endSending p

/-- The loop is made again for a time. -/
def startMake (limit : Nat) (p : Part) : Part :=
  resumeLoss { p with lu.sender := { p.lu.sender with phase := .making, timer := some (newTimer limit p) } }

/-- The end of a break (R119): the make within a digit, the make between two digits, or the end of dialling. -/
def endBreak (p : Part) : Part :=
  if 0 < p.lu.sender.breaks then startMake 40 p
  else match p.lu.sender.rest with
    | _ :: _ => startMake 800 p
    | [] => resumeLoss (enterAwaitAnswer p)

/-- The end of a make (R119): the next break of the digit, or the first break of the next digit. -/
def endMake (p : Part) : Part :=
  let s := p.lu.sender
  if 0 < s.breaks then startBreak s.symbol (s.breaks - 1) s.rest p
  else match s.rest with
    | d :: rest => startBreak d (breaksOf d - 1) rest p
    | [] => p

/-- An in-call digit is handed to the LU (R120). -/
def takeInCall (d : Nat) (p : Part) : Part :=
  if p.lu.line = .connected ∧ p.lu.owner = .customer ∧ p.lu.inCall.length < 16
      ∧ (p.lu.copy.map (·.pulse)) = some false then
    let p := { p with lu.inCall := p.lu.inCall ++ [d] }
    if p.lu.sender.phase = .idle then sendInCall p else p
  else p

/-- The dial word (R136, R140). -/
def takeDialWord (value : Nat) (p : Part) : Part :=
  match p.cc.call with
  | .collecting => collectDigit value p
  | .talking =>
    if value ≤ 15 ∧ (p.lu.settings.map (·.inCall)) = some true then takeInCall value p else p
  | .idle | .rating | .placing | .grace | .ending => p

/-! ## Acknowledgement (R128) -/

/-- The result of a frame: the line returns to CONNECTED and the CRU acts. -/
def handResult (f : Part → Part) (p : Part) : Part :=
  f (markS 0 { p with lu.line := .connected, lu.ackWait := none })

/-- A symbol of the DTMF receiver: A and B in AWAIT_ACK are results, and anything else is ignored. -/
def receiveSymbol (symbol : Nat) (p : Part) : Part :=
  if p.lu.line = .awaitAck then
    if symbol = 12 then handResult frameAccepted p
    else if symbol = 13 then handResult frameNotAccepted p
    else p
  else p

/-! ## The debounced hook (R132, R133) -/

/-- The debounced state changes to ON: the hang-up timer and the hook quiet timer start (R133, R167). -/
def hookDown (p : Part) : Part :=
  probeAsk (markS 0 { p with
    cc.off := false
    cc.hangUp := some (newTimer 400 p)
    cru.hookQuiet := some (newTimer 5000 p)
    cru.quietReached := false })

/-- The debounced state changes to OFF: a flash or a lift, and in either case the end of a REPORT or PROBE call
(R111, R133, R135). -/
def hookUp (p : Part) : Part :=
  let p := markS 0 { p with cc.off := true, cru.hookQuiet := none, cru.quietReached := false }
  let p := if p.cc.hangUp.isSome then takeFlash p else takeLift p
  liftLine p

end Sys2Proof.Machine
end

