-- ==== Sys2Proof/Machine/Coins.lean ====
section
/-!
DEFINITION. Coin validation (R1 to R17): classification, the adaptive nominals, routing, the coin event and counters,
the reject window and the reject map.
-/

namespace Sys2Proof.Machine

/-- A measurement. -/
structure Measurement where
  d : Word
  a : Word
  t : Word
deriving DecidableEq, Repr

/-- The outcomes of classification (R3). -/
inductive Classification where
  | reject (why : Measured)
  | disabled (type value : Nat)
  | valid (type value : Nat)
deriving DecidableEq, Repr

/-! ## Classification (R3) -/

/-- |a − b| -/
def distance (a b : Nat) : Nat := (a - b) + (b - a)

/-- A type matches. -/
def typeMatches (d a : Nat) (s : CoinSlot) : Bool :=
  decide (distance d s.d ≤ s.type.dd) && decide (distance a s.a ≤ s.type.da)

/-- The winner among the matching types: the smallest distance, and of equal distances the lowest number. Answers the
number, counted from `n` for the first slot, with its slot and distance. -/
def winner (d a : Nat) : Nat → List CoinSlot → Option (Nat × CoinSlot × Nat)
  | _, [] => none
  | n, s :: rest =>
    let mine := distance d s.d + distance a s.a
    match winner d a (n + 1) rest with
    | none => if typeMatches d a s then some (n, s, mine) else none
    | some (k, w, m) => if typeMatches d a s && decide (mine ≤ m) then some (n, s, mine) else some (k, w, m)

/-- Classify a measurement against a coin table. -/
def classifyCoin (table : CoinTable) (m : Measurement) : Classification :=
  if m.t.toNat < table.tmin ∨ table.tmax < m.t.toNat then .reject .transit
  else match winner m.d.toNat m.a.toNat 1 table.slots with
    | none => .reject .noMatch
    | some (k, s, _) => if s.type.enabled then .valid k s.type.value else .disabled k s.type.value

/-! ## Adaptive nominals (R4) -/

/-- A nominal moves one sixteenth of the difference, truncated toward zero, and is clamped around the profile nominal
within 0 to 65,535. -/
def moveNominal (measured nominal profile tolerance : Nat) : Nat :=
  let moved : Int := nominal + ((measured : Int) - nominal).tdiv 16
  let low : Int := max 0 ((profile : Int) - tolerance / 2)
  let high : Int := min 65535 ((profile : Int) + tolerance / 2)
  (min high (max low moved)).toNat

/-- Move the nominals of the accepted type. -/
def moveSlot (m : Measurement) (s : CoinSlot) : CoinSlot :=
  { s with d := moveNominal m.d.toNat s.d s.type.dp s.type.dd, a := moveNominal m.a.toNat s.a s.type.ap s.type.da }

/-- Move the nominals of type k in the table. -/
def moveType (k : Nat) (m : Measurement) (t : CoinTable) : CoinTable :=
  { t with slots := t.slots.modify (k - 1) (moveSlot m) }

/-! ## Routing (R5 to R9) -/

/-- Why a valid coin of value v is returned; NONE where every condition of R6 holds. -/
def routeReason (v : Nat) (p : Part) : Reason :=
  if !p.cc.off then .onHook
  else if p.rlu.gate = .fault then .gateFault
  else if !(decide (p.cau.money.vaultCount + p.rlu.rail.length < p.cau.capacity.getD 0)) then .vault
  else if p.cru.restriction ≠ .full then .refused
  else if 8 ≤ p.rlu.rail.length then .railFull
  else if 9999 < p.rlu.banked + railValue p + v then .cap
  else .none

/-- The coin event and the counter of its route (R10, R11). -/
def publishCoin (type value : Nat) (reason : Reason) (m : Measurement) (p : Part) : Part :=
  let toRail := reason == .none
  setCause .coin (markS 4 (markS 3 { p with
    cu.event := { type, value, toRail, reason, d := m.d, a := m.a, t := m.t }
    cu.accepted := addTo p.cu.accepted (flagBit 0 toRail)
    cu.returned := addTo p.cu.returned (flagBit 0 (!toRail)) }))

/-- A coin sent to return: the flap is released, and a routing reason is counted (R5, R9). -/
def returnCoin (reason : Reason) (p : Part) : Part :=
  let p := { p with cu.flap := none }
  match reason.countIndex with
  | some i => bookTypes (fun t => { t with returned := countUp i t.returned }) p
  | none => p

/-- In GRACE a coin that joins the rail sends a retry of the amount owed, or is noted while one is in flight (R103). -/
def retryOnCoin (p : Part) : Part :=
  if p.cc.call = .grace then
    if p.rlu.charge.isSome then { p with cc.noted := true } else sendCharge p.cc.owed p
  else p

/-- A coin routed to the rail (R5, R8). -/
def joinRail (type value : Nat) (m : Measurement) (p : Part) : Part :=
  let p := { p with
    cu.flap := some (newTimer 250 p)
    cu.table := p.cu.table.map (moveType type m) }
  let p := railChange (fun p =>
    bookMoney (fun b => { b with
        accepted := addTo b.accepted value, railTypes := b.railTypes.take b.railCount ++ [type],
        railCount := b.railCount + 1 })
      { p with rlu.rail := p.rlu.rail ++ [{ type, value }] }) p
  retryOnCoin p

/-! ## The reject window and the reject map (R12 to R15) -/

/-- An entry joins the window, which keeps the newest sixteen. -/
def joinWindow (e : Measured) (w : List Measured) : List Measured :=
  let all := w ++ [e]
  all.drop (all.length - 16)

def transitCount (w : List Measured) : Nat := w.count .transit
def noMatchCount (w : List Measured) : Nat := w.count .noMatch

/-- The reject count against its two limits (R13). -/
def judgeBurst (p : Part) : Part :=
  let n := transitCount p.cu.window + noMatchCount p.cu.window
  if 12 ≤ n ∧ !isActive .rejectBurst p then
    raise .rejectBurst (transitCount p.cu.window * 100 + noMatchCount p.cu.window) p
  else if n ≤ 4 then clear .rejectBurst p
  else p

/-- The window takes an outcome (R12, R13). -/
def takeOutcome (e : Measured) (p : Part) : Part :=
  judgeBurst { p with cu.window := joinWindow e p.cu.window }

/-- The cell of a measurement (R14). -/
def cellIndex (m : Measurement) : Nat := m.d.toNat / 4096 * 16 + m.a.toNat / 4096

def cellValue (i : Nat) (p : Part) : Nat := (readWord p.cu.rejects i).toNat

/-- The cluster threshold in force. -/
def clusterLimit (p : Part) : Nat := match p.cu.table with
  | some t => t.cluster
  | none => 24

/-- A reject is added to a live cell, and SLUG_CLUSTER is raised as the cell reaches the threshold (R14, R15). -/
def addReject (i : Nat) (p : Part) : Part :=
  let n := cellValue i p
  let q := { p with cu.rejects := writeWord p.cu.rejects i (word (satAdd 65535 n)) }
  if n < clusterLimit p ∧ clusterLimit p ≤ n + 1 then raise .slugCluster (i / 16 * 100 + i % 16) q else q

/-- The port is writing the map-dump cell of this index. -/
def cellInWrite (i : Nat) (p : Part) : Bool :=
  match p.bpu.port with
  | some (.write (.cell j) _ _ _) => i == j
  | _ => false

/-- A reject reaches its cell; one binned to the cell that a clearing dump is writing is added after the zeroing
(R16). -/
def binReject (i : Nat) (p : Part) : Part :=
  match p.cu.dump with
  | some { clear := true, held } =>
    if cellInWrite i p then { p with cu.dump := some { clear := true, held := held + 1 } } else addReject i p
  | _ => addReject i p

/-- The rejects that were held are added, one after the other. -/
def addHeld : Nat → Nat → Part → Part
  | 0, _, p => p
  | n + 1, i, p => addHeld n i (addReject i p)

/-! ## A measurement (R1) -/

/-- The CU is ready: the profile load and the start-up dump have ended. -/
def coinReady (p : Part) : Bool := p.bpu.load != some .start && p.rlu.dump == .ended

/-- The whole treatment of a classified coin. A reject enters the window and then the map, in the order in which R1 names
them, so that REJECT_BURST is raised before SLUG_CLUSTER where one reject causes both: the model's choice, since no
rule orders the two raises (log entry 42). -/
def routeCoin (c : Classification) (m : Measurement) (p : Part) : Part :=
  match c with
  | .reject why =>
    let reason := if why = .transit then Reason.transit else Reason.noMatch
    binReject (cellIndex m) (takeOutcome why (publishCoin 0 0 reason m (returnCoin reason p)))
  | .disabled k v => takeOutcome .notRejected (publishCoin k v .disabled m (returnCoin .disabled p))
  | .valid k v =>
    let reason := routeReason v p
    let q := if reason = .none then joinRail k v m p else returnCoin reason p
    takeOutcome .notRejected (publishCoin k v reason m q)

/-- A measurement arrives. Before the CU is ready, and with no coin table in force, it is not classified. -/
def takeMeasurement (m : Measurement) (p : Part) : Part :=
  match p.cu.table with
  | some t =>
    if coinReady p then gateWork (routeCoin (classifyCoin t m) m p)
    else takeOutcome .notRejected (publishCoin 0 0 .refused m { p with cu.flap := none })
  | none => takeOutcome .notRejected (publishCoin 0 0 .refused m { p with cu.flap := none })

end Sys2Proof.Machine
end

