-- ==== Sys2Proof/Machine/Layout.lean ====
section
/-!
DEFINITION. The words of every group the part writes (spec/12_record_and_frame_layouts.md), taken from the owners'
state: the result word, S0 to S7, the report-ring and call-ring slots, the map-dump cells and the account slots.
-/

namespace Sys2Proof.Machine

/-- The result word: the code and the command number (R176). -/
def resultWord (p : Part) : Word := word (p.bpu.result.code + 256 * p.bpu.number.toNat)

/-- S0: the change word, the ready bit, restriction, service mode, profile-changed, hook; call, line and owner. -/
def wordsS0 (p : Part) : List Word :=
  [p.bpu.causes.setWidth 16,
   word (flagBit 0 (coinReady p) + 2 * p.cru.restriction.level + flagBit 3 (serviceMode p)
     + flagBit 4 p.bpu.profileChanged + flagBit 5 p.cc.off),
   word (p.cc.call.code + 16 * p.lu.line.code + 256 * p.lu.owner.code), 0]

/-- S1: banked, rail value, credit on hand; rail count, gate state and low credit; rail types. -/
def wordsS1 (p : Part) : List Word :=
  [word p.rlu.banked, word (railValue p), word (creditOnHand p),
   word (p.rlu.rail.length + 16 * p.rlu.gate.code + flagBit 6 p.cc.low)] ++ packDigits 2 (p.rlu.rail.map (·.type))

/-- The published band: the current step's, or the band in force while the timing is IDLE (R107). -/
def publishedBand (p : Part) : Nat := if isCharging p then p.rtu.timing.band else p.rtu.band

/-- Steps affordable: 0 while no charge step is in force (R107). -/
def stepsAffordable (p : Part) : Nat := if chargeStep p = 0 then 0 else creditOnHand p / chargeStep p

/-- The end tick, absent unless RUNNING. -/
def endTickWords (t : Timing) : List Word :=
  if t.state = .running then totalWords t.finish else [0xFFFF, 0xFFFF]

/-- S2: class, timing state and band; digits; the step figures. -/
def wordsS2 (p : Part) : List Word :=
  [word (p.cc.cls.code + 16 * p.rtu.timing.state.code + 256 * publishedBand p),
   word (p.cc.digits.length + 256 * p.cc.ignored)] ++ packDigits 5 p.cc.digits ++ totalWords p.rtu.timing.index
    ++ endTickWords p.rtu.timing ++ [word (stepsAffordable p)] ++ totalWords (BitVec.ofNat 32 p.cc.charged)

/-- S3: the coin event (R10). -/
def wordsS3 (p : Part) : List Word :=
  let e := p.cu.event
  [word (e.type + flagBit 4 e.toRail + 256 * e.reason.code), word e.value, e.d, e.a, e.t]

/-- S4: the counters of the coin path, the BPU, the CC, the CAU and the CRU. -/
def wordsS4 (p : Part) : List Word :=
  totalWords p.cu.accepted ++ totalWords p.cu.returned
    ++ [word p.bpu.refused, word p.cc.lost, word p.cru.dropped] ++ fit 5 (p.cau.mismatches.map word)
    ++ [word (setBits p.cau.faulted), word (p.cc.producer + 256 * p.cc.consumer), word p.cc.heldCount,
        word (p.cru.failures + flagBit 8 p.cru.backoff.isSome)]

/-- S5: the capture record (R64). -/
def wordsS5 (p : Part) : List Word :=
  let c := p.bpu.capture
  let kind := match c.kind with
    | some k => k.code
    | none => 0
  [word (flagBit 0 c.locked + flagBit 1 c.empty + 256 * kind)] ++ totalWords (c.address.setWidth 32)
    ++ [c.data] ++ totalWords c.tick ++ [word c.further]

/-- S6: the tick and the wall time (R92). -/
def wordsS6 (p : Part) : List Word := totalWords p.tick ++ wallWords p.rtu.clock

/-- The active set, bit n − 1 for code n. -/
def activeBits : Nat → List ConditionRow → Nat
  | _, [] => 0
  | i, r :: rs => flagBit i r.active + activeBits (i + 1) rs

/-- S7: the active set; each kind's occurrence count and detail; each kind's last raise (R148). -/
def wordsS7 (p : Part) : List Word :=
  [word (activeBits 0 p.cru.rows)] ++ p.cru.rows.flatMap (fun r => [word r.count, word r.detail])
    ++ p.cru.rows.flatMap (fun r => optionalWall r.last)

/-- The words of status group S0 to S7. -/
def statusWords (k : Nat) (p : Part) : List Word :=
  match k with
  | 0 => wordsS0 p
  | 1 => wordsS1 p
  | 2 => wordsS2 p
  | 3 => wordsS3 p
  | 4 => wordsS4 p
  | 5 => wordsS5 p
  | 6 => wordsS6 p
  | _ => wordsS7 p

/-- The window offset of status group S0 to S7. -/
def statusOffset (k : Nat) : Nat := [0, 4, 10, 24, 29, 45, 52, 56].getD k 0

/-- The words of a report record. -/
def reportWords (r : ReportRecord) : List Word :=
  [word (r.kind.code + flagBit 8 r.kind.urgent + flagBit 9 r.sending + flagBit 10 r.updated)]
    ++ totalWords r.sequence ++ [word r.count] ++ wallWords r.first ++ wallWords r.last
    ++ [word r.detail, word r.attempts, optionalWord r.sent] ++ optionalWall r.firstMerge

/-- A report-ring slot: its record, or 16 words of 0 where it holds none (R189). -/
def reportSlotWords (slot : Nat) (p : Part) : List Word :=
  match p.cru.queue.find? fun r => r.slot == slot with
  | some r => fit 16 (reportWords r)
  | none => List.replicate 16 0

/-- The words of a CALL record (R144). -/
def callRecordWords (r : CallRecord) : List Word :=
  [word (1 + 16 * r.outcome.code + 256 * r.cls.code + flagBit 11 r.answered.isSome), word r.index,
   word r.digits.length] ++ packDigits 5 r.digits ++ wallWords r.startTime
    ++ [optionalWord (r.answered.map (·.1)), optionalWord (r.answered.map (·.2))]
    ++ totalWords (BitVec.ofNat 32 r.steps) ++ totalWords (BitVec.ofNat 32 r.charged)
    ++ [word r.collected, word r.toRefund]

/-- The words of a ring record before the padding with zeros. -/
def ringRecordWords : RingRecord → List Word
  | .call r => callRecordWords r
  | .collection c => [2, 0] ++ totalWords c.value ++ [word c.count, 0, 0, 0] ++ wallWords c.time
  | .start kind time => [word (3 + flagBit 4 (kind == .line)), 0, 0, 0, 0, 0, 0, 0] ++ wallWords time

/-- A call-ring slot: the record appended to it (R145). -/
def callSlotWords (slot : Nat) (p : Part) : List Word :=
  match p.cc.records.find? fun e => e.1 == slot with
  | some e => fit 24 (ringRecordWords e.2)
  | none => List.replicate 24 0

/-- The logical record that a physical account slot holds. -/
def recordIn (slot : Nat) (p : Part) : Option Nat :=
  if slot = 0 then some 0 else ([1, 2, 3, 4] : List Nat).find? fun n => slotOf n p == slot

/-- The window and the offset of a group. -/
def groupPlace (g : Group) : WindowKind × Nat :=
  match g with
  | .account i => (.account, 24 * i)
  | .result => (.mailbox, 5)
  | .status k => (.status, statusOffset k)
  | .report i => (.reportRing, 16 * i)
  | .call i => (.callRing, 24 * i)
  | .cell i => (.mapDump, i)

/-- The words of a group as its owners hold them now. A dirty account slot always holds a record. -/
def groupWords (g : Group) (p : Part) : List Word :=
  match g with
  | .account i => match recordIn i p with
    | some n => recordWords n p
    | none => []
  | .result => [resultWord p]
  | .status k => statusWords k p
  | .report i => reportSlotWords i p
  | .call i => callSlotWords i p
  | .cell i => [readWord p.cu.rejects i]

/-- The logical record that a group write carries, for an account slot. -/
def groupRecord (g : Group) (p : Part) : Option Nat :=
  match g with
  | .account i => recordIn i p
  | .result => none
  | .status _ => none
  | .report _ => none
  | .call _ => none
  | .cell _ => none

end Sys2Proof.Machine
end

