-- ==== Sys2Proof/Machine/CashAccount.lean ====
section
/-!
DEFINITION. The events of the gate's sensors with the start-up dump (R22 to R26, R36 to R38), and the cash account at
work (R45 to R55): the start load, the scrubber, relocation, the clearing of an account fault, and vault clearance.
-/

namespace Sys2Proof.Machine

/-! ## The start-up dump (R36 to R38) -/

/-- The value of a type in the coin table in force; a type with no entry, or no table, counts as 0. -/
def typeValue (k : Nat) (p : Part) : Nat :=
  match p.cu.table with
  | some t => if k = 0 then 0 else ((t.slots[k - 1]?).map (·.type.value)).getD 0
  | none => 0

/-- Value a listing: each entry but the last takes its type's value or what remains if that is less, and the last
takes what remains. -/
def valueListing (p : Part) : Nat → List Nat → List Coin
  | _, [] => []
  | left, [k] => [{ type := k, value := left }]
  | left, k :: k' :: ks =>
    let v := min (typeValue k p) left
    { type := k, value := v } :: valueListing p (left - v) (k' :: ks)

/-- The recorded rail value (R36). -/
def recordedRailValue (m : Money) : Nat := (m.accepted - m.refunded - m.collected - m.suspense).toNat

/-- The listed types: a recorded rail count above 8 is taken as 8. -/
def listedTypes (m : Money) : List Nat := (m.railTypes ++ List.replicate 8 0).take (min 8 m.railCount)

/-- The rail that the listing makes. The listing carries at most 9,999 units (R36). -/
def listedRail (p : Part) : List Coin :=
  valueListing p (min 9999 (recordedRailValue p.cau.money)) (listedTypes p.cau.money)

/-- The recorded rail value that no entry can carry. -/
def uncarried (p : Part) : Nat := recordedRailValue p.cau.money - sumValues (listedRail p)

/-- MONEY as the dump begins: the recorded banked credit is forfeited, the uncarried value goes to suspense, and the
listing is as valued. -/
def moneyAtDump (p : Part) (m : Money) : Money :=
  { m with
    forfeited := addTo m.forfeited m.banked, banked := 0, suspense := addTo m.suspense (uncarried p),
    railCount := (listedTypes m).length, railTypes := listedTypes m }

/-- The end of the dump (R38): the part is ready, and other gate work may begin. -/
def endDump (p : Part) : Part := gateWork (markS 0 (railChange (fun p => { p with rlu.dump := .ended }) p))

/-- The head-occupied sensor shows no coin: the entries that remain go to suspense. -/
def dumpHeadEmpty (p : Part) : Part :=
  match p.rlu.rail with
  | [] => endDump p
  | c :: _ =>
    endDump (raise .coinJam (30 + c.type) (railChange (fun p =>
      bookMoney (fun m => { m with suspense := addTo m.suspense (railValue p), railTypes := [], railCount := 0 })
        { p with rlu.rail := [] }) p))

/-- The dump at HOLD reads the head-occupied sensor (R37). -/
def dumpTurn (headOccupied : Bool) (p : Part) : Part :=
  let p := { p with pins.headOccupied := headOccupied }
  match p.rlu.dump with
  | .running unbooked =>
    if headOccupied then
      if 8 ≤ unbooked then
        endDump (raise .coinJam 50 (railChange (fun p => { p with rlu.gate := .fault }) p))
      else beginCycle .refunding p
    else dumpHeadEmpty p
  | .waiting => p
  | .ended => p

/-- The dump begins (R36). -/
def beginDump (headOccupied : Bool) (p : Part) : Part :=
  let left := uncarried p
  let q := railChange (fun p => { bookMoney (moneyAtDump p) p with
    rlu.rail := listedRail p, rlu.banked := 0, rlu.dump := .running 0 }) p
  dumpTurn headOccupied (if 0 < left then raise .coinJam 40 q else q)

/-- A coin beyond the listing (R37). -/
def countUnbooked (n : Nat) (p : Part) : Part :=
  bookMoney (fun m => { m with unbooked := satAdd 65535 m.unbooked }) { p with rlu.dump := .running (n + 1) }

/-! ## The sensors and the confirm limit (R21 to R24) -/

/-- The refund owes one entry fewer (R33, R34). -/
def oweFewer (p : Part) : Part := { p with rlu.refund := p.rlu.refund.map (· - 1) }

/-- The vault confirm sensor has been interrupted anew: its hold begins, for as long as it stays so (R26). Whether a
coin passes it or stays in it is left free (log entry 9). -/
def vaultInterrupted (p : Part) : Part :=
  let stays := Config.vaultStays p.tick.toNat
  { p with pins.vaultBlocked := stays, samplers.vaultBlocked := Sampler.begin stays }

/-- The return confirm sensor has been interrupted anew. -/
def returnInterrupted (p : Part) : Part :=
  let stays := Config.returnStays p.tick.toNat
  { p with pins.returnBlocked := stays, samplers.returnBlocked := Sampler.begin stays }

/-- The hold of a sensor that has read interrupted for so many milliseconds; of a clear one. -/
def holdOf : Option Nat → Sampler
  | some held => { last := true, held := min 2000 held }
  | none => Sampler.begin false

/-- What the two confirm sensors show now. -/
def senseChutes (shown : ChuteReadings) (p : Part) : Part :=
  { p with
    pins.vaultBlocked := shown.vault.isSome
    pins.returnBlocked := shown.ret.isSome
    samplers.vaultBlocked := holdOf shown.vault
    samplers.returnBlocked := holdOf shown.ret }

/-- A sensor reads interrupted and has done so for 1 s or more. -/
def blockedLong (reading : Bool) (s : Sampler) : Bool := reading && s.last && decide (1000 ≤ s.held)

/-- A coin or an object is lodged in a chute (R26). -/
def chuteLodged (p : Part) : Bool :=
  blockedLong p.pins.vaultBlocked p.samplers.vaultBlocked || blockedLong p.pins.returnBlocked p.samplers.returnBlocked

/-- A collect cycle completes on its confirm (R22). -/
def collectDone (p : Part) : Part :=
  match p.rlu.rail with
  | [] => gateWork (railChange (endCycle .hold) p)
  | c :: _ =>
    let p := railChange (fun p => bookCollect c (endCycle .hold p)) p
    let p := { p with cc.placed := p.cc.placed.map fun x => { x with collected := x.collected + 1 } }
    gateWork (judgeVault p)

/-- The vault confirm sensor is interrupted: it matches in VAULTING and is ignored otherwise. -/
def vaultSensor (p : Part) : Part := if p.rlu.gate = .vaulting then collectDone p else p

/-- A refund cycle completes on its confirm (R23, R33, R37). -/
def refundDone (headOccupied : Bool) (p : Part) : Part :=
  match p.rlu.dump with
  | .running n =>
    dumpTurn headOccupied (railChange (fun p =>
      match p.rlu.rail with
      | c :: _ => bookRefund c (endCycle .hold p)
      | [] => countUnbooked n (endCycle .hold p)) p)
  | .waiting | .ended =>
    gateWork (railChange (fun p =>
      let p := oweFewer p
      match p.rlu.rail with
      | c :: _ => bookRefund c (endCycle .hold p)
      | [] => endCycle .hold p) p)

/-- The return confirm sensor is interrupted: it matches in REFUNDING and is ignored otherwise. -/
def returnSensor (headOccupied : Bool) (p : Part) : Part :=
  if p.rlu.gate = .refunding then refundDone headOccupied p else p

/-- The head coin is lost: its value goes to suspense and the gate to FAULT. -/
def loseHead (p : Part) : Part :=
  match p.rlu.rail with
  | c :: _ => bookSuspense c (endCycle .fault p)
  | [] => endCycle .fault p

/-- The type of the coin at the head, 0 with no entry. -/
def headType (p : Part) : Nat := match p.rlu.rail with
  | c :: _ => c.type
  | [] => 0

/-- The confirm limit of a cycle expires (R24, R29, R34, R38). -/
def confirmMissing (p : Part) : Part :=
  match p.rlu.gate with
  | .vaulting => gateWork (raise .coinJam (10 + headType p) (railChange loseHead p))
  | .refunding =>
    match p.rlu.dump with
    | .running _ =>
      let q := raise .coinJam (20 + headType p) (railChange loseHead p)
      endDump { q with rlu.refund := if q.rlu.rail = [] then none else some q.rlu.rail.length }
    | .waiting | .ended =>
      gateWork (raise .coinJam (20 + headType p) (railChange (fun p => loseHead (oweFewer p)) p))
  | .hold => p
  | .fault => p

/-! ## CLEAR_CONDITION COIN_JAM (R26) -/

/-- The jam is cleared: from FAULT the gate returns to HOLD and stopped work resumes. The result is DONE as soon as
the gate state is HOLD; a cycle in progress is waited for (log entry 15). -/
def clearJam (p : Part) : Part :=
  let p := clear .coinJam p
  match p.rlu.gate with
  | .fault => gateWork (complete .done (railChange (fun p => { p with rlu.gate := .hold }) p))
  | .hold => complete .done p
  | .vaulting | .refunding => { p with rlu.clearWaits := true }

/-! ## The start load (R45 to R47) -/

/-- The account start load begins with slot 0. -/
def beginAccountLoad (p : Part) : Part := requestRead (.startLoad 0 0) { p with cau.load := .reading 0 }

/-- The shadow of a record that fails its load: the default header, or all zero (R45, R46; log entry 41). -/
def blankRecord (n : Nat) (p : Part) : Part :=
  match n with
  | 0 => { p with cau.header := Header.default }
  | 1 => { p with cau.money := Money.zero }
  | 2 => { p with cau.types := TypeCounts.zero }
  | 3 => { p with cau.calls := CallCounts.zero }
  | _ => { p with cau.last := { latest := Collection.unset, previous := Collection.unset } }

/-- A record fails its load (R45, R46): it joins the faulted set and ACCOUNT_FAULT is raised. -/
def faultRecord (n : Nat) (p : Part) : Part :=
  raise .accountFault n (markS 4 { blankRecord n p with cau.faulted := p.cau.faulted ++ [n] })

/-- Take a record's words into the shadow. -/
def takeRecord (n : Nat) (words : List Word) (p : Part) : Part :=
  match n with
  | 0 => { p with cau.header := headerOf words }
  | 1 => { p with cau.money := moneyOf words }
  | 2 => { p with cau.types := typesOf words }
  | 3 => { p with cau.calls := callsOf words }
  | _ => { p with cau.last := lastOf words }

/-- The slot's words make a good record: it checks, and a header keeps R40. -/
def recordGood (n : Nat) (words : List Word) : Bool :=
  slotChecks n words && (n != 0 || headerFits (headerOf words))

/-- The count events that came before CALL COUNTS was loaded are applied in order (R47). -/
def applyEarly (p : Part) : Part := p.cau.early.foldl (fun p e => countEvent e p) { p with cau.early := [] }

/-- The end of the start load (R47). -/
def endAccountLoad (headOccupied : Bool) (p : Part) : Part :=
  let p := takeCapacity (markS 4 { p with
    cau.load := .ended
    cau.strikes := List.replicate 9 none
    cau.mismatches := List.replicate 5 0
    cau.position := 1
    cau.pass := 0
    cau.scrub := some (newTimer 500 p) })
  beginDump headOccupied p

/-- A slot read of the start load completes (R45 to R47). -/
def loadSlot (n : Nat) (words : List Word) (headOccupied : Bool) (p : Part) : Part :=
  if p.cau.load = .reading n then
    let p := if recordGood n words then takeRecord n words p else faultRecord n p
    let p := { p with cau.load := .reading (n + 1) }
    let p := if n = 3 then applyEarly p else p
    if n < 4 then requestRead (.startLoad (n + 1) (slotOf (n + 1) p)) p else endAccountLoad headOccupied p
  else p

/-! ## The scrubber (R48 to R51) -/

/-- The port is writing an account slot. -/
def slotInWrite (slot : Nat) (p : Part) : Bool :=
  match p.bpu.port with
  | some (.write (.account j) _ _ _) => slot == j
  | _ => false

/-- The end of every turn: the position advances and the scrub timer restarts. -/
def endTurn (p : Part) : Part :=
  { p with
    cau.turn := none
    cau.pass := if p.cau.position = 0 then p.cau.pass + 1 else p.cau.pass
    cau.position := (p.cau.position + 1) % 5
    cau.scrub := some (newTimer 500 p) }

/-- The turn is skipped. -/
def turnSkipped (n : Nat) (p : Part) : Bool :=
  p.cau.faulted.contains n || p.bpu.dirty.contains (.account (slotOf n p)) || slotInWrite (slotOf n p) p
    || (n == 0 && p.cau.relocations != [])

/-- A turn of the scrubber (R48). -/
def scrubTurn (p : Part) : Part :=
  let n := p.cau.position
  if turnSkipped n p then endTurn p
  else requestRead (.scrub n (slotOf n p)) { p with
    cau.scrub := none, cau.turn := some { record := n, slot := slotOf n p, touched := false } }

/-- A relocation (R50). The retired slot's dirty mark is withdrawn: its contents are left as they were (log
entry 17). -/
def relocate (n slot spare : Nat) (p : Part) : Part :=
  markSlot spare { p with
    cau.header := { slots := p.cau.header.slots.set (n - 1) spare, retired := p.cau.header.retired ++ [slot],
                    spares := p.cau.header.spares - 1 }
    cau.relocations := p.cau.relocations ++ [{ record := n, oldSlot := slot, newSlot := spare }]
    bpu.dirty := p.bpu.dirty.filter (· != .account slot) }

/-- A hard slot is relocated, or raises ACCOUNT_FAULT (R50, R51). -/
def hardSlot (n slot : Nat) (p : Part) : Part :=
  match freeSpares p.cau.header with
  | spare :: _ =>
    if n = 0 ∨ p.cau.faulted.contains 0 then raise .accountFault (n + 16) p else relocate n slot spare p
  | [] => raise .accountFault (n + 16) p

/-- A strike on a physical slot: it makes the slot hard when the last one is eight passes back or less (R49). -/
def strikeSlot (n slot : Nat) (p : Part) : Part :=
  match p.cau.strikes.getD slot none with
  | none => { p with cau.strikes := p.cau.strikes.set slot (some p.cau.pass) }
  | some s =>
    if 8 < p.cau.pass - s then { p with cau.strikes := p.cau.strikes.set slot (some p.cau.pass) }
    else hardSlot n slot { p with cau.strikes := p.cau.strikes.set slot none }

/-- A mismatch (R49). -/
def scrubMismatch (n slot : Nat) (p : Part) : Part :=
  strikeSlot n slot (markS 4 (markSlot slot { p with cau.mismatches := countUp n p.cau.mismatches }))

/-- The scrubber's read completes (R48): the words are compared unless the slot was marked or written meanwhile. -/
def scrubRead (n slot : Nat) (words : List Word) (p : Part) : Part :=
  match p.cau.turn with
  | some t =>
    if t.touched || words == recordWords n p then endTurn p else endTurn (scrubMismatch n slot p)
  | none => p

/-! ## Account slot writes (R44, R50, R52, R55) -/

/-- The relocations to a slot complete, and the header is marked dirty. -/
def relocationsWritten (slot : Nat) (p : Part) : Part :=
  if p.cau.relocations.any (fun r => r.newSlot == slot) then
    markRecord 0 { p with cau.relocations := p.cau.relocations.filter fun r => r.newSlot != slot }
  else p

/-- A CLEAR_CONDITION ACCOUNT_FAULT completes when every slot it marked has been written. -/
def clearingWritten (n : Nat) (p : Part) : Part :=
  if p.cau.clearing.contains n then
    let left := p.cau.clearing.filter (· != n)
    let q := { p with cau.clearing := left }
    if left = [] then completeIf 7 .done q else q
  else p

/-- A VAULT_CLEARED completes when MONEY and LAST COLLECTION have been written. -/
def clearanceWritten (n : Nat) (p : Part) : Part :=
  match p.cau.clearance with
  | none => p
  | some c =>
    let c : Clearance := { moneyWritten := c.moneyWritten || n == 1, lastWritten := c.lastWritten || n == 4 }
    if c.moneyWritten && c.lastWritten then completeIf 6 .done { p with cau.clearance := none }
    else { p with cau.clearance := some c }

/-- The write of an account slot completes. -/
def slotWritten (slot : Nat) (record : Option Nat) (p : Part) : Part :=
  let p := relocationsWritten slot (touchSlot slot p)
  match record with
  | some n => clearanceWritten n (clearingWritten n p)
  | none => p

/-! ## CLEAR_CONDITION ACCOUNT_FAULT (R52) -/

/-- The faulted set is emptied, its slots are marked, and the condition is cleared. -/
def clearAccountFault (p : Part) : Part :=
  let records := p.cau.faulted
  let p := markS 4 { p with cau.faulted := [], cau.clearing := records }
  let p := clear .accountFault (records.foldl (fun p n => markRecord n p) p)
  if records = [] then complete .done p else p

/-! ## Vault clearance (R54, R55) -/

/-- The clearance as it is recorded: the wall time now, with the vault value and count (R55). -/
def clearanceNow (p : Part) : Collection :=
  { time := p.rtu.clock, value := p.cau.money.vaultValue, count := p.cau.money.vaultCount }

/-- LAST COLLECTION takes a clearance, and the one before it moves down. -/
def shiftCollections (latest : Collection) (p : Part) : Part :=
  markRecord 4 { p with cau.last := { latest, previous := p.cau.last.latest } }

/-- The vault figures become 0. -/
def zeroVault (p : Part) : Part :=
  bookTypes (fun t => { t with vault := List.replicate 8 0 })
    (bookMoney (fun m => { m with vaultValue := 0, vaultCount := 0 }) p)

/-- The capacity in force becomes the VC figure, the door mark is emptied, and the two slot writes are awaited. -/
def awaitClearance (p : Part) : Part :=
  { p with
    cau.capacity := p.cau.vc
    cau.clearance := some { moneyWritten := false, lastWritten := false }
    cru.doorMark := false }

/-- The clearance acts in one step on the shadow (R55). -/
def clearVault (p : Part) : Part :=
  awaitClearance (clear .vaultFull (clear .vaultNearFull (zeroVault
    (appendRecord (.collection (clearanceNow p)) (shiftCollections (clearanceNow p) p)))))

/-- VAULT_CLEARED is checked in the order of R54. -/
def vaultClearedCommand (p : Part) : Part :=
  if !serviceMode p then complete .notService p
  else if p.cau.load ≠ .ended then complete .notAllowed p
  else if !p.cru.doorMark then complete .notAllowed p
  else if p.cau.faulted.contains 1 || p.cau.faulted.contains 4 then complete .notAllowed p
  else clearVault p

end Sys2Proof.Machine
end

