-- ==== Sys2Proof/Machine/Switches.lean ====
section
/-!
DEFINITION. The CRU's sensors (R151 to R154) and service mode (R157): what a debounced door, a debounced key, a
settling, the cord loop and a shock pulse do.
-/

namespace Sys2Proof.Machine

/-! ## Door and key (R151, R152, R157) -/

/-- A beginning or an end of service mode: the restriction is derived again, S0 is marked and SERVICE is set. -/
def serviceChanges (p : Part) : Part := setCause .service (markS 0 (deriveRestriction p))

/-- The key changes to ON, or settles ON: service mode begins. -/
def beginService (p : Part) : Part := serviceChanges { p with cru.key := some true }

/-- The key changes to OFF: the door mark is emptied, and an OPEN door raises VAULT_FORCED with detail 2. -/
def endService (p : Part) : Part :=
  let p := serviceChanges { p with cru.key := some false, cru.doorMark := false }
  if p.cru.door = some true then raise .vaultForced 2 p else p

/-- The settled door changes. Opened in service mode it sets the door mark; outside it, it raises VAULT_FORCED with
detail 1. A door that has not settled, or stands so already, does not change. -/
def doorChanges (opened : Bool) (p : Part) : Part :=
  if p.cru.door = some (!opened) then
    let p := { p with cru.door := some opened }
    if opened then (if serviceMode p then { p with cru.doorMark := true } else raise .vaultForced 1 p) else p
  else p

/-- The settled key changes. -/
def keyChanges (on : Bool) (p : Part) : Part :=
  if p.cru.key = some (!on) then (if on then beginService p else endService p) else p

/-- The later of the two debouncers has settled: with the door settled OPEN and the key settled OFF, VAULT_FORCED is
raised with detail 3, whatever either has changed to since (R152; log entry 37). -/
def judgeSettled (p : Part) : Part :=
  if p.cru.doorSettled = some true ∧ p.cru.keySettled = some false then raise .vaultForced 3 p else p

/-- An unsettled debouncer takes its first state, which is no change (R151). -/
def settleSwitch (which : Switch) (active : Bool) (p : Part) : Part :=
  match which with
  | .door =>
    if p.cru.door.isNone then judgeSettled { p with cru.door := some active, cru.doorSettled := some active } else p
  | .key =>
    if p.cru.key.isNone then
      let q := { p with cru.keySettled := some active }
      judgeSettled (if active then beginService q else { q with cru.key := some false })
    else p

/-! ## Cord and shock (R153, R154) -/

/-- The cord loop has read open, or closed, for 2 s. -/
def cordChanges (opened : Bool) (p : Part) : Part :=
  if opened then
    if isActive .handsetCut p then p else raise .handsetCut (flagBit 0 p.cc.off) p
  else clear .handsetCut p

/-- The pulse list is judged: SHOCK at five or more. -/
def judgePulses (p : Part) : Part :=
  if 5 ≤ p.cru.pulses.length then raise .shock p.cru.pulses.length p else p

/-- The shock quiet timer starts again while SHOCK is active. -/
def restartQuiet (p : Part) : Part :=
  if isActive .shock p then { p with cru.shockQuiet := some (newTimer 600000 p) } else p

/-- A pulse: the list, SHOCK at five or more, and the quiet timer while it is active. -/
def takePulse (p : Part) : Part :=
  restartQuiet (judgePulses { p with cru.pulses := appendTick 60000 p p.cru.pulses })

end Sys2Proof.Machine
end

