-- ==== Sys2Proof/Machine/Mailbox.lean ====
section
/-!
DEFINITION. The mailbox service (R175 to R187): the taking of a command, the three stages of its judgement, and the
operations whose owners have no more to do than this.
-/

namespace Sys2Proof.Machine

/-- SET_TIME (R93, R180): the second of day is one 32-bit figure. -/
def setTimeCommand (p : Part) : Part :=
  let day := p.bpu.arg1.toNat
  let second := p.bpu.arg2.toNat + 65536 * p.bpu.arg3.toNat
  if 6 < day ∨ 86399 < second then complete .range p
  else complete .done (gateWork (judgeBand (markS 6 { p with
    rtu.clock := some (day, second), rtu.second := p.tick })))

/-- SET_ATTENTION (R187). -/
def setAttentionCommand (p : Part) : Part :=
  if 512 ≤ p.bpu.arg1.toNat then complete .range p else complete .done (setEnable p.bpu.arg1 p)

/-- MAP_DUMP (R16, R181). -/
def mapDumpCommand (p : Part) : Part :=
  if 1 < p.bpu.arg1.toNat then complete .range p
  else markCells { p with cu.dump := some { clear := p.bpu.arg1 == 1, held := 0 } }

/-- A service-cleared condition in service mode (R158, R183). -/
def clearServiced (k : Condition) (p : Part) : Part :=
  match k with
  | .vaultForced =>
    if p.cru.door = some false then complete .done (clear .vaultForced p) else complete .causePresent p
  | .coinJam => if chuteLodged p then complete .causePresent p else clearJam p
  | .accountTamper => complete .done (clear .accountTamper p)
  | .accountFault => if p.cau.load = .ended then clearAccountFault p else complete .notAllowed p
  | .vaultNearFull | .vaultFull | .slugCluster | .rejectBurst | .handsetCut | .shock | .hookAbuse | .lineDown
  | .tariffBad | .profileBad => p

/-- CLEAR_CONDITION (R158, R183). -/
def clearConditionCommand (p : Part) : Part :=
  match conditionOf p.bpu.arg1.toNat with
  | none => complete .range p
  | some k =>
    if k.serviceCleared then
      if serviceMode p then clearServiced k p else complete .notService p
    else if isActive k p then complete .causePresent p
    else complete .done p

/-- A customer call exists (R184). -/
def callExists (p : Part) : Bool := p.cc.call != .idle && p.cc.call != .collecting

/-- RELOAD_PROFILE (R73, R184). -/
def reloadCommand (p : Part) : Part :=
  if !serviceMode p then complete .notService p
  else if callExists p then complete .notAllowed p
  else if 0 < p.rlu.rail.length ∨ p.rlu.dump ≠ .ended then complete .notAllowed p
  else requestRead (.profile 0) (markS 0 { p with
    bpu.profileChanged := false, bpu.load := some .reload, bpu.profileWords := [] })

/-- REPORT_NOW (R174, R185). -/
def reportNowCommand (p : Part) : Part := reportAsk (complete .done (cancelBackoff p))

/-- TEST_REPORT (R166, R185). -/
def testReportCommand (p : Part) : Part :=
  if p.cru.queue.any fun r => r.kind == .test then complete .kindQueued p
  else if 8 ≤ p.cru.queue.length then complete .notAllowed p
  else complete .done (newRecord .test 0 p)

/-- The three stages of a command's judgement (R177): its code, its arguments, its owner. -/
def judgeCommand (code : Nat) (p : Part) : Part :=
  match code with
  | 1 => dialCall p
  | 2 => releaseCall p
  | 3 => setTimeCommand p
  | 4 => setAttentionCommand p
  | 5 => mapDumpCommand p
  | 6 => vaultClearedCommand p
  | 7 => clearConditionCommand p
  | 8 => reloadCommand p
  | 9 => reportNowCommand p
  | 10 => testReportCommand p
  | _ => complete .unknown p

/-- A command is taken (R175). -/
def takeCommand (code : Nat) (p : Part) : Part :=
  judgeCommand code (mark .result { p with
    bpu.number := p.bpu.number + 1, bpu.result := .pending, bpu.inFlight := some code })

end Sys2Proof.Machine
end

