-- ==== Sys2Proof/Machine/MemoryPath.lean ====
section
/-!
DEFINITION. The memory path (R56 to R73): the treatment of host accesses, suppression and the capture record, the
arbiter of the memory port, group writes and part reads, and the ends of the profile loads.
-/

namespace Sys2Proof.Machine

/-! ## Treatments (R58 to R62) -/

/-- What the BPU does with a host write. -/
inductive Treatment where
  | pass
  | interpret
  | suppress (kind : WindowKind) (offset : Nat)
deriving DecidableEq, Repr

/-- The treatment of a write to an address. -/
def treatmentAt (address : Nat) (p : Part) : Treatment :=
  match windowAt address p with
  | none => .pass
  | some (.profile, _) => .pass
  | some (.tariff, _) => .pass
  | some (.mailbox, o) =>
    if o = 5 ∨ (o = 0 ∧ p.bpu.inFlight.isSome) then .suppress .mailbox o else .pass
  | some (.status, o) => if o = 0 then .interpret else .suppress .status o
  | some (.account, o) => .suppress .account o
  | some (.callRing, o) => .suppress .callRing o
  | some (.reportRing, o) => .suppress .reportRing o
  | some (.mapDump, o) => .suppress .mapDump o

/-! ## Suppression and capture (R63 to R65) -/

/-- A suppressed write is offered to the capture record (R64). -/
def offerCapture (address : Nat) (data : Word) (kind : WindowKind) (p : Part) : Part :=
  if p.bpu.capture.locked then
    markS 5 { p with bpu.capture.further := satAdd 65535 p.bpu.capture.further }
  else
    setCause .capture (markS 5 { p with
      bpu.capture := { locked := true, empty := false, address := BitVec.ofNat 18 address, data, kind := some kind,
                       tick := p.tick, further := 0 } })

/-- A host write is suppressed: counted, offered to the capture record, and in the ACCOUNT window raised as
ACCOUNT_TAMPER (R60, R63). -/
def suppressWrite (address : Nat) (data : Word) (kind : WindowKind) (offset : Nat) (p : Part) : Part :=
  let p := offerCapture address data kind (markS 4 { p with bpu.refused := satAdd 65535 p.bpu.refused })
  if kind = .account then raise .accountTamper offset p else p

/-- The unlocking read (R65). -/
def unlockCapture (p : Part) : Part :=
  if p.bpu.capture.locked then markS 5 { p with bpu.capture.locked := false } else p

/-! ## The taking of an access that passes (R56, R58, R61) -/

/-- Store a word behind the port. -/
def store (address : Nat) (data : Word) (p : Part) : Part := { p with mem := writeWord p.mem address data }

/-- The effect of a write to a word of the mailbox. -/
def mailboxEffect (offset : Nat) (data : Word) (p : Part) : Part :=
  match offset with
  | 0 => takeCommand data.toNat p
  | 1 => { p with bpu.arg1 := data }
  | 2 => { p with bpu.arg2 := data }
  | 3 => { p with bpu.arg3 := data }
  | 4 => { p with bpu.arg4 := data }
  | 6 => takeDialWord data.toNat p
  | 7 => takeConsumerIndex data.toNat p
  | _ => p

/-- The effect that the BPU gives a write that passes. -/
def writeEffect (address : Nat) (data : Word) (p : Part) : Part :=
  match windowAt address p with
  | some (.mailbox, o) => mailboxEffect o data p
  | some (.profile, _) => markS 0 { p with bpu.profileChanged := true }
  | some (.tariff, _) => tariffNotice p
  | some (.status, _) | some (.account, _) | some (.callRing, _) | some (.reportRing, _) | some (.mapDump, _) => p
  | none => p

/-- A read returns the word the chip holds; of the last word of S5 it unlocks the capture record. -/
def readEffect (address : Nat) (p : Part) : Part :=
  let q := { p with bpu.readData := readWord p.mem address }
  if windowAt address p = some (.status, 51) then unlockCapture q else q

/-- An access granted the port is taken. -/
def takeAccess (a : HostAccess) (p : Part) : Part :=
  match a with
  | .write t data => match addressOf t p with
    | some address => writeEffect address data (store address data p)
    | none => p
  | .read t => match addressOf t p with
    | some address => readEffect address p
    | none => p

/-! ## Group writes and part reads (R66, R67, R69) -/

/-- A group write begins: it leaves the set, and its contents are those of this moment. -/
def beginWrite (g : Group) (p : Part) : Part :=
  let place := groupPlace g
  { p with
    bpu.dirty := p.bpu.dirty.filter (· != g)
    bpu.port := some (.write g (groupRecord g p) ((baseOfKind place.1 p).getD 0 + place.2) (groupWords g p)) }

/-- The dirty groups that can be written: none before the end of the start profile load, when the part has no other
use for the port than the loader's reads, and no window to write to (R72; log entry 22). -/
def writable (p : Part) : List Group := if p.bpu.windows.isSome then p.bpu.dirty else []

/-- The first dirty group of a class above the map-dump cells. -/
def firstGroup (p : Part) : Option Group := (writable p).find? fun g => !isCell g

/-- A flash read chosen while the flash is busy leaves the waiting reads and keeps a 50 ms limit (R69). -/
def setAside (r : PartRead) (p : Part) : Part :=
  { p with
    bpu.waiting := p.bpu.waiting.drop 1
    bpu.aside := p.bpu.aside ++ [{ r with limit := match r.limit with
      | some t => some t
      | none => some (newTimer 50 p) }] }

/-- Choose the next work and begin it (R67). The rounds are as many as the reads that may be set aside. -/
def chooseRun : Nat → Part → Part
  | 0, p => p
  | n + 1, p =>
    match firstGroup p with
    | some g => beginWrite g p
    | none =>
      match p.bpu.waiting with
      | r :: rest =>
        if ofFlash r.purpose && p.pins.flashBusy then chooseRun n (setAside r p)
        else { p with bpu.waiting := rest, bpu.port := some (.read r false) }
      | [] =>
        match writable p with
        | g :: _ => beginWrite g p
        | [] => p

/-- Part work is ready: a dirty group, once there are windows to write it to, or a waiting part read (R68). -/
def workReady (p : Part) : Bool := writable p != [] || p.bpu.waiting != []

/-- The part is granted one run, and the starvation count returns to 0. Where every read chosen is set aside, no run
is granted and the port stays free. -/
def grantRun (p : Part) : Part :=
  let q := chooseRun (p.bpu.waiting.length + 1) p
  if q.bpu.port.isSome then { q with bpu.starvation := 0 } else q

/-! ## The arbiter (R68, R72) -/

/-- A write is held during the start profile load (R72). -/
def isHeld (a : HostAccess) (p : Part) : Bool :=
  match a with
  | .write _ _ => p.bpu.load == some .start
  | .read _ => false

/-- A suppressed or interpreted write is taken at its arrival, without the port. -/
def takeUnported (a : HostAccess) (p : Part) : Option Part :=
  match a with
  | .write t data =>
    match addressOf t p with
    | none => some p
    | some address =>
      match treatmentAt address p with
      | .pass => none
      | .interpret => some (clearCauses data p)
      | .suppress kind offset => some (suppressWrite address data kind offset p)
  | .read _ => none

/-- Serve the host bus port while it can be served: the access presented is taken, or waits. With the starvation count
at 64 and no part work ready, its work having been withdrawn, R68 has no run to grant: the access is granted and the
count stays (the model's choice, log entry 44). -/
def serveRounds : Nat → Part → Part
  | 0, p => p
  | n + 1, p =>
    match p.bpu.hostQueue with
    | [] => p
    | a :: rest =>
      if isHeld a p then p
      else match takeUnported a { p with bpu.hostQueue := rest } with
        | some q => serveRounds n q
        | none =>
          if p.bpu.port.isSome then p
          else if 64 ≤ p.bpu.starvation && workReady p then serveRounds n (grantRun p)
          else serveRounds n (takeAccess a { p with
            bpu.hostQueue := rest
            bpu.starvation := if workReady p then p.bpu.starvation + 1 else p.bpu.starvation })

/-- Serve the host bus port. -/
def serve (p : Part) : Part := serveRounds (2 * p.bpu.hostQueue.length + 2) p

/-- A host access arrives. -/
def hostAccess (a : HostAccess) (p : Part) : Part := serve { p with bpu.hostQueue := p.bpu.hostQueue ++ [a] }

/-! ## The ends of a profile load (R71 to R73) -/

/-- Every setting of a good profile but WB goes to its owner; the nominals are set to the profile's (R4, R72). -/
def applyProfile (f : Profile) (p : Part) : Part :=
  { p with
    cu.table := some { slots := f.coins.map fun t => { type := t, d := t.dp, a := t.ap },
                       tmin := f.tmin, tmax := f.tmax, cluster := f.cluster }
    cau.vc := some f.vc
    rtu.freeList := f.free
    rtu.calendar := some f.calendar
    rtu.steps := some (f.step, f.graceTime)
    lu.settings := some f.line
    cru.number := some f.number
    cru.identity := some f.identity }

/-- The first publication after a start (R66, R162). -/
def markPublication (p : Part) : Part :=
  markAll ([.result] ++ (List.range 8).map Group.status ++ (List.range 8).map Group.report) p

/-- The two reads requested at the end of the start load, in either order (R45, R84; log entry 16). -/
def beginFirstReads (p : Part) : Part :=
  let q := { p with free := p.free + 1, rtu.verifyDue := true }
  if Config.accountReadFirst p.free then beginVerify (beginAccountLoad q) else beginAccountLoad (beginVerify q)

/-- The start profile load ends (R72). -/
def endStartLoad (result : Except Nat Profile) (p : Part) : Part :=
  let p := { p with bpu.load := none, bpu.profileWords := [] }
  let p := match result with
    | .ok f => applyProfile f { p with bpu.windows := some f.bases }
    | .error detail => raise .profileBad detail { p with bpu.windows := some builtInBases }
  let p := beginFirstReads (appendRecord (.start p.started p.rtu.clock) (markPublication p))
  reportAsk (probeAsk (gateWork (judgeBand p)))

/-- A reload ends (R73). That a good one which changes s marks S2 only where the band changes with it, as its new steps
affordable is none of the moments R107 lists, is the model's choice beside R66 (log entry 52). -/
def endReload (result : Except Nat Profile) (p : Part) : Part :=
  let p := { p with bpu.load := none, bpu.profileWords := [] }
  let p := match result with
    | .ok f => reportAsk (probeAsk (gateWork (judgeBand (clear .profileBad (takeCapacity (applyProfile f p))))))
    | .error detail => raise .profileBad detail p
  completeIf 8 .done p

/-- The outcome of a reading is applied in one step. -/
def endProfileLoad (result : Except Nat Profile) (p : Part) : Part :=
  match p.bpu.load with
  | some .start => endStartLoad result p
  | some .reload => endReload result p
  | none => p

/-- The words of a part read of the profile arrive (R70, R71). Every read but the last asks for the next 16 words of the
window, wherever the records begin and end: the model's choice within R69's "up to 16 words" (log entry 43). -/
def takeProfileWords (position : Nat) (words : List Word) (p : Part) : Part :=
  let all := p.bpu.profileWords ++ words
  match readProfile all with
  | .more => requestRead (.profile (position + 16)) { p with bpu.profileWords := all }
  | .structureFault key => endProfileLoad (.error (200 + key)) p
  | .ended records checks => endProfileLoad (judgeRecords records checks) p

/-! ## Completions at the port -/

/-- The port falls free, and the host bus port is served. -/
def freePort (p : Part) : Part := { p with bpu.port := none }

/-- A part read completes; the words of a withdrawn one are discarded. -/
def readDone (requester : PartRead → Option (Part → Part)) (p : Part) : Part :=
  match p.bpu.port with
  | some (.read r discard) =>
    match requester r with
    | some f => serve (if discard then freePort p else f (freePort p))
    | none => p
  | some (.write _ _ _ _) => p
  | none => p

/-- The write of a group completes: its words are in memory, and its owner acts. -/
def writeDone (owner : Group → Option Nat → Option (Part → Part)) (p : Part) : Part :=
  match p.bpu.port with
  | some (.write g record address words) =>
    match owner g record with
    | some f => serve (f { freePort p with mem := writeWords p.mem address words })
    | none => p
  | some (.read _ _) => p
  | none => p

/-- A call-ring record is kept until the write of its slot completes (R145). -/
def callSlotWritten (slot : Nat) (p : Part) : Part :=
  if p.bpu.dirty.contains (.call slot) then p
  else { p with cc.records := p.cc.records.filter fun e => e.1 != slot }

/-- The result word written shows the final result of the command in flight. -/
def showsFinal (words : List Word) (p : Part) : Bool :=
  p.bpu.inFlight.isSome && p.bpu.result != .pending && words == [resultWord p]

/-- The write that carries the final result completes (R176): the command is no longer in flight, and RESULT is set. -/
def finalWritten (p : Part) : Part := setCause .result { p with bpu.inFlight := none }

/-- A map-dump cell's write completes (R16): with the clear flag the live cell is zeroed, and the rejects held during
the write are added after the zeroing. -/
def cellZeroed (i : Nat) (p : Part) : Part :=
  match p.cu.dump with
  | some { clear := true, held } =>
    addHeld held i { p with
      cu.rejects := writeWord p.cu.rejects i 0, cu.dump := some { clear := true, held := 0 } }
  | _ => p

/-- Some cell of the live map is at or above the cluster threshold. -/
def anyCluster (p : Part) : Bool := p.cu.rejects.any fun c => decide (clusterLimit p ≤ c.2.toNat)

/-- The dump completes with cell 255 (R17). -/
def endMapDump (p : Part) : Part :=
  let cleared := match p.cu.dump with
    | some d => d.clear
    | none => false
  let p := { p with cu.dump := none }
  completeIf 5 .done (if cleared && !anyCluster p then clear .slugCluster p else p)

/-- The write of cell i completes. -/
def cellWritten (i : Nat) (p : Part) : Part :=
  let p := cellZeroed i p
  if i = 255 then endMapDump p else p

/-! ## The flash's ready output (R69) -/

/-- The flash shows ready: the reads set aside rejoin the waiting reads as if newly requested, and their limits are kept.
Several rejoin in the order in which they were set aside: the model's choice (log entry 48). -/
def rejoinReads (p : Part) : Part :=
  { p with bpu.waiting := p.bpu.waiting ++ p.bpu.aside, bpu.aside := [], pins.flashBusy := false }

/-- The requester of a flash read. -/
def isReadOf (reader : FlashReader) (r : PartRead) : Bool :=
  match reader with
  | .profile => ofFlash r.purpose && !ofScan r.purpose
  | .scan => ofScan r.purpose

/-- The read fails back to its requester (R71, R83, R84). -/
def failRead (reader : FlashReader) (p : Part) : Part :=
  match reader with
  | .profile => endProfileLoad (.error 100) p
  | .scan => scanFailsBack p

/-- The flash's ready output shows this at a grant. -/
def senseFlash (busy : Bool) (p : Part) : Part :=
  if busy then { p with pins.flashBusy := true } else rejoinReads p

/-- The 50 ms limit of a read set aside expires: it fails back with the flash still busy. A flash that shows ready has
the reads rejoin instead. -/
def failBack (reader : FlashReader) (p : Part) : Part :=
  if p.pins.flashBusy then
    match p.bpu.aside.find? (isReadOf reader) with
    | none => p
    | some r =>
      serve (onExpiry r.limit (fun p => failRead reader { p with
        bpu.aside := p.bpu.aside.filter fun x => !isReadOf reader x }) p)
  else rejoinReads p

end Sys2Proof.Machine
end

