-- ==== Sys2Proof/Machine/Clock.lean ====
section
/-!
DEFINITION. Time and the starts: a start of either kind (R72 and the chapters' tables of the state after each start),
the wall clock (R92), and the millisecond that passes when no command waits, with the expiries that fall due in it
(log entries 1 and 3).
-/

namespace Sys2Proof.Machine

/-! ## Starts -/

/-- The words that a start leaves in memory: a group write in progress ends where it stands, and the words already
written keep their new contents (R66). How many there are is a free value (log entry 7). -/
def cutWrite (p : Part) : Memory :=
  match p.bpu.port with
  | some (.write _ _ address words) =>
    writeWords p.mem address (words.take (Config.cutWords p.free % (words.length + 1)))
  | some (.read _ _) => p.mem
  | none => p.mem

/-- The free-value counter after a start: one value is used where a write was cut, and one where an access waited. -/
def freeAfterStart (p : Part) : Nat := p.free + 2

/-- The part after a power start: everything is at its value after a start, and the memory and the inputs are as they
stand (spec/00_scope.md, "Start kinds"). -/
def powerStarted (p : Part) : Part :=
  { Part.reset with
    free := freeAfterStart p
    mem := cutWrite p
    pins := p.pins
    samplers := Samplers.begin p.pins }

/-- The Rating Unit after a line start: the clock goes on, and its millisecond phase with it (R92). -/
def rtuAfterLine (p : Part) : Rtu :=
  { Rtu.fresh with
    clock := p.rtu.clock
    second := match p.rtu.clock with
      | some _ => p.rtu.second - p.tick
      | none => 0 }

/-- The part after a line start: as after a power start, but that the wall clock goes on and the last good step is
kept (R92, R116). Whether a host access that waits at the port is still presented is a free value (log entry 8). -/
def lineStarted (p : Part) : Part :=
  { powerStarted p with
    started := .line
    bpu := { Bpu.fresh with hostQueue := if Config.accessSurvives (p.free + 1) then p.bpu.hostQueue else [] }
    rtu := rtuAfterLine p
    lu := { Lu.fresh with lastGood := p.lu.lastGood } }

/-! ## The wall clock (R92) -/

/-- One second on: midnight begins the next day, and day 6 is followed by day 0. -/
def nextSecond : WallTime → WallTime
  | none => none
  | some (day, second) => if second + 1 < 86400 then some (day, second + 1) else some ((day + 1) % 7, 0)

/-- 1,000 ms of tick have passed. -/
def secondPasses (p : Part) : Part :=
  gateWork (judgeBand (markS 6 { p with rtu.clock := nextSecond p.rtu.clock, rtu.second := p.rtu.second + 1000 }))

/-- The timer of the millisecond phase. -/
def phaseTimer (p : Part) : Timer := { start := p.rtu.second, limit := 1000 }

/-- The timer of a RUNNING step. -/
def stepTimer (p : Part) : Option Timer :=
  if p.rtu.timing.state = .running then
    some { start := p.rtu.timing.start, limit := (p.rtu.timing.finish - p.rtu.timing.start).toNat }
  else none

/-- The timer of the loss of current. One that a break has paused at 300 ms has expired (R127; log entry 45). -/
def lossTimer (p : Part) : Option Timer :=
  match p.lu.loss.since with
  | some t => some { start := t, limit := 300 - p.lu.loss.counted }
  | none => if 300 ≤ p.lu.loss.counted then some { start := p.tick, limit := 0 } else none

/-- The timer of the oldest entry of a list of ticks. -/
def ageTimer (limit : Nat) (ticks : List Tick) : Option Timer := ticks.head?.map fun t => { start := t, limit }

/-- The sender's timer while it is in a phase. -/
def senderTimer (phase : SendPhase) (p : Part) : Option Timer :=
  if p.lu.sender.phase = phase then p.lu.sender.timer else none

/-! ## Sampling -/

/-- A sample: the reading stands, or a new one begins. -/
def sample (reading : Bool) (s : Sampler) : Sampler :=
  if reading = s.last then { s with held := min 2000 (s.held + 1) } else Sampler.begin reading

/-- A millisecond passes: the tick rises and the inputs are sampled. -/
def tickPasses (p : Part) : Part :=
  { p with
    tick := p.tick + 1
    samplers :=
      { hook := sample p.pins.hookOff p.samplers.hook, door := sample p.pins.doorOpen p.samplers.door,
        key := sample p.pins.keyOn p.samplers.key, cord := sample p.pins.cordOpen p.samplers.cord,
        shock := sample p.pins.shockClosed p.samplers.shock,
        vaultBlocked := sample p.pins.vaultBlocked p.samplers.vaultBlocked,
        returnBlocked := sample p.pins.returnBlocked p.samplers.returnBlocked } }

/-! ## What is due -/

/-- Every timer of the part with the command of its expiry. -/
def timersOf (p : Part) : List (Option Timer × Instr) :=
  [(some (phaseTimer p), .clockSecond), (stepTimer p, .stepEnd), (p.cu.flap, .flapRelease),
   (p.rlu.cycle, .confirmLimitExpiry), (p.rtu.quiet, .quietTimerExpiry), (p.cc.grace, .graceExpiry),
   (p.cau.scrub, .scrubTurn), (p.lu.clearing, .clearingEnd), (p.lu.loopLimit, .loopLimitExpiry),
   (p.lu.searchLimit, .searchLimitExpiry), (senderTimer .tone p, .dtmfToneEnd), (senderTimer .gap p, .dtmfGapEnd),
   (senderTimer .breaking p, .pulseBreakEnd), (senderTimer .making p, .pulseMakeEnd),
   (p.lu.reversalHold, .reversalHoldEnd), (p.lu.clearHold, .clearHoldEnd), (p.lu.answerLimit, .answerTimeout),
   (timedSilence p, .timedAnswerExpiry), (p.lu.pause, .reportPauseEnd), (lossTimer p, .lossTimerExpiry),
   (p.lu.ackWait, .ackWaitExpiry), (p.lu.voltWatch, .voltageWatchExpiry), (p.lu.probe, .probeTimerExpiry),
   (p.cc.hangUp, .hangUpTimerExpiry), (p.cc.abuse, .abuseTimerExpiry), (ageTimer 10000 p.cc.flashes, .flashAgeOut),
   (p.cru.shockQuiet, .shockQuietExpiry), (ageTimer 60000 p.cru.pulses, .pulseAgeOut),
   (p.cru.hookQuiet, .hookQuietExpiry), (p.cru.backoff, .backoffExpiry)]
  ++ (if p.pins.flashBusy then
      p.bpu.aside.map fun r => (r.limit, .flashReadFailBack (if ofScan r.purpose then .scan else .profile))
    else [])

/-- The commands of the timers that have expired. -/
def dueTimers (p : Part) : List Instr :=
  (timersOf p).filterMap fun e => match e.1 with
    | some t => if expired t p then some e.2 else none
    | none => none

/-- The sampled inputs whose holds are complete (R132, R151, R153, R154). `before` is the part as it stood a
millisecond ago: a closure of the shock contact is seen against its hold then. -/
def dueSamples (before p : Part) : List Instr :=
  (if 30 ≤ p.samplers.hook.held ∧ p.samplers.hook.last ≠ p.cc.off then [.hookDebounced p.samplers.hook.last] else [])
  ++ (match p.cru.door with
    | none => if 50 ≤ p.samplers.door.held then [Instr.switchSettled .door p.samplers.door.last] else []
    | some d => if 50 ≤ p.samplers.door.held ∧ p.samplers.door.last ≠ d then
        [.doorDebounced p.samplers.door.last] else [])
  ++ (match p.cru.key with
    | none => if 50 ≤ p.samplers.key.held then [Instr.switchSettled .key p.samplers.key.last] else []
    | some k => if 50 ≤ p.samplers.key.held ∧ p.samplers.key.last ≠ k then
        [.keyDebounced p.samplers.key.last] else [])
  ++ (if 2000 ≤ p.samplers.cord.held ∧ p.samplers.cord.last ≠ isActive .handsetCut p then
      [.cordTimerExpiry p.samplers.cord.last] else [])
  ++ (if p.samplers.shock.last ∧ p.samplers.shock.held = 0 ∧ before.samplers.shock.last = false
        ∧ 250 ≤ before.samplers.shock.held then [.shockPulse] else [])

/-- No host access is waiting for the port; one that is held is not waiting (R68). -/
def hostIdle (p : Part) : Bool :=
  match p.bpu.hostQueue with
  | [] => true
  | a :: _ => isHeld a p

/-- The arbiter may grant the port to the part (R68). -/
def mayGrant (p : Part) : Bool := p.bpu.port.isNone && hostIdle p && workReady p

/-- Everything that falls due in this millisecond. -/
def dueNow (before p : Part) : List Instr :=
  dueTimers p ++ dueSamples before p ++ (if mayGrant p then [.partRunGrant p.pins.flashBusy] else [])

/-- Put commands into an order that free values choose: "the one taken first decides" (log entry 3). -/
def arrange : Nat → Nat → List Instr → List Instr
  | 0, _, due => due
  | n + 1, k, due =>
    match due with
    | [] => []
    | [c] => [c]
    | c :: d :: rest =>
      let i := Config.tieOrder k % (rest.length + 2)
      (c :: d :: rest).getD i c :: arrange n (k + 1) ((c :: d :: rest).eraseIdx i)

/-- The idle step: a millisecond passes, and what falls due in it is queued. -/
def idleTick (s : State) : State :=
  let p := tickPasses s.part
  let due := dueNow s.part p
  { part := { p with free := if 2 ≤ due.length then p.free + due.length else p.free },
    pending := s.pending ++ arrange due.length p.free due }

end Sys2Proof.Machine
end

