-- ==== Sys2Proof/Machine/ClockEvents.lean ====
section
/-!
DEFINITION. The events of the Rating Unit's timers and of the grace timer.
-/

namespace Sys2Proof.Machine

/-- QUIET_TIMER_EXPIRY (R84). -/
def execQuietTimerExpiry (s : State) : Host.Outcome State Fault Refusal :=
  onPart (fun p => onExpiry p.rtu.quiet
    (fun p => beginVerify { p with rtu.quiet := none, rtu.verifyDue := true }) p) s

/-- CLOCK_SECOND (R92). -/
def execClockSecond (s : State) : Host.Outcome State Fault Refusal :=
  onPart (fun p => onExpiry (some (phaseTimer p)) secondPasses p) s

/-- STEP_END (R98). -/
def execStepEnd (s : State) : Host.Outcome State Fault Refusal :=
  onPart (fun p => onExpiry (stepTimer p) (fun p => gateWork (endStep p)) p) s

/-- GRACE_EXPIRY (R104). -/
def execGraceExpiry (s : State) : Host.Outcome State Fault Refusal :=
  onPart (fun p => onExpiry p.cc.grace endGrace p) s

end Sys2Proof.Machine
end

