-- ==== Sys2Proof/Machine/CoinEvents.lean ====
section
/-!
DEFINITION. The events of the coin mechanism: a measurement, the flap's hold, the confirm sensors and their limit.
-/

namespace Sys2Proof.Machine

/-- COIN_MEASUREMENT (R1). -/
def execCoinMeasurement (diameter alloy transit : Word) (s : State) : Host.Outcome State Fault Refusal :=
  onPart (takeMeasurement { d := diameter, a := alloy, t := transit }) s

/-- FLAP_RELEASE (R5). -/
def execFlapRelease (s : State) : Host.Outcome State Fault Refusal :=
  onPart (fun p => onExpiry p.cu.flap (fun p => { p with cu.flap := none }) p) s

/-- VAULT_CONFIRM (R22). -/
def execVaultConfirm (s : State) : Host.Outcome State Fault Refusal :=
  onPart (fun p => vaultSensor (vaultInterrupted p)) s

/-- RETURN_CONFIRM (R23). -/
def execReturnConfirm (headOccupied : Bool) (s : State) : Host.Outcome State Fault Refusal :=
  onPart (fun p => returnSensor headOccupied { returnInterrupted p with pins.headOccupied := headOccupied }) s

/-- CONFIRM_LIMIT_EXPIRY (R24). -/
def execConfirmLimitExpiry (s : State) : Host.Outcome State Fault Refusal :=
  onPart (fun p => onExpiry p.rlu.cycle confirmMissing p) s

end Sys2Proof.Machine
end

