-- ==== Sys2Proof/Machine/HostWrites.lean ====
section
/-!
DEFINITION. The host's accesses that are not commands. Each arrives at the host bus port and is taken, held or left
waiting by the arbiter; what it does when it is taken follows from its address (Machine/MemoryPath.lean).
-/

namespace Sys2Proof.Machine

/-- HOST_PASS_WRITE (R56). -/
def execHostPassWrite (address : Addr) (data : Word) (s : State) : Host.Outcome State Fault Refusal :=
  onPart (hostAccess (.write (.address address) data)) s

/-- ARGUMENT_WRITE (R58): mailbox word 1, 2, 3 or 4. -/
def execArgumentWrite (number : Nat) (data : Word) (s : State) : Host.Outcome State Fault Refusal :=
  onPart (hostAccess (.write (.window .mailbox number) data)) s

/-- DIAL_WORD_WRITE (R136): mailbox word 6. -/
def execDialWordWrite (value : Word) (s : State) : Host.Outcome State Fault Refusal :=
  onPart (hostAccess (.write (.window .mailbox 6) value)) s

/-- CONSUMER_INDEX_WRITE (R146): mailbox word 7. -/
def execConsumerIndexWrite (value : Word) (s : State) : Host.Outcome State Fault Refusal :=
  onPart (hostAccess (.write (.window .mailbox 7) value)) s

/-- CHANGE_WORD_WRITE (R59): the first word of the STATUS window. -/
def execChangeWordWrite (value : Word) (s : State) : Host.Outcome State Fault Refusal :=
  onPart (hostAccess (.write (.window .status 0) value)) s

/-- SUPPRESSED_WRITE (R63). -/
def execSuppressedWrite (address : Addr) (data : Word) (s : State) : Host.Outcome State Fault Refusal :=
  onPart (hostAccess (.write (.address address) data)) s

/-- ACCOUNT_WRITE (R60). -/
def execAccountWrite (offset : Nat) (data : Word) (s : State) : Host.Outcome State Fault Refusal :=
  onPart (hostAccess (.write (.window .account offset) data)) s

/-- PROFILE_WRITE (R61). -/
def execProfileWrite (offset : Nat) (data : Word) (s : State) : Host.Outcome State Fault Refusal :=
  onPart (hostAccess (.write (.window .profile offset) data)) s

/-- TARIFF_WRITE (R61). -/
def execTariffWrite (offset : Nat) (data : Word) (s : State) : Host.Outcome State Fault Refusal :=
  onPart (hostAccess (.write (.window .tariff offset) data)) s

/-- CAPTURE_UNLOCK_READ (R65). -/
def execCaptureUnlockRead (address : Addr) (s : State) : Host.Outcome State Fault Refusal :=
  onPart (hostAccess (.read (.address address))) s

/-- HOST_WRITE_HELD (R72). -/
def execHostWriteHeld (address : Addr) (data : Word) (s : State) : Host.Outcome State Fault Refusal :=
  onPart (hostAccess (.write (.address address) data)) s

end Sys2Proof.Machine
end

