-- ==== Sys2Proof/Machine/LineEvents.lean ====
section
/-!
DEFINITION. The events of the telephone line: the Line Unit's timers and the readings of the line interface.
-/

namespace Sys2Proof.Machine

/-- CLEARING_END (R108). -/
def execClearingEnd (s : State) : Host.Outcome State Fault Refusal :=
  onPart (fun p => onExpiry p.lu.clearing endClearing p) s

/-- LOOP_CURRENT_CHANGE (R113). -/
def execLoopCurrentChange (sense : Option Polarity) (s : State) : Host.Outcome State Fault Refusal :=
  onPart (senseLoop sense) s

/-- LOOP_LIMIT_EXPIRY (R113). -/
def execLoopLimitExpiry (s : State) : Host.Outcome State Fault Refusal :=
  onPart (fun p => onExpiry p.lu.loopLimit (lineOutcome .noLoop) p) s

/-- SEARCH_LIMIT_EXPIRY (R117). -/
def execSearchLimitExpiry (s : State) : Host.Outcome State Fault Refusal :=
  onPart (fun p => onExpiry p.lu.searchLimit (lineOutcome .noDialtone) p) s

/-- DWELL_FIGURE (R115, R121). -/
def execDwellFigure (figure : BitVec 8) (s : State) : Host.Outcome State Fault Refusal :=
  onPart (fun p => if p.lu.line = .searching then searchDwell figure.toNat p else progressDwell figure.toNat p) s

/-- DTMF_TONE_END (R118). -/
def execDtmfToneEnd (s : State) : Host.Outcome State Fault Refusal :=
  onPart (fun p => onExpiry (senderTimer .tone p) endTone p) s

/-- DTMF_GAP_END (R118). -/
def execDtmfGapEnd (s : State) : Host.Outcome State Fault Refusal :=
  onPart (fun p => onExpiry (senderTimer .gap p) endGap p) s

/-- PULSE_BREAK_END (R119). -/
def execPulseBreakEnd (s : State) : Host.Outcome State Fault Refusal :=
  onPart (fun p => onExpiry (senderTimer .breaking p) endBreak p) s

/-- PULSE_MAKE_END (R119). -/
def execPulseMakeEnd (s : State) : Host.Outcome State Fault Refusal :=
  onPart (fun p => onExpiry (senderTimer .making p) endMake p) s

/-- POLARITY_CHANGE (R123, R126): the polarity sense reads only while loop current flows. -/
def execPolarityChange (sense : Polarity) (s : State) : Host.Outcome State Fault Refusal :=
  onPart (fun p => if p.pins.loop.isSome then senseLoop (some sense) p else p) s

/-- REVERSAL_HOLD_END (R123). -/
def execReversalHoldEnd (s : State) : Host.Outcome State Fault Refusal :=
  onPart (fun p => onExpiry p.lu.reversalHold answerCall p) s

/-- CLEAR_HOLD_END (R126). -/
def execClearHoldEnd (s : State) : Host.Outcome State Fault Refusal :=
  onPart (fun p => onExpiry p.lu.clearHold (lineOutcome .farClear) p) s

/-- ANSWER_TIMEOUT (R122). -/
def execAnswerTimeout (s : State) : Host.Outcome State Fault Refusal :=
  onPart (fun p => onExpiry p.lu.answerLimit (lineOutcome .noAnswer) p) s

/-- TIMED_ANSWER_EXPIRY (R124). -/
def execTimedAnswerExpiry (s : State) : Host.Outcome State Fault Refusal :=
  onPart (fun p => onExpiry (timedSilence p) answerCall p) s

/-- REPORT_PAUSE_END (R125). -/
def execReportPauseEnd (s : State) : Host.Outcome State Fault Refusal :=
  onPart (fun p => onExpiry p.lu.pause endPause p) s

/-- LOSS_TIMER_EXPIRY (R127). -/
def execLossTimerExpiry (s : State) : Host.Outcome State Fault Refusal :=
  onPart (fun p => onExpiry (lossTimer p) (lineOutcome .lineLost) p) s

/-- ACK_WAIT_EXPIRY (R128): SILENCE. -/
def execAckWaitExpiry (s : State) : Host.Outcome State Fault Refusal :=
  onPart (fun p => onExpiry p.lu.ackWait (handResult frameNotAccepted) p) s

/-- DTMF_SYMBOL_RECEIVED (R128). -/
def execDtmfSymbolReceived (symbol : BitVec 4) (s : State) : Host.Outcome State Fault Refusal :=
  onPart (receiveSymbol symbol.toNat) s

/-- LOOP_VOLTAGE_CHANGE (R130). -/
def execLoopVoltageChange (present : Bool) (s : State) : Host.Outcome State Fault Refusal :=
  onPart (fun p =>
    if p.pins.voltage = present then p
    else
      let q := { p with pins.voltage := present }
      if q.lu.line = .idle then
        { q with lu.voltWatch := if present then none else some (newTimer 5000 q) }
      else q) s

/-- VOLTAGE_WATCH_EXPIRY (R130). The watch then stands still until voltage has been back or, the model's choice, the line
enters IDLE anew (log entry 53). -/
def execVoltageWatchExpiry (s : State) : Host.Outcome State Fault Refusal :=
  onPart (fun p => onExpiry p.lu.voltWatch (fun p => raiseLineDown 1 { p with lu.voltWatch := none }) p) s

/-- PROBE_TIMER_EXPIRY (R131). -/
def execProbeTimerExpiry (s : State) : Host.Outcome State Fault Refusal :=
  onPart (fun p => onExpiry p.lu.probe (fun p => probeAsk { p with lu.probe := none, lu.probeDue := true }) p) s

end Sys2Proof.Machine
end

