-- ==== Sys2Proof/Machine/MailboxCommands.lean ====
section
/-!
DEFINITION. The mailbox commands: each is a host write of its code to mailbox word 0. Taken while no command is in
flight it passes and is judged (R175, R177); taken while one is, it is suppressed (R58).
-/

namespace Sys2Proof.Machine

/-- A host write of a code to mailbox word 0. -/
def commandWrite (code : Word) : Part → Part := hostAccess (.write (.window .mailbox 0) code)

/-- DIAL (R178). -/
def execDial (s : State) : Host.Outcome State Fault Refusal := onPart (commandWrite 1) s

/-- RELEASE (R179). -/
def execRelease (s : State) : Host.Outcome State Fault Refusal := onPart (commandWrite 2) s

/-- SET_TIME (R180). -/
def execSetTime (s : State) : Host.Outcome State Fault Refusal := onPart (commandWrite 3) s

/-- SET_ATTENTION (R187). -/
def execSetAttention (s : State) : Host.Outcome State Fault Refusal := onPart (commandWrite 4) s

/-- MAP_DUMP (R181). -/
def execMapDump (s : State) : Host.Outcome State Fault Refusal := onPart (commandWrite 5) s

/-- VAULT_CLEARED (R182). -/
def execVaultCleared (s : State) : Host.Outcome State Fault Refusal := onPart (commandWrite 6) s

/-- CLEAR_CONDITION (R183), with what the confirm sensors show as the write arrives; it is judged on what they show when
it is taken (R26). -/
def execClearCondition (shown : ChuteReadings) (s : State) : Host.Outcome State Fault Refusal :=
  onPart (fun p => commandWrite 7 (senseChutes shown p)) s

/-- RELOAD_PROFILE (R184). -/
def execReloadProfile (s : State) : Host.Outcome State Fault Refusal := onPart (commandWrite 8) s

/-- REPORT_NOW (R185). -/
def execReportNow (s : State) : Host.Outcome State Fault Refusal := onPart (commandWrite 9) s

/-- TEST_REPORT (R185). -/
def execTestReport (s : State) : Host.Outcome State Fault Refusal := onPart (commandWrite 10) s

/-- UNKNOWN_COMMAND (R177). -/
def execUnknownCommand (code : Word) (s : State) : Host.Outcome State Fault Refusal := onPart (commandWrite code) s

end Sys2Proof.Machine
end

