-- ==== Sys2Proof/Machine/PortEvents.lean ====
section
/-!
DEFINITION. The events of the memory port: the grant to the part, the completions of group writes and part reads, and
the flash's ready output. A completion that does not fit the run on the port changes nothing (log entry 4).
-/

namespace Sys2Proof.Machine

/-- PART_RUN_GRANT (R68). A flash that shows ready at the grant has the reads set aside rejoin first (R69). -/
def execPartRunGrant (flashBusy : Bool) (s : State) : Host.Outcome State Fault Refusal :=
  onPart (fun p =>
    let q := senseFlash flashBusy p
    if mayGrant q then grantRun q else q) s

/-- What the owner does when a status, report-ring or call-ring group, or a result word that shows no final result,
has been written (R67). -/
def plainOwner (p : Part) (g : Group) (_record : Option Nat) : Option (Part → Part) :=
  match g with
  | .status _ => some id
  | .report _ => some id
  | .call slot => some (callSlotWritten slot)
  | .result => if showsFinal (match p.bpu.port with
      | some (.write _ _ _ words) => words
      | _ => []) p then none else some id
  | .account _ => none
  | .cell _ => none

/-- GROUP_WRITE_COMPLETE (R67). -/
def execGroupWriteComplete (s : State) : Host.Outcome State Fault Refusal :=
  onPart (fun p => writeDone (plainOwner p) p) s

/-- What the BPU does when the result word with its final code has been written (R176). -/
def finalOwner (p : Part) (g : Group) (_record : Option Nat) : Option (Part → Part) :=
  match g with
  | .result => if showsFinal (match p.bpu.port with
      | some (.write _ _ _ words) => words
      | _ => []) p then some finalWritten else none
  | .status _ => none
  | .report _ => none
  | .call _ => none
  | .account _ => none
  | .cell _ => none

/-- RESULT_WORD_WRITTEN (R176). -/
def execResultWordWritten (s : State) : Host.Outcome State Fault Refusal :=
  onPart (fun p => writeDone (finalOwner p) p) s

/-- What the CU does when a cell has been written (R16). -/
def cellOwner (g : Group) (_record : Option Nat) : Option (Part → Part) :=
  match g with
  | .cell i => some (cellWritten i)
  | .result => none
  | .status _ => none
  | .report _ => none
  | .call _ => none
  | .account _ => none

/-- MAP_CELL_WRITTEN (R16). -/
def execMapCellWritten (s : State) : Host.Outcome State Fault Refusal := onPart (writeDone cellOwner) s

/-- What the CAU does when a slot has been written (R44). -/
def slotOwner (g : Group) (record : Option Nat) : Option (Part → Part) :=
  match g with
  | .account slot => some (slotWritten slot record)
  | .result => none
  | .status _ => none
  | .report _ => none
  | .call _ => none
  | .cell _ => none

/-- ACCOUNT_SLOT_WRITTEN (R44). -/
def execAccountSlotWritten (s : State) : Host.Outcome State Fault Refusal := onPart (writeDone slotOwner) s

/-- The profile loader's part of a read. -/
def profileReader (words : List Word) (r : PartRead) : Option (Part → Part) :=
  match r.purpose with
  | .profile position => some (takeProfileWords position (fit 16 words))
  | .scanHeader => none
  | .scanEntry _ => none
  | .startLoad _ _ => none
  | .scrub _ _ => none

/-- PROFILE_READ_DONE (R70). -/
def execProfileReadDone (words : List Word) (s : State) : Host.Outcome State Fault Refusal :=
  onPart (readDone (profileReader words)) s

/-- The scan's part of the header read. -/
def headerReader (count check : Word) (r : PartRead) : Option (Part → Part) :=
  match r.purpose with
  | .scanHeader => some (takeHeader count check)
  | .profile _ => none
  | .scanEntry _ => none
  | .startLoad _ _ => none
  | .scrub _ _ => none

/-- SCAN_HEADER_READ (R79). -/
def execScanHeaderRead (count check : Word) (s : State) : Host.Outcome State Fault Refusal :=
  onPart (readDone (headerReader count check)) s

/-- The scan's part of an entry read. -/
def entryReader (words : List Word) (r : PartRead) : Option (Part → Part) :=
  match r.purpose with
  | .scanEntry i => some (takeEntry i (fit 8 words))
  | .profile _ => none
  | .scanHeader => none
  | .startLoad _ _ => none
  | .scrub _ _ => none

/-- SCAN_ENTRY_READ (R79). -/
def execScanEntryRead (words : List Word) (s : State) : Host.Outcome State Fault Refusal :=
  onPart (readDone (entryReader words)) s

/-- The start loader's part of a slot read. -/
def loadReader (words : List Word) (headOccupied : Bool) (r : PartRead) : Option (Part → Part) :=
  match r.purpose with
  | .startLoad record _ => some (loadSlot record (fit 24 words) headOccupied)
  | .profile _ => none
  | .scanHeader => none
  | .scanEntry _ => none
  | .scrub _ _ => none

/-- START_LOAD_SLOT_READ (R46). -/
def execStartLoadSlotRead (words : List Word) (headOccupied : Bool) (s : State) : Host.Outcome State Fault Refusal :=
  onPart (readDone (loadReader words headOccupied)) s

/-- The scrubber's part of a slot read. -/
def scrubReader (words : List Word) (r : PartRead) : Option (Part → Part) :=
  match r.purpose with
  | .scrub record slot => some (scrubRead record slot (fit 24 words))
  | .profile _ => none
  | .scanHeader => none
  | .scanEntry _ => none
  | .startLoad _ _ => none

/-- SCRUB_READ_DONE (R48). -/
def execScrubReadDone (words : List Word) (s : State) : Host.Outcome State Fault Refusal :=
  onPart (readDone (scrubReader words)) s

/-- FLASH_READY (R69). -/
def execFlashReady (s : State) : Host.Outcome State Fault Refusal := onPart rejoinReads s

/-- FLASH_READ_FAIL_BACK (R69). -/
def execFlashReadFailBack (reader : FlashReader) (s : State) : Host.Outcome State Fault Refusal :=
  onPart (failBack reader) s

/-- SCRUB_TURN (R48). -/
def execScrubTurn (s : State) : Host.Outcome State Fault Refusal :=
  onPart (fun p => onExpiry p.cau.scrub scrubTurn p) s

end Sys2Proof.Machine
end

