-- ==== Sys2Proof/Machine/Starts.lean ====
section
/-!
DEFINITION. The two starts: POWER_START and LINE_START.
-/

namespace Sys2Proof.Machine

/-- POWER_START (R72): supply is applied, and the profile load begins. -/
def execPowerStart (s : State) : Host.Outcome State Fault Refusal := onPart powerStarted s

/-- LINE_START (R72): the reset line is asserted and released, and the profile load begins. A host read that still
waits is presented at once. -/
def execLineStart (s : State) : Host.Outcome State Fault Refusal := onPart (fun p => serve (lineStarted p)) s

end Sys2Proof.Machine
end

