-- ==== Sys2Proof/Machine/SwitchEvents.lean ====
section
/-!
DEFINITION. The events of the hook, the door, the key, the cord loop and the shock contact, and the timers of the CC
and the CRU that follow them.
-/

namespace Sys2Proof.Machine

/-- A sampler that has read a position for a time. -/
def heldFor (reading : Bool) (time : Nat) : Sampler := { last := reading, held := time }

/-- HOOK_DEBOUNCED (R132). -/
def execHookDebounced (off : Bool) (s : State) : Host.Outcome State Fault Refusal :=
  onPart (fun p =>
    let q := { p with pins.hookOff := off, samplers.hook := heldFor off 30 }
    if q.cc.off = off then q else if off then hookUp q else hookDown q) s

/-- HANG_UP_TIMER_EXPIRY (R133). -/
def execHangUpTimerExpiry (s : State) : Host.Outcome State Fault Refusal :=
  onPart (fun p => onExpiry p.cc.hangUp (fun p => probeAsk (takeHangUp { p with cc.hangUp := none })) p) s

/-- ABUSE_TIMER_EXPIRY (R133). -/
def execAbuseTimerExpiry (s : State) : Host.Outcome State Fault Refusal :=
  onPart (fun p => onExpiry p.cc.abuse (fun p => clear .hookAbuse { p with cc.abuse := none }) p) s

/-- FLASH_AGE_OUT (R133). -/
def execFlashAgeOut (s : State) : Host.Outcome State Fault Refusal :=
  onPart (fun p => onExpiry (ageTimer 10000 p.cc.flashes)
    (fun p => { p with cc.flashes := youngerThan 10000 p p.cc.flashes }) p) s

/-- DOOR_DEBOUNCED (R152). -/
def execDoorDebounced (opened : Bool) (s : State) : Host.Outcome State Fault Refusal :=
  onPart (fun p => doorChanges opened { p with pins.doorOpen := opened, samplers.door := heldFor opened 50 }) s

/-- KEY_DEBOUNCED (R151). -/
def execKeyDebounced (on : Bool) (s : State) : Host.Outcome State Fault Refusal :=
  onPart (fun p => keyChanges on { p with pins.keyOn := on, samplers.key := heldFor on 50 }) s

/-- SWITCH_SETTLED (R152). -/
def execSwitchSettled (which : Switch) (active : Bool) (s : State) : Host.Outcome State Fault Refusal :=
  onPart (fun p => settleSwitch which active (match which with
    | .door => { p with pins.doorOpen := active, samplers.door := heldFor active 50 }
    | .key => { p with pins.keyOn := active, samplers.key := heldFor active 50 })) s

/-- CORD_TIMER_EXPIRY (R153). -/
def execCordTimerExpiry (opened : Bool) (s : State) : Host.Outcome State Fault Refusal :=
  onPart (fun p => cordChanges opened { p with pins.cordOpen := opened, samplers.cord := heldFor opened 2000 }) s

/-- SHOCK_PULSE (R154): the contact rings and comes to rest open. -/
def execShockPulse (s : State) : Host.Outcome State Fault Refusal :=
  onPart (fun p => takePulse { p with pins.shockClosed := false, samplers.shock := heldFor false 0 }) s

/-- SHOCK_QUIET_EXPIRY (R154). -/
def execShockQuietExpiry (s : State) : Host.Outcome State Fault Refusal :=
  onPart (fun p => onExpiry p.cru.shockQuiet (fun p => clear .shock { p with cru.shockQuiet := none }) p) s

/-- PULSE_AGE_OUT (R154). -/
def execPulseAgeOut (s : State) : Host.Outcome State Fault Refusal :=
  onPart (fun p => onExpiry (ageTimer 60000 p.cru.pulses)
    (fun p => { p with cru.pulses := youngerThan 60000 p p.cru.pulses }) p) s

/-- HOOK_QUIET_EXPIRY (R167). -/
def execHookQuietExpiry (s : State) : Host.Outcome State Fault Refusal :=
  onPart (fun p => onExpiry p.cru.hookQuiet
    (fun p => reportAsk { p with cru.hookQuiet := none, cru.quietReached := true }) p) s

/-- BACKOFF_EXPIRY (R173). -/
def execBackoffExpiry (s : State) : Host.Outcome State Fault Refusal :=
  onPart (fun p => onExpiry p.cru.backoff (fun p => reportAsk (cancelBackoff p)) p) s

end Sys2Proof.Machine
end

