-- ==== Sys2Proof/Machine/Dispatch.lean ====
section
/-!
DEFINITION. One arm per command: a direct call of its meaning.
-/

namespace Sys2Proof.Machine

def exec (i : Instr) (s : State) : Host.Outcome State Fault Refusal :=
  match i with
  | .powerStart => Sys2Proof.Machine.execPowerStart s
  | .lineStart => Sys2Proof.Machine.execLineStart s
  | .hostPassWrite address data => Sys2Proof.Machine.execHostPassWrite address data s
  | .argumentWrite number data => Sys2Proof.Machine.execArgumentWrite number data s
  | .dial => Sys2Proof.Machine.execDial s
  | .release => Sys2Proof.Machine.execRelease s
  | .setTime => Sys2Proof.Machine.execSetTime s
  | .setAttention => Sys2Proof.Machine.execSetAttention s
  | .mapDump => Sys2Proof.Machine.execMapDump s
  | .vaultCleared => Sys2Proof.Machine.execVaultCleared s
  | .clearCondition shown => Sys2Proof.Machine.execClearCondition shown s
  | .reloadProfile => Sys2Proof.Machine.execReloadProfile s
  | .reportNow => Sys2Proof.Machine.execReportNow s
  | .testReport => Sys2Proof.Machine.execTestReport s
  | .unknownCommand code => Sys2Proof.Machine.execUnknownCommand code s
  | .dialWordWrite value => Sys2Proof.Machine.execDialWordWrite value s
  | .consumerIndexWrite value => Sys2Proof.Machine.execConsumerIndexWrite value s
  | .changeWordWrite value => Sys2Proof.Machine.execChangeWordWrite value s
  | .suppressedWrite address data => Sys2Proof.Machine.execSuppressedWrite address data s
  | .accountWrite offset data => Sys2Proof.Machine.execAccountWrite offset data s
  | .profileWrite offset data => Sys2Proof.Machine.execProfileWrite offset data s
  | .tariffWrite offset data => Sys2Proof.Machine.execTariffWrite offset data s
  | .captureUnlockRead address => Sys2Proof.Machine.execCaptureUnlockRead address s
  | .partRunGrant flashBusy => Sys2Proof.Machine.execPartRunGrant flashBusy s
  | .groupWriteComplete => Sys2Proof.Machine.execGroupWriteComplete s
  | .resultWordWritten => Sys2Proof.Machine.execResultWordWritten s
  | .mapCellWritten => Sys2Proof.Machine.execMapCellWritten s
  | .accountSlotWritten => Sys2Proof.Machine.execAccountSlotWritten s
  | .profileReadDone words => Sys2Proof.Machine.execProfileReadDone words s
  | .scanHeaderRead count check => Sys2Proof.Machine.execScanHeaderRead count check s
  | .scanEntryRead words => Sys2Proof.Machine.execScanEntryRead words s
  | .startLoadSlotRead words headOccupied => Sys2Proof.Machine.execStartLoadSlotRead words headOccupied s
  | .scrubReadDone words => Sys2Proof.Machine.execScrubReadDone words s
  | .flashReady => Sys2Proof.Machine.execFlashReady s
  | .flashReadFailBack reader => Sys2Proof.Machine.execFlashReadFailBack reader s
  | .scrubTurn => Sys2Proof.Machine.execScrubTurn s
  | .coinMeasurement diameter alloy transit => Sys2Proof.Machine.execCoinMeasurement diameter alloy transit s
  | .flapRelease => Sys2Proof.Machine.execFlapRelease s
  | .vaultConfirm => Sys2Proof.Machine.execVaultConfirm s
  | .returnConfirm headOccupied => Sys2Proof.Machine.execReturnConfirm headOccupied s
  | .confirmLimitExpiry => Sys2Proof.Machine.execConfirmLimitExpiry s
  | .quietTimerExpiry => Sys2Proof.Machine.execQuietTimerExpiry s
  | .clockSecond => Sys2Proof.Machine.execClockSecond s
  | .stepEnd => Sys2Proof.Machine.execStepEnd s
  | .graceExpiry => Sys2Proof.Machine.execGraceExpiry s
  | .clearingEnd => Sys2Proof.Machine.execClearingEnd s
  | .loopCurrentChange sense => Sys2Proof.Machine.execLoopCurrentChange sense s
  | .loopLimitExpiry => Sys2Proof.Machine.execLoopLimitExpiry s
  | .searchLimitExpiry => Sys2Proof.Machine.execSearchLimitExpiry s
  | .dwellFigure figure => Sys2Proof.Machine.execDwellFigure figure s
  | .dtmfToneEnd => Sys2Proof.Machine.execDtmfToneEnd s
  | .dtmfGapEnd => Sys2Proof.Machine.execDtmfGapEnd s
  | .pulseBreakEnd => Sys2Proof.Machine.execPulseBreakEnd s
  | .pulseMakeEnd => Sys2Proof.Machine.execPulseMakeEnd s
  | .polarityChange sense => Sys2Proof.Machine.execPolarityChange sense s
  | .reversalHoldEnd => Sys2Proof.Machine.execReversalHoldEnd s
  | .clearHoldEnd => Sys2Proof.Machine.execClearHoldEnd s
  | .answerTimeout => Sys2Proof.Machine.execAnswerTimeout s
  | .timedAnswerExpiry => Sys2Proof.Machine.execTimedAnswerExpiry s
  | .reportPauseEnd => Sys2Proof.Machine.execReportPauseEnd s
  | .lossTimerExpiry => Sys2Proof.Machine.execLossTimerExpiry s
  | .ackWaitExpiry => Sys2Proof.Machine.execAckWaitExpiry s
  | .dtmfSymbolReceived symbol => Sys2Proof.Machine.execDtmfSymbolReceived symbol s
  | .loopVoltageChange present => Sys2Proof.Machine.execLoopVoltageChange present s
  | .voltageWatchExpiry => Sys2Proof.Machine.execVoltageWatchExpiry s
  | .probeTimerExpiry => Sys2Proof.Machine.execProbeTimerExpiry s
  | .hookDebounced off => Sys2Proof.Machine.execHookDebounced off s
  | .hangUpTimerExpiry => Sys2Proof.Machine.execHangUpTimerExpiry s
  | .abuseTimerExpiry => Sys2Proof.Machine.execAbuseTimerExpiry s
  | .flashAgeOut => Sys2Proof.Machine.execFlashAgeOut s
  | .doorDebounced opened => Sys2Proof.Machine.execDoorDebounced opened s
  | .keyDebounced on => Sys2Proof.Machine.execKeyDebounced on s
  | .switchSettled which active => Sys2Proof.Machine.execSwitchSettled which active s
  | .cordTimerExpiry opened => Sys2Proof.Machine.execCordTimerExpiry opened s
  | .shockPulse => Sys2Proof.Machine.execShockPulse s
  | .shockQuietExpiry => Sys2Proof.Machine.execShockQuietExpiry s
  | .pulseAgeOut => Sys2Proof.Machine.execPulseAgeOut s
  | .hookQuietExpiry => Sys2Proof.Machine.execHookQuietExpiry s
  | .backoffExpiry => Sys2Proof.Machine.execBackoffExpiry s
  | .hostWriteHeld address data => Sys2Proof.Machine.execHostWriteHeld address data s

end Sys2Proof.Machine
end

