-- ==== Sys2Proof/Safety.lean ====
section
/-!
DEFINITION. The terms in which claims speak: what it means that memory is kept, that the host bus port is free to take
an access at once, that a timer has run out, and the whole-machine equalities that the manual says hold at every
moment.
-/

namespace Sys2Proof.Machine

/-! ## Memory and the port -/

/-- Every word of memory reads as before. -/
def memoryKept (p q : Part) : Prop := ∀ a, readWord q.mem a = readWord p.mem a

/-- Every word of memory outside a run of words from `base` on reads as before. -/
def memoryKeptBut (base count : Nat) (p q : Part) : Prop :=
  ∀ a, a < base ∨ base + count ≤ a → readWord q.mem a = readWord p.mem a

/-- The window table holds these bases, they are well placed (R57), the start profile load has ended (R72), no host
access waits and nothing holds the memory port, so that a host access that arrives now is taken now (R68). -/
def HostReady (b : Bases) (p : Part) : Prop :=
  p.bpu.windows = some b ∧ wellPlaced b = true ∧ p.bpu.load ≠ some .start ∧ p.bpu.hostQueue = [] ∧ p.bpu.port = none
    ∧ p.bpu.starvation < 64

/-- What the grant of the port to a host access does (R68): the starvation count rises if part work was waiting. -/
def granted (p : Part) : Part :=
  { p with bpu.starvation := if workReady p then p.bpu.starvation + 1 else p.bpu.starvation }

/-- A host write that passes has stored its word (R56). -/
def stored (address : Nat) (data : Word) (p : Part) : Part := { p with mem := writeWord p.mem address data }

/-- A command with this code has been taken (R175): the command number has risen, and the result shows PENDING. -/
def commandTaken (code : Nat) (p : Part) : Part :=
  { p with
    bpu.number := p.bpu.number + 1, bpu.result := .pending, bpu.inFlight := some code,
    bpu.dirty := insertGroup .result p.bpu.dirty }

/-- The part as a mailbox command's judgement finds it: the port granted, the code stored in mailbox word 0, and the
command taken. -/
def mailboxTaken (b : Bases) (code : Word) (p : Part) : Part :=
  commandTaken code.toNat (stored b.mailbox code (granted p))

/-- The result state has taken a final code (R176). -/
def resulted (code : ResultCode) (p : Part) : Part :=
  { p with bpu.result := code, bpu.dirty := insertGroup .result p.bpu.dirty }

/-- A timer of the part runs and has reached its limit. -/
def due (t : Option Timer) (p : Part) : Prop := ∃ u, t = some u ∧ expired u p = true

/-- The gate has no work that other units wait for: no charge, no refund and no pending refund (R31), so that serving
the gate changes nothing. -/
abbrev gateRests (p : Part) : Prop := p.rlu.charge = none ∧ p.rlu.refund = none ∧ p.rlu.pendingRefund = false

/-- Serving the gate changes nothing at this moment (R25, R31): it has no work, a cycle is in progress, which goes first,
or it stands in FAULT with no charge to answer. -/
abbrev gateStill (p : Part) : Prop :=
  gateRests p ∨ p.rlu.gate = .vaulting ∨ p.rlu.gate = .refunding ∨ p.rlu.gate = .fault ∧ p.rlu.charge = none

/-- A charge request is in flight (R28): a collect serves it, or it waits behind a refund. -/
abbrev chargeInFlight (p : Part) : Prop :=
  p.rlu.charge.isSome = true ∧ (p.rlu.gate = .vaulting ∨ p.rlu.gate = .refunding)

/-- The memory port carries a part read that nothing withdrew, and no host access waits (R68, R69). -/
def readAtPort (purpose : ReadPurpose) (p : Part) : Prop :=
  p.bpu.hostQueue = [] ∧ ∃ limit, p.bpu.port = some (.read { purpose, limit } false)

/-- The memory port carries the write of a group, and no host access waits (R66, R68). -/
def writeAtPort (g : Group) (record : Option Nat) (address : Nat) (words : List Word) (p : Part) : Prop :=
  p.bpu.hostQueue = [] ∧ p.bpu.port = some (.write g record address words)

/-- The part as the completion of a group write finds it (R66): its words are in memory and the port is free. -/
def writtenAt (address : Nat) (words : List Word) (p : Part) : Part :=
  { p with bpu.port := none, mem := writeWords p.mem address words }

/-- No host access waits for the port: none is there, or the one presented is a write held for the start profile load
(R68, R72). -/
def noneWaits (p : Part) : Prop :=
  p.bpu.hostQueue = []
    ∨ p.bpu.load = some .start ∧ ∃ target data rest, p.bpu.hostQueue = .write target data :: rest

/-- What the flash's ready output shows at a grant (R69): busy, or ready, which has the reads set aside rejoin. -/
def flashShows (busy : Bool) (p : Part) : Part :=
  if busy then { p with pins.flashBusy := true }
  else { p with bpu.waiting := p.bpu.waiting ++ p.bpu.aside, bpu.aside := [], pins.flashBusy := false }

/-- The part is granted its run, the write of a group with its contents of this moment (R67, R68). -/
def writeBegun (g : Group) (p : Part) : Part :=
  { p with
    bpu.starvation := 0
    bpu.dirty := p.bpu.dirty.filter (· != g)
    bpu.port := some (.write g (groupRecord g p) ((baseOfKind (groupPlace g).1 p).getD 0 + (groupPlace g).2)
      (groupWords g p)) }

/-- The part is granted its run, the read that was requested first; the others go on waiting (R67, R68). -/
def readBegun (r : PartRead) (rest : List PartRead) (p : Part) : Part :=
  { p with bpu.starvation := 0, bpu.waiting := rest, bpu.port := some (.read r false) }

/-- A run of words is in memory, and no other word has changed. -/
def wordsInMemory (address : Nat) (words : List Word) (p q : Part) : Prop :=
  (∀ i, i < words.length → readWord q.mem (address + i) = wordAt words i)
    ∧ memoryKeptBut address words.length p q

/-- The end of a scrub turn (R48): the position advances, with the pass number at its wrap, and 500 ms begin. -/
def turnEnded (p : Part) : Part :=
  { p with
    cau.turn := none
    cau.pass := if p.cau.position = 0 then p.cau.pass + 1 else p.cau.pass
    cau.position := (p.cau.position + 1) % 5
    cau.scrub := some { start := p.tick, limit := 500 } }

/-- What a routing decision publishes (R10, R11): the coin event in S3, the counter of its route, and COIN. -/
def coinPublished (type value : Nat) (reason : Reason) (m : Measurement) (p q : Part) : Prop :=
  q.cu.event = { type, value, toRail := reason == .none, reason, d := m.d, a := m.a, t := m.t }
    ∧ q.cu.accepted = (if reason = .none then p.cu.accepted + 1 else p.cu.accepted)
    ∧ q.cu.returned = (if reason = .none then p.cu.returned else p.cu.returned + 1)
    ∧ Group.status 3 ∈ q.bpu.dirty ∧ Group.status 4 ∈ q.bpu.dirty ∧ q.bpu.causes.getLsbD 3 = true

/-- The reject window after one more outcome keeps REJECT_BURST as it is: the condition is clear, and fewer than 12
rejects stand in the window (R13). -/
def windowCalm (e : Measured) (p : Part) : Prop :=
  isActive .rejectBurst p = false
    ∧ transitCount (joinWindow e p.cu.window) + noMatchCount (joinWindow e p.cu.window) < 12

/-- REJECT_BURST after the window has become this one (R13): 12 rejects raise it while it is clear, with 100 times the
TRANSIT entries plus the NO_MATCH entries, and 4 or fewer clear it. -/
def burstJudged (window : List Measured) (p : Part) : Part :=
  let rejects := transitCount window + noMatchCount window
  if 12 ≤ rejects ∧ isActive .rejectBurst p = false then
    raise .rejectBurst (100 * transitCount window + noMatchCount window) p
  else if rejects ≤ 4 then clear .rejectBurst p
  else p

/-- The vault conditions that a vault count of n raises at a threshold it stands at (R53): each that is not active, with
n as its detail, VAULT_NEAR_FULL first (the model's choice, log entry 50). -/
def thresholdsRaised (near full : Bool) (n : Nat) (p : Part) : Part :=
  let q := if near = true ∧ isActive .vaultNearFull p = false then raise .vaultNearFull n p else p
  if full = true ∧ isActive .vaultFull p = false then raise .vaultFull n q else q

/-- The low-credit flag after a change to banked credit or rail value (R106): a set flag is cleared where the call is
being charged and the credit on hand is s or more, and a clear one stays clear. -/
def lowKept (p q : Part) : Bool :=
  p.cc.low && (p.rtu.timing.state == .idle || decide (creditOnHand q < chargeStep q))

/-- The credit on hand has been examined after the answer to a charge request (R106): the flag is set just where the
credit is less than s, a change of it marks S1, and LOW_CREDIT is set where that took it from clear to set. -/
def creditExamined (before : Bool) (p q : Part) : Prop :=
  q.cc.low = decide (creditOnHand q < chargeStep q) ∧ (q.cc.low ≠ before → Group.status 1 ∈ q.bpu.dirty)
    ∧ q.bpu.causes.getLsbD 2 = (p.bpu.causes.getLsbD 2 || (q.cc.low && !before))

/-- The reason of the first condition of R6 that fails, from the top of its table; NONE where all hold. -/
def firstFailing (v : Nat) (p : Part) : Reason :=
  if p.cc.off = false then .onHook
  else if p.rlu.gate = .fault then .gateFault
  else if p.cau.capacity.getD 0 ≤ p.cau.money.vaultCount + p.rlu.rail.length then .vault
  else if p.cru.restriction ≠ .full then .refused
  else if 8 ≤ p.rlu.rail.length then .railFull
  else if 9999 < p.rlu.banked + railValue p + v then .cap
  else .none

/-- The CC holds this placed call, and it has not ended (R134). -/
abbrev callHeld (c : PlacedCall) (p : Part) : Prop :=
  p.cc.placed = some c ∧ (p.cc.call = .placing ∨ p.cc.call = .talking ∨ p.cc.call = .grace)

/-- A customer call stands (R134): placed, in PLACING, TALKING or GRACE, with no charge in flight and no settlement
waiting, after the account start load. A refund of an earlier hang-up may be running or stopped. -/
abbrev callStands (c : PlacedCall) (p : Part) : Prop :=
  callHeld c p ∧ p.rlu.charge = none ∧ gateStill p ∧ p.rlu.settlementDue = false ∧ p.cau.load = .ended

/-- The CALL record of a call that ends now (R144). -/
def recordNow (o : CallOutcome) (c : PlacedCall) (p : Part) : CallRecord :=
  { outcome := o, cls := c.cls, index := c.index, digits := c.digits, startTime := c.startTime,
    answered := c.answer.map fun a => (min 65535 ((p.tick - a.tick).toNat / 1000), a.band), steps := p.cc.steps,
    charged := p.cc.charged, collected := c.collected, toRefund := 0 }

/-- The CALL record of a call whose ending waited, with the outcome and the tick that were kept (R142, R144). -/
def recordKept (e : EndingMark) (c : PlacedCall) (p : Part) : CallRecord :=
  recordNow e.outcome c { p with tick := e.tick }

/-- The call's cache entry is unlocked (R89): a stale one becomes invalid, and the valid entries older than it become
younger by one; every other entry stays as it is. A call without an entry leaves the cache alone. -/
def cacheUnlocked (c : PlacedCall) (p q : Part) : Prop :=
  (c.entry = none → q.rtu.cache = p.rtu.cache)
    ∧ (∀ (i : Nat) (e : CacheEntry), c.entry = some i → p.rtu.cache[i]? = some e →
        q.rtu.cache.length = p.rtu.cache.length
        ∧ (e.stale = false → q.rtu.cache[i]? = some { e with locked := false })
        ∧ (e.stale = true → e.valid = true → q.rtu.cache[i]? = some CacheEntry.invalid)
        ∧ (∀ (j : Nat) (x : CacheEntry), j ≠ i → p.rtu.cache[j]? = some x → q.rtu.cache[j]? =
            some (if e.stale && e.valid && x.valid && decide (e.age < x.age) then { x with age := x.age - 1 } else x)))

/-- A call's ending is complete with this record (R142, R144): the call state is IDLE or, with the handset off its hook,
COLLECTING with no digits; charging has stopped; the record is appended, or counted as lost; the counts have risen; the
cache entry is unlocked and no seize waits. -/
def callClosed (r : CallRecord) (c : PlacedCall) (p q : Part) : Prop :=
  q.cc.call = (if p.cc.off then .collecting else .idle) ∧ q.cc.placed = none
    ∧ (p.cc.off = true → q.cc.digits = [] ∧ q.cc.ignored = 0) ∧ q.rtu.timing.state = .idle
    ∧ (p.cc.heldCount < 64 → (p.cc.producer, RingRecord.call r) ∈ q.cc.records
        ∧ q.cc.producer = (p.cc.producer + 1) % 64 ∧ q.cc.heldCount = p.cc.heldCount + 1 ∧ q.cc.lost = p.cc.lost)
    ∧ (64 ≤ p.cc.heldCount → q.cc.records = p.cc.records ∧ q.cc.heldCount = p.cc.heldCount
        ∧ q.cc.lost = min 65535 (p.cc.lost + 1))
    ∧ q.cau.calls =
      { p.cau.calls with
        attempts := p.cau.calls.attempts + 1
        answered := if c.answer.isSome then p.cau.calls.answered + 1 else p.cau.calls.answered
        free := if c.cls = .freeClass then p.cau.calls.free + 1 else p.cau.calls.free
        cut := if r.outcome = .creditExhausted then p.cau.calls.cut + 1 else p.cau.calls.cut }
    ∧ cacheUnlocked c p q ∧ q.lu.waitingSeize = none ∧ q.mem = p.mem ∧ q.tick = p.tick

/-- The call has ended with this outcome and its ending is complete at once (R105, R141, R142): charging has stopped, and
the low-credit flag and the grace timer with it; the line is cleared; the money has not moved. -/
def callEnded (o : CallOutcome) (c : PlacedCall) (p q : Part) : Prop :=
  callClosed (recordNow o c p) c p q ∧ q.cc.grace = none
    ∧ (p.rtu.timing.state = .idle → q.cc.low = p.cc.low)
    ∧ (p.rtu.timing.state ≠ .idle → q.cc.low = false ∧ Group.status 1 ∈ q.bpu.dirty)
    ∧ q.cau.money = p.cau.money ∧ q.cau.types = p.cau.types ∧ q.rlu = p.rlu ∧ q.cu = p.cu
    ∧ (p.lu.owner = .customer → q.lu.line = .clearing ∧ q.lu.owner = .none)

/-- The call has met an ending event while its charge is in flight (R105, R141, R142): it is in ENDING with the outcome
and the tick of the event kept, the step timing is IDLE with a due step of HELD discarded, the grace timer is stopped
and the low-credit flag clear; nothing is recorded, counted or booked yet. -/
def callEnding (o : CallOutcome) (c : PlacedCall) (p q : Part) : Prop :=
  q.cc = { p.cc with
      call := .ending, placed := some { c with ending := some { outcome := o, tick := p.tick } }
      grace := none, graceOver := false, noted := false, owed := 0
      low := p.cc.low && p.rtu.timing.state == .idle }
    ∧ q.rtu = { p.rtu with timing := { p.rtu.timing with state := .idle } }
    ∧ (p.rtu.timing.state ≠ .idle → Group.status 1 ∈ q.bpu.dirty ∧ Group.status 2 ∈ q.bpu.dirty)
    ∧ Group.status 0 ∈ q.bpu.dirty ∧ q.cau = p.cau ∧ q.cu = p.cu ∧ q.cru = p.cru ∧ q.mem = p.mem ∧ q.tick = p.tick

/-- The LU has ended a call by itself (R108, R129): the loop is open, the owner NONE, and CLEARING begins. -/
def lineCleared (p q : Part) : Prop :=
  q.lu.line = .clearing ∧ q.lu.owner = .none ∧ q.lu.clearing = some { start := p.tick, limit := 1000 }
    ∧ q.lu.sender.phase = .idle ∧ q.lu.reference = none ∧ q.lu.copy = none

/-- DIAL has been answered with a code other than PLACED (R138): the call is back in COLLECTING with its digits, and no
coin, no money and no call has moved. -/
def dialRefused (code : ResultCode) (p q : Part) : Prop :=
  q.bpu.result = code ∧ q.cc.call = .collecting ∧ q.cc.digits = p.cc.digits ∧ q.cc.placed = p.cc.placed
    ∧ q.rlu = p.rlu ∧ q.cau = p.cau ∧ q.cu = p.cu ∧ q.mem = p.mem

/-- DIAL has been answered PLACED (R89, R138): the call is PLACING with this class, index and entry, no step is started,
its entry of the cache is locked, the line is asked for, and no money has moved. -/
def callPlaced (cls : CallClass) (index : Nat) (entry : Option Nat) (cache : List CacheEntry) (p q : Part) : Prop :=
  q.bpu.result = .placed ∧ q.cc.call = .placing
    ∧ q.cc.placed = some { cls, index, entry, digits := p.cc.digits, startTime := p.rtu.clock, answer := none,
                           collected := 0, ending := none }
    ∧ q.cc.cls = cls ∧ q.cc.digits = p.cc.digits ∧ q.cc.steps = 0 ∧ q.cc.charged = 0 ∧ q.rtu.timing.state = .idle
    ∧ q.rtu.cache = (match entry with
      | some i => cache.set i { cache.getD i CacheEntry.invalid with locked := true }
      | none => cache)
    ∧ q.lu = (askCustomerSeize p.cc.digits p).lu ∧ Group.status 2 ∈ q.bpu.dirty
    ∧ q.rlu = p.rlu ∧ q.cau = p.cau ∧ q.cu = p.cu

/-- Banked credit has been forfeited (R32): MONEY moves it, and with none it stays as it is; TYPE COUNTS stay. -/
def bankedForfeited (p q : Part) : Prop :=
  q.cau.money = (if p.rlu.banked = 0 then p.cau.money else { p.cau.money with
      forfeited := p.cau.money.forfeited + BitVec.ofNat 32 p.rlu.banked
      banked := p.cau.money.banked - p.rlu.banked })
    ∧ q.cau.types = p.cau.types

/-- A hang-up has been settled with no other gate work (R32, R33): banked credit is forfeited, and at HOLD a refund of
every coin on the rail begins on the head coin, or ends at once with none; in FAULT it is pending. -/
def moneySettled (p q : Part) : Prop :=
  bankedForfeited p q
    ∧ (p.rlu.gate = .fault → q.rlu = { p.rlu with banked := 0, pendingRefund := true, settlementDue := false })
    ∧ (p.rlu.gate = .hold → p.rlu.rail = [] → q.rlu = { p.rlu with banked := 0, settlementDue := false })
    ∧ (p.rlu.gate = .hold → p.rlu.rail ≠ [] → q.rlu = { p.rlu with
        banked := 0, settlementDue := false, refund := some p.rlu.rail.length, gate := .refunding
        cycle := some { start := p.tick, limit := 400 } })

/-- The line is granted (R109, R112, R113): the loop closes, SEIZING is entered with a copy of the settings, and the 500
ms and 3,000 ms limits begin. -/
def seized (owner : Owner) (number : List Nat) (p : Part) : Part :=
  { p with
    lu.line := .seizing
    lu.owner := owner
    lu.waitingSeize := none
    lu.copy := p.lu.settings
    lu.number := number
    lu.clearing := none
    lu.voltWatch := none
    lu.loopLimit := some { start := p.tick, limit := 500 }
    lu.searchLimit := some { start := p.tick, limit := 3000 }
    bpu.dirty := insertGroup (.status 0) p.bpu.dirty }

/-- The classifier after a period of so many dwells of one kind, all at one tick (R121). -/
def hears (on : Bool) (now : Tick) : Nat → Classifier → Classifier
  | 0, c => c
  | n + 1, c => classify on now (hears on now n c)

/-- The line is IDLE, no seize waits, the handset rests, the settings are in force and no loop current shows, so that a
report call or a probe is granted and waits in SEIZING (R109). -/
def lineOpen (p : Part) : Prop :=
  p.lu.line = .idle ∧ p.lu.waitingSeize = none ∧ p.cc.off = false ∧ p.lu.settings.isSome = true ∧ p.pins.loop = none

/-- The record that was being sent, if any, is QUEUED again in its place (R171, R173). -/
def recordRequeued (p q : Part) : Prop :=
  (p.cru.queue.find? (·.sending) = none → q.cru.queue = p.cru.queue)
    ∧ (∀ r, p.cru.queue.find? (·.sending) = some r → q.cru.queue = p.cru.queue.map fun x =>
        if x.slot = r.slot then { x with sending := false, sent := none, updated := false, firstMerge := none } else x)

/-- The backoff of a failure count, in milliseconds (R173). -/
def backoffAfter : Nat → Nat
  | 0 => 0
  | 1 => 60000
  | 2 => 120000
  | 3 => 240000
  | 4 => 480000
  | 5 => 960000
  | _ => 1920000

/-- A report call has ended as a failure (R171, R173): the record that was being sent is QUEUED again in its place with
its sequence, count and attempts, the failure count has risen, and backoff runs for its time. -/
def reportFailed (p q : Part) : Prop :=
  q.cru.report = none ∧ q.cru.failures = min 255 (p.cru.failures + 1)
    ∧ q.cru.backoff = some { start := p.tick, limit := backoffAfter q.cru.failures }
    ∧ Group.status 4 ∈ q.bpu.dirty ∧ q.cru.sequence = p.cru.sequence
    ∧ recordRequeued p q

/-- A limit of a seize has run out (R113, R117): the loop limit, which ends it with NO_LOOP, or the search limit, which
ends it with NO_DIALTONE. The number is the detail that a third failure of the kind gives LINE_DOWN (R129). -/
def seizeEnds (command : Instr) (detail : Nat) (p : Part) : Prop :=
  command = .loopLimitExpiry ∧ detail = 2 ∧ due p.lu.loopLimit p
    ∨ command = .searchLimitExpiry ∧ detail = 3 ∧ due p.lu.searchLimit p

/-- A customer's or a report call's seize has failed (R129, R131): the count has risen, or at the third failure is 0 and
LINE_DOWN is raised, and the raise that makes it active starts the 300 s probe timer. -/
def seizeFailed (detail : Nat) (p q : Part) : Prop :=
  let third := decide (2 ≤ p.lu.failedSeizes)
  q.lu.failedSeizes = (if third then 0 else p.lu.failedSeizes + 1)
    ∧ q.cru.rows = (if third then (raise .lineDown detail p).cru.rows else p.cru.rows)
    ∧ q.lu.probe = (if third ∧ isActive .lineDown p = false then some { start := p.tick, limit := 300000 } else p.lu.probe)

/-- A probe has found no loop current or no dial tone (R129, R131): the line is cleared, the count and the conditions
stay, and with LINE_DOWN active the 300 s probe timer starts again. -/
def probeFailed (p q : Part) : Prop :=
  q.lu.line = .clearing ∧ q.lu.owner = .none ∧ q.lu.clearing = some { start := p.tick, limit := 1000 }
    ∧ q.lu.failedSeizes = p.lu.failedSeizes ∧ q.cru = p.cru
    ∧ q.lu.probe = (if isActive .lineDown p then some { start := p.tick, limit := 300000 } else p.lu.probe)
    ∧ q.cc = p.cc ∧ q.rlu = p.rlu ∧ q.cau = p.cau ∧ q.mem = p.mem

/-- Every setting of a good profile but the bases is in force (R72, R73), the nominals at the profile's (R4). -/
def profileInForce (f : Profile) (q : Part) : Prop :=
  q.cau.vc = some f.vc ∧ q.rtu.freeList = f.free ∧ q.rtu.calendar = some f.calendar
    ∧ q.rtu.steps = some (f.step, f.graceTime) ∧ q.lu.settings = some f.line ∧ q.cru.number = some f.number
    ∧ q.cru.identity = some f.identity
    ∧ q.cu.table = some { slots := f.coins.map (fun c => { type := c, d := c.dp, a := c.ap }), tmin := f.tmin,
                          tmax := f.tmax, cluster := f.cluster }

/-- The end of the start profile load, good or bad (R45, R66, R72, R84, R145): the load is over, the publication is
marked, the START record is appended, the account load has begun and the start verification with it. -/
def startLoadEnded (p q : Part) : Prop :=
  q.bpu.load = none ∧ q.bpu.port = none ∧ q.bpu.profileWords = [] ∧ Group.result ∈ q.bpu.dirty
    ∧ (∀ k, k < 8 → Group.status k ∈ q.bpu.dirty ∧ Group.report k ∈ q.bpu.dirty)
    ∧ (p.cc.heldCount < 64 → (p.cc.producer, RingRecord.start p.started p.rtu.clock) ∈ q.cc.records
        ∧ q.cc.heldCount = p.cc.heldCount + 1)
    ∧ q.cau.load = .reading 0 ∧ q.rtu.engine = .verify ∧ q.rtu.verifyDue = false
    ∧ (let slotZero : PartRead := { purpose := .startLoad 0 0, limit := none }
       let header : PartRead := { purpose := .scanHeader, limit := none }
       q.bpu.waiting = p.bpu.waiting ++ [slotZero, header] ∨ q.bpu.waiting = p.bpu.waiting ++ [header, slotZero])
    ∧ q.rlu = p.rlu ∧ q.cau.money = p.cau.money ∧ q.mem = p.mem ∧ q.tick = p.tick

/-- The start profile load has found a bad profile with this detail (R71, R72): the built-in bases are installed,
PROFILE_BAD is raised, no setting of the profile comes into force, and the load is over. -/
def startLoadBad (detail : Nat) (p q : Part) : Prop :=
  q.bpu.windows = some builtInBases ∧ q.cru.rows = (raise .profileBad detail p).cru.rows ∧ q.cu.table = p.cu.table
    ∧ q.cau.vc = p.cau.vc ∧ q.rtu.freeList = p.rtu.freeList ∧ q.rtu.calendar = p.rtu.calendar
    ∧ q.rtu.steps = p.rtu.steps ∧ q.lu.settings = p.lu.settings ∧ q.cru.number = p.cru.number
    ∧ q.cru.identity = p.cru.identity ∧ startLoadEnded p q

/-- A charge has been answered CHARGED (R101): the step is started and paid, and the call's figures have risen. -/
def stepPaid (a : Nat) (p q : Part) : Prop :=
  q.cc.paid = true ∧ q.cc.steps = p.cc.steps + 1 ∧ q.cc.charged = p.cc.charged + a

/-- A charge has been answered SHORT in TALKING (R102): the call is in GRACE, its timer runs for the grace time in
force, and the amount is owed. -/
def graceEntered (a : Nat) (p q : Part) : Prop :=
  q.cc.call = .grace ∧ q.cc.grace = some { start := p.tick, limit := graceTime p } ∧ q.cc.owed = a
    ∧ q.cc.graceOver = false ∧ q.cc.noted = false ∧ q.cc.steps = p.cc.steps ∧ q.cc.charged = p.cc.charged

/-- R66: what a start leaves of memory. Of a group write in progress some first words have been written; every other
word reads as before. -/
def startMemory (p q : Part) : Prop :=
  match p.bpu.port with
  | some (.write _ _ address words) => ∃ n, n ≤ words.length
      ∧ (∀ i, i < n → readWord q.mem (address + i) = wordAt words i) ∧ memoryKeptBut address n p q
  | some (.read _ _) => memoryKept p q
  | none => memoryKept p q

/-! ## What holds at every moment -/

/-- R186: the attention line is asserted exactly while a cause is both set and enabled. -/
def attentionFollows (p : Part) : Prop := p.bpu.attention = lineFor p.bpu.causes p.bpu.enable

/-- R155: the restriction is the highest level among the active conditions and service mode. -/
def restrictionHolds (p : Part) : Prop := p.cru.restriction = derivedRestriction p

/-- R94: the band in force is the calendar's for the wall clock. -/
def bandHolds (p : Part) : Prop := p.rtu.band = bandOf p.rtu.calendar p.rtu.clock

/-- The words behind the port and the reject map stand in their canonical form. -/
def memoryCanonical (p : Part) : Prop := Memory.wf p.mem = true ∧ Memory.wf p.cu.rejects = true

/-- R18: at most 8 coins on the rail, and banked credit plus rail value at most 9,999. -/
def creditWithin (p : Part) : Prop := p.rlu.rail.length ≤ 8 ∧ p.rlu.banked + railValue p ≤ 9999

/-- R145: the producer index stands as many slots after the consumer index as are held. -/
def callRingWhole (p : Part) : Prop :=
  p.cc.consumer < 64 ∧ p.cc.heldCount ≤ 64 ∧ p.cc.producer = (p.cc.consumer + p.cc.heldCount) % 64

/-- R161, R162: at most 8 report records, no two of one kind, each in a slot of its own. -/
def reportQueueSound (p : Part) : Prop :=
  p.cru.queue.length ≤ 8 ∧ (∀ r ∈ p.cru.queue, r.slot < 8) ∧ (p.cru.queue.map (·.slot)).Nodup
    ∧ (p.cru.queue.map (·.kind)).Nodup

/-- The order of a start (R36, R45): while the start profile load runs, the account start load and the start-up dump
have not begun; the dump begins when the account start load has ended. -/
def startOrder (p : Part) : Prop :=
  (p.bpu.load = some .start → p.cau.load = .waiting ∧ p.rlu.dump = .waiting)
    ∧ (p.cau.load = .ended ∨ p.rlu.dump = .waiting)

/-- R43, first equality: accepted equals refunded + collected + suspense + rail value, modulo 2^32. -/
def acceptedBalances (p : Part) : Prop :=
  p.cau.money.accepted = p.cau.money.refunded + p.cau.money.collected + p.cau.money.suspense
    + BitVec.ofNat 32 (railValue p)

/-- R43, second equality: collected equals charged + forfeited + banked, modulo 2^32. -/
def collectedBalances (p : Part) : Prop :=
  p.cau.money.collected = p.cau.money.charged + p.cau.money.forfeited + BitVec.ofNat 32 p.cau.money.banked

/-- R27: MONEY keeps banked credit with the RLU's value. -/
def bankedAgrees (p : Part) : Prop := p.cau.money.banked = p.rlu.banked

/-- A group that the part can have (R66): slots 0 to 8 of the account, S0 to S7, 8 report-ring slots, 64 call-ring slots
and 256 cells. -/
def groupFits : Group → Prop
  | .account i => i < 9
  | .result => True
  | .status k => k < 8
  | .report i => i < 8
  | .call i => i < 64
  | .cell i => i < 256

/-- R67: the dirty groups stand in the order in which the part writes them, each once. -/
def dirtyOrdered (dirty : List Group) : Prop := dirty.Pairwise fun g h => groupRank g < groupRank h

/-! ## Figures that claims compute -/

/-- The entries of a list of ticks that are younger than a limit, with the tick now behind them; when a 33rd joins, the
oldest leaves (R133, R154). -/
def ticksWith (limit : Nat) (ticks : List Tick) (p : Part) : List Tick :=
  let kept := ticks.filter (fun x => decide (elapsed x p < limit)) ++ [p.tick]
  kept.drop (kept.length - 32)

/-- The window words of records, each a key word, its length and its data (R70). -/
def profileImage : List (Word × List Word) → List Word
  | [] => []
  | (key, data) :: rest => key :: BitVec.ofNat 16 data.length :: data ++ profileImage rest

/-- The digit list and the ignored-digit count after a dial word in COLLECTING (R136). -/
def digitsAfter (value : Nat) (digits : List Nat) (ignored : Nat) : List Nat × Nat :=
  if value ≤ 15 then (if digits.length < 20 then (digits ++ [value], ignored) else (digits, min 255 (ignored + 1)))
  else if value = 0xFE then ([], 0)
  else if value = 0xFF then (digits.dropLast, ignored)
  else (digits, ignored)

/-- The slots that a written consumer index frees (R146). -/
def freed (v c h : Nat) : Nat := if (v + 64 - c) % 64 = 0 ∧ h = 64 then 64 else (v + 64 - c) % 64

/-- The part after a write has been suppressed and offered to the capture record (R63, R64): an unlocked capture is
filled and sets CAPTURE, a locked one counts. -/
def suppressed (a : Addr) (d : Word) (k : WindowKind) (p : Part) : Part :=
  if p.bpu.capture.locked then
    { p with
      bpu.refused := min 65535 (p.bpu.refused + 1)
      bpu.capture := { p.bpu.capture with further := min 65535 (p.bpu.capture.further + 1) }
      bpu.dirty := insertGroup (.status 5) (insertGroup (.status 4) p.bpu.dirty) }
  else
    { p with
      bpu.refused := min 65535 (p.bpu.refused + 1)
      bpu.capture :=
        { locked := true, empty := false, address := a, data := d, kind := some k, tick := p.tick, further := 0 }
      bpu.causes := p.bpu.causes ||| 0x80
      bpu.attention := lineFor (p.bpu.causes ||| 0x80) p.bpu.enable
      bpu.dirty := insertGroup (.status 0) (insertGroup (.status 5) (insertGroup (.status 4) p.bpu.dirty)) }

/-- The durations of the next `k` steps of one band, added up, with the remainder that the last one carries out (R96).
-/
def runSteps (s r : Nat) : Nat → Nat → Nat × Nat
  | 0, e => (0, e)
  | k + 1, e =>
    let (d, e') := stepDuration s r e
    let (total, last) := runSteps s r k e'
    (d + total, last)

/-- The best match after a run of table entries, taken in order from index `i` on (R79). -/
def bestOf (number : List Nat) : Nat → List TariffEntry → Option (Nat × TariffEntry) → Option (Nat × TariffEntry)
  | _, [], best => best
  | i, e :: es, best => bestOf number (i + 1) es (betterMatch number i e best)

/-- The distance of a measurement from a type's adaptive nominals (R3). -/
def nominalDistance (m : Measurement) (c : CoinSlot) : Nat := distance m.d.toNat c.d + distance m.a.toNat c.a

/-- A measurement matches a type (R3): each of |D − Dk| and |A − Ak| is within the type's tolerance. -/
def withinTolerance (m : Measurement) (c : CoinSlot) : Prop :=
  distance m.d.toNat c.d ≤ c.type.dd ∧ distance m.a.toNat c.a ≤ c.type.da

/-- A wall time that the clock can show (R92): a day of 0 to 6 and a second of day below 86,400, or UNSET. -/
def validWall : WallTime → Prop
  | none => True
  | some (day, second) => day ≤ 6 ∧ second < 86400

/-- A list of digit codes filled with code 0 to a number of positions. -/
def padded (n : Nat) (ds : List Nat) : List Nat := ds ++ List.replicate (n - ds.length) 0

/-- Every figure of MONEY fits its word, and every rail type its digit position (R41). -/
def moneyFits (m : Money) : Prop :=
  m.banked < 65536 ∧ m.vaultCount < 65536 ∧ m.railCount < 65536 ∧ m.unbooked < 65536 ∧ m.railTypes.length ≤ 8
    ∧ ∀ k ∈ m.railTypes, k < 16

/-! ## What published words show (R188, R189; spec/12_record_and_frame_layouts.md) -/

/-- The words at these places are 0. -/
def zeroAt (places : List Nat) (ws : List Word) : Prop := ∀ i ∈ places, wordAt ws i = 0

/-- A wall time stands in words `i` and `i + 1`. -/
def wallAt (ws : List Word) (i : Nat) (t : WallTime) : Prop := wallOf (wordAt ws i) (wordAt ws (i + 1)) = t

/-- An optional wall time stands in words `i` and `i + 1`: 0xFFFF in both where it is absent. -/
def optionalWallAt (ws : List Word) (i : Nat) : Option WallTime → Prop
  | none => wordAt ws i = 0xFFFF ∧ wordAt ws (i + 1) = 0xFFFF
  | some t => wallAt ws i t

/-- An optional figure stands in word `i`: 0xFFFF where it is absent. -/
def optionalAt (ws : List Word) (i : Nat) : Option Nat → Prop
  | none => wordAt ws i = 0xFFFF
  | some n => (wordAt ws i).toNat = n

/-- A list of digit codes is packed in `n` words from word `i` on, filled with code 0. -/
def digitsAt (ws : List Word) (i n : Nat) (ds : List Nat) : Prop :=
  unpackDigits ((ws.drop i).take n) = padded (4 * n) ds

/-- S0: the change word; the ready bit (R1), restriction, service mode, profile-changed and hook; the call, line and
owner states. -/
def showsS0 (p : Part) (ws : List Word) : Prop :=
  let flags := wordAt ws 1
  ws.length = 4 ∧ wordAt ws 0 = p.bpu.causes.setWidth 16
    ∧ flags.getLsbD 0 = decide (p.bpu.load ≠ some .start ∧ p.rlu.dump = .ended)
    ∧ bits flags 1 2 = p.cru.restriction.level ∧ flags.getLsbD 3 = decide (p.cru.key = some true)
    ∧ flags.getLsbD 4 = p.bpu.profileChanged ∧ flags.getLsbD 5 = p.cc.off ∧ bits flags 6 10 = 0
    ∧ bits (wordAt ws 2) 0 4 = p.cc.call.code ∧ bits (wordAt ws 2) 4 4 = p.lu.line.code
    ∧ bits (wordAt ws 2) 8 2 = p.lu.owner.code ∧ bits (wordAt ws 2) 10 6 = 0 ∧ wordAt ws 3 = 0

/-- S1: banked credit, rail value, credit on hand (R19); rail count, gate state and low credit; the rail types. -/
def showsS1 (p : Part) (ws : List Word) : Prop :=
  let w := wordAt ws 3
  ws.length = 6 ∧ (wordAt ws 0).toNat = p.rlu.banked ∧ (wordAt ws 1).toNat = railValue p
    ∧ (wordAt ws 2).toNat = creditOnHand p ∧ bits w 0 4 = p.rlu.rail.length ∧ bits w 4 2 = p.rlu.gate.code
    ∧ w.getLsbD 6 = p.cc.low ∧ bits w 7 9 = 0 ∧ digitsAt ws 4 2 (p.rlu.rail.map (·.type))

/-- S2 (R107): class, timing state and band, the current step's or with the timing IDLE the one in force; the digits;
step index, end tick (absent unless RUNNING), steps affordable, charged so far. -/
def showsS2 (p : Part) (ws : List Word) : Prop :=
  let t := p.rtu.timing
  let w := wordAt ws 0
  ws.length = 14 ∧ bits w 0 3 = p.cc.cls.code ∧ bits w 4 2 = t.state.code
    ∧ bits w 8 2 = (if t.state = .idle then p.rtu.band else t.band) ∧ bits w 3 1 = 0 ∧ bits w 6 2 = 0 ∧ bits w 10 6 = 0
    ∧ bits (wordAt ws 1) 0 5 = p.cc.digits.length ∧ bits (wordAt ws 1) 5 3 = 0
    ∧ bits (wordAt ws 1) 8 8 = p.cc.ignored ∧ digitsAt ws 2 5 p.cc.digits ∧ totalAt ws 7 = t.index
    ∧ (t.state = .running → totalAt ws 9 = t.finish)
    ∧ (t.state ≠ .running → wordAt ws 9 = 0xFFFF ∧ wordAt ws 10 = 0xFFFF)
    ∧ (wordAt ws 11).toNat = (if chargeStep p = 0 then 0 else creditOnHand p / chargeStep p)
    ∧ totalAt ws 12 = BitVec.ofNat 32 p.cc.charged

/-- S3: the coin event (R10). -/
def showsS3 (e : CoinEvent) (ws : List Word) : Prop :=
  let w := wordAt ws 0
  ws.length = 5 ∧ bits w 0 4 = e.type ∧ w.getLsbD 4 = e.toRail ∧ bits w 5 3 = 0 ∧ bits w 8 4 = e.reason.code
    ∧ bits w 12 4 = 0 ∧ (wordAt ws 1).toNat = e.value ∧ wordAt ws 2 = e.d ∧ wordAt ws 3 = e.a ∧ wordAt ws 4 = e.t

/-- S4: the coin counters, refused writes, lost records, dropped reports, mismatch counts, faulted set, ring indices,
held count, failure count and backoff. -/
def showsS4 (p : Part) (ws : List Word) : Prop :=
  ws.length = 16 ∧ totalAt ws 0 = p.cu.accepted ∧ totalAt ws 2 = p.cu.returned
    ∧ (wordAt ws 4).toNat = p.bpu.refused ∧ (wordAt ws 5).toNat = p.cc.lost ∧ (wordAt ws 6).toNat = p.cru.dropped
    ∧ (∀ n, n < 5 → (wordAt ws (7 + n)).toNat = p.cau.mismatches.getD n 0)
    ∧ (∀ n, n < 16 → (wordAt ws 12).getLsbD n = decide (n ∈ p.cau.faulted))
    ∧ bits (wordAt ws 13) 0 6 = p.cc.producer ∧ bits (wordAt ws 13) 6 2 = 0
    ∧ bits (wordAt ws 13) 8 6 = p.cc.consumer ∧ bits (wordAt ws 13) 14 2 = 0 ∧ (wordAt ws 14).toNat = p.cc.heldCount
    ∧ bits (wordAt ws 15) 0 8 = p.cru.failures ∧ (wordAt ws 15).getLsbD 8 = p.cru.backoff.isSome
    ∧ bits (wordAt ws 15) 9 7 = 0

/-- S5: the capture record (R64). -/
def showsS5 (c : Capture) (ws : List Word) : Prop :=
  let w := wordAt ws 0
  ws.length = 7 ∧ w.getLsbD 0 = c.locked ∧ w.getLsbD 1 = c.empty ∧ bits w 2 6 = 0
    ∧ bits w 8 3 = (match c.kind with
      | some k => k.code
      | none => 0)
    ∧ bits w 11 5 = 0 ∧ totalAt ws 1 = c.address.setWidth 32 ∧ wordAt ws 3 = c.data ∧ totalAt ws 4 = c.tick
    ∧ (wordAt ws 6).toNat = c.further

/-- S6: the tick and the wall time. -/
def showsS6 (p : Part) (ws : List Word) : Prop :=
  ws.length = 4 ∧ totalAt ws 0 = p.tick ∧ wallAt ws 2 p.rtu.clock

/-- S7: the active set; for each kind its occurrence count and detail, and its last raise. -/
def showsS7 (rows : List ConditionRow) (ws : List Word) : Prop :=
  ws.length = 57 ∧ bits (wordAt ws 0) 14 2 = 0
    ∧ ∀ (i : Nat) (r : ConditionRow), rows[i]? = some r → (wordAt ws 0).getLsbD i = r.active
      ∧ (wordAt ws (1 + 2 * i)).toNat = r.count ∧ (wordAt ws (2 + 2 * i)).toNat = r.detail
      ∧ optionalWallAt ws (29 + 2 * i) r.last

/-- A CALL record in its ring slot (R144). -/
def showsCall (r : CallRecord) (ws : List Word) : Prop :=
  let w := wordAt ws 0
  ws.length = 24 ∧ bits w 0 4 = 1 ∧ bits w 4 4 = r.outcome.code ∧ bits w 8 3 = r.cls.code
    ∧ w.getLsbD 11 = r.answered.isSome ∧ bits w 12 4 = 0 ∧ (wordAt ws 1).toNat = r.index
    ∧ (wordAt ws 2).toNat = r.digits.length ∧ digitsAt ws 3 5 r.digits ∧ wallAt ws 8 r.startTime
    ∧ optionalAt ws 10 (r.answered.map (·.1)) ∧ optionalAt ws 11 (r.answered.map (·.2))
    ∧ totalAt ws 12 = BitVec.ofNat 32 r.steps ∧ totalAt ws 14 = BitVec.ofNat 32 r.charged
    ∧ (wordAt ws 16).toNat = r.collected ∧ (wordAt ws 17).toNat = r.toRefund ∧ zeroAt [18, 19, 20, 21, 22, 23] ws

/-- A COLLECTION record in its ring slot (R147). -/
def showsCollection (c : Collection) (ws : List Word) : Prop :=
  ws.length = 24 ∧ wordAt ws 0 = 2 ∧ totalAt ws 2 = c.value ∧ (wordAt ws 4).toNat = c.count ∧ wallAt ws 8 c.time
    ∧ zeroAt ([1, 5, 6, 7] ++ (List.range 14).map (· + 10)) ws

/-- A START record in its ring slot (R147). -/
def showsStart (kind : StartKind) (time : WallTime) (ws : List Word) : Prop :=
  ws.length = 24 ∧ wordAt ws 0 = (if kind = .line then 0x13 else 3) ∧ wallAt ws 8 time
    ∧ zeroAt ([1, 2, 3, 4, 5, 6, 7] ++ (List.range 14).map (· + 10)) ws

/-- A report record in its ring slot (R161). -/
def showsReport (r : ReportRecord) (ws : List Word) : Prop :=
  let w := wordAt ws 0
  ws.length = 16 ∧ bits w 0 4 = r.kind.code ∧ bits w 4 4 = 0 ∧ w.getLsbD 8 = r.kind.urgent ∧ w.getLsbD 9 = r.sending
    ∧ w.getLsbD 10 = r.updated ∧ bits w 11 5 = 0 ∧ totalAt ws 1 = r.sequence ∧ (wordAt ws 3).toNat = r.count
    ∧ wallAt ws 4 r.first ∧ wallAt ws 6 r.last ∧ (wordAt ws 8).toNat = r.detail ∧ (wordAt ws 9).toNat = r.attempts
    ∧ optionalAt ws 10 r.sent ∧ optionalWallAt ws 11 r.firstMerge ∧ zeroAt [13, 14, 15] ws

/-- The figures of S1 to S7 fit the fields that the layouts give them. -/
def statusFits (p : Part) : Prop :=
  creditWithin p ∧ (∀ c ∈ p.rlu.rail, c.type < 16) ∧ p.rtu.band < 4 ∧ p.rtu.timing.band < 4
    ∧ p.cc.digits.length ≤ 20 ∧ (∀ d ∈ p.cc.digits, d < 16) ∧ p.cc.ignored ≤ 255
    ∧ p.cu.event.type < 16 ∧ p.cu.event.value < 65536
    ∧ p.bpu.refused < 65536 ∧ p.cc.lost < 65536 ∧ p.cru.dropped < 65536 ∧ p.cau.mismatches.length = 5
    ∧ (∀ n ∈ p.cau.mismatches, n < 65536) ∧ (∀ n ∈ p.cau.faulted, n < 5) ∧ p.cc.producer < 64 ∧ p.cc.consumer < 64
    ∧ p.cc.heldCount ≤ 64 ∧ p.cru.failures ≤ 255 ∧ p.bpu.capture.further < 65536 ∧ validWall p.rtu.clock
    ∧ p.cru.rows.length = 14
    ∧ ∀ r ∈ p.cru.rows, r.count ≤ 255 ∧ r.detail < 65536 ∧ ∀ t, r.last = some t → validWall t

/-- The figures of a CALL record fit their fields. -/
def callFits (r : CallRecord) : Prop :=
  r.index < 65536 ∧ r.digits.length ≤ 20 ∧ (∀ d ∈ r.digits, d < 16) ∧ validWall r.startTime
    ∧ (∀ a, r.answered = some a → a.1 < 65536 ∧ a.2 < 65536) ∧ r.collected < 65536 ∧ r.toRefund < 65536

/-- The figures of a report record fit their fields. -/
def reportFits (r : ReportRecord) : Prop :=
  r.count < 65536 ∧ validWall r.first ∧ validWall r.last ∧ r.detail < 65536 ∧ r.attempts < 65536
    ∧ (∀ n, r.sent = some n → n < 65536) ∧ ∀ t, r.firstMerge = some t → validWall t

/-- The ages of the valid entries of the cache, in the order of the entries. -/
def validAges (cache : List CacheEntry) : List Nat := (cache.filter (·.valid)).map (·.age)

/-- R88: the ages of the valid entries are all different and run from 0 to one less than their number. -/
def agesDense (cache : List CacheEntry) : Prop := (validAges cache).Perm (List.range (validAges cache).length)

end Sys2Proof.Machine
end

