-- ==== Sys2Proof/Certificates/Slice0/Obligations.lean ====
section
/-!
DEFINITION. The statements for the provers. Each is about `exec`, `step` or an operation of the part, over every state
that meets its hypotheses. Where a statement rests on a choice of the model and not on a rule, its docstring names the
log entry.
-/

section
open Sys2Proof Sys2Proof.Machine

/-! ## The machine -/

/-- A step takes the command at the front of the queue and runs it with the queue's rest. -/
def Obligations.StepTakesFront : Prop :=
  ∀ (c : Instr) (rest : List Instr) (s : State),
    step { s with pending := c :: rest } = exec c { s with pending := rest }

/-- On an empty queue a millisecond passes: the tick rises by one, the inputs are sampled, nothing else of the part
changes, and the commands of what falls due in it are queued, in some order (the model's choice, log entries 1 and 3).
-/
def Obligations.IdleStepPasses : Prop :=
  ∀ s : State, s.pending = [] → ∃ t, step s = .next t ∧ t.part.tick = s.part.tick + 1
    ∧ t.part = { s.part with tick := t.part.tick, samplers := t.part.samplers, free := t.part.free }
    ∧ t.part.samplers =
      { hook := sample s.part.pins.hookOff s.part.samplers.hook, door := sample s.part.pins.doorOpen s.part.samplers.door,
        key := sample s.part.pins.keyOn s.part.samplers.key, cord := sample s.part.pins.cordOpen s.part.samplers.cord,
        shock := sample s.part.pins.shockClosed s.part.samplers.shock,
        vaultBlocked := sample s.part.pins.vaultBlocked s.part.samplers.vaultBlocked,
        returnBlocked := sample s.part.pins.returnBlocked s.part.samplers.returnBlocked }
    ∧ t.pending.Perm (dueNow s.part t.part)

/-! ## Host accesses (R56 to R65, R72) -/

/-- HOST_PASS_WRITE (R56): a write to an address in no window, taken at a free port, stores its word and changes nothing
else but the starvation count of R68.
HOST_WRITE_HELD (R72): during the start profile load a host write to either chip is kept at the host bus port: it is
neither taken nor suppressed, and nothing else changes.
HOST_PASS_WRITE that finds a run on the port (R67, R68): it waits at the host bus port until the run has completed.
DIAL_WORD_WRITE in TALKING (R120, R140): the word passes to memory; a digit on a customer's connected tone line with
room in the queue of 16 and in-call digits allowed joins the queue, and is sent at once while the sender rests; any
other word changes nothing beyond memory. That a write to the flash stores its word like any other is the model's choice
(log entry 6). -/
def Obligations.PassWritesStoredOrHeld : Prop :=
  (∀ (b : Bases) (s : State) (a : Addr) (d : Word), HostReady b s.part → Memory.wf s.part.mem = true →
      windowAt a.toNat s.part = none →
      ∃ t, exec (.hostPassWrite a d) s = .next t ∧ readWord t.part.mem a.toNat = d
        ∧ memoryKeptBut a.toNat 1 s.part t.part
        ∧ t = { s with part := { s.part with mem := t.part.mem, bpu.starvation := (granted s.part).bpu.starvation } })
  ∧ (∀ (s : State) (a : Addr) (d : Word), s.part.bpu.load = some .start → s.part.bpu.hostQueue = [] →
      exec (.hostWriteHeld a d) s = .next { s with part := { s.part with
        bpu.hostQueue := [.write (.address a) d] } })
  ∧ (∀ (s : State) (a : Addr) (d : Word), s.part.bpu.load ≠ some .start → s.part.bpu.hostQueue = [] →
      s.part.bpu.port.isSome = true → windowAt a.toNat s.part = none →
      exec (.hostPassWrite a d) s = .next { s with part := { s.part with
        bpu.hostQueue := [.write (.address a) d] } })
  ∧ (∀ (b : Bases) (s : State) (v : Word), HostReady b s.part → Memory.wf s.part.mem = true →
      s.part.cc.call = .talking →
      ∃ t, exec (.dialWordWrite v) s = .next t ∧ readWord t.part.mem (b.mailbox + 6) = v
        ∧ memoryKeptBut (b.mailbox + 6) 1 s.part t.part
        ∧ t.part.cc = s.part.cc ∧ t.part.bpu.dirty = s.part.bpu.dirty
        ∧ (let taken : Prop := v.toNat ≤ 15 ∧ (s.part.lu.settings.map (·.inCall)) = some true ∧ s.part.lu.line = .connected
             ∧ s.part.lu.owner = .customer ∧ s.part.lu.inCall.length < 16 ∧ (s.part.lu.copy.map (·.pulse)) = some false
           (¬ taken → t.part.lu = s.part.lu)
           ∧ (taken → s.part.lu.sender.phase ≠ .idle →
             t.part.lu = { s.part.lu with inCall := s.part.lu.inCall ++ [v.toNat] })
           ∧ (taken → s.part.lu.sender.phase = .idle → s.part.lu.inCall = [] → t.part.lu = { s.part.lu with
             sender := { phase := .tone, symbol := v.toNat, breaks := 0, rest := []
                         timer := some { start := s.part.tick, limit := 80 } } }))
        ∧ t.part.rlu = s.part.rlu ∧ t.part.cau = s.part.cau ∧ t.part.rtu = s.part.rtu)

/-- ARGUMENT_WRITE (R58): a write to mailbox word 1, 2, 3 or 4 passes to memory, and its data becomes the copy kept for
that word alone. -/
def Obligations.ArgumentWriteCopies : Prop :=
  ∀ (b : Bases) (s : State) (n : Nat) (d : Word), HostReady b s.part → Memory.wf s.part.mem = true → 1 ≤ n → n ≤ 4 →
    ∃ t, exec (.argumentWrite n d) s = .next t ∧ readWord t.part.mem (b.mailbox + n) = d
      ∧ memoryKeptBut (b.mailbox + n) 1 s.part t.part
      ∧ t = { s with part := { s.part with
          mem := t.part.mem
          bpu.starvation := (granted s.part).bpu.starvation
          bpu.arg1 := if n = 1 then d else s.part.bpu.arg1
          bpu.arg2 := if n = 2 then d else s.part.bpu.arg2
          bpu.arg3 := if n = 3 then d else s.part.bpu.arg3
          bpu.arg4 := if n = 4 then d else s.part.bpu.arg4 } }

/-- DIAL_WORD_WRITE (R136): in COLLECTING the dial word appends, ignores, empties or erases, and a change marks S2; in
IDLE, RATING, PLACING, GRACE and ENDING it changes nothing beyond memory. -/
def Obligations.DialWordCollects : Prop :=
  ∀ (b : Bases) (s : State) (v : Word), HostReady b s.part → Memory.wf s.part.mem = true →
    s.part.cc.call ≠ .talking → s.part.cc.digits.length ≤ 20 → s.part.cc.ignored ≤ 255 →
    ∃ t after, exec (.dialWordWrite v) s = .next t ∧ readWord t.part.mem (b.mailbox + 6) = v
      ∧ memoryKeptBut (b.mailbox + 6) 1 s.part t.part
      ∧ after = (if s.part.cc.call = .collecting then
          digitsAfter v.toNat s.part.cc.digits s.part.cc.ignored else (s.part.cc.digits, s.part.cc.ignored))
      ∧ t = { s with part := { s.part with
          mem := t.part.mem
          bpu.starvation := (granted s.part).bpu.starvation
          bpu.dirty := if after = (s.part.cc.digits, s.part.cc.ignored) then s.part.bpu.dirty
            else insertGroup (.status 2) s.part.bpu.dirty
          cc.digits := after.1
          cc.ignored := after.2 } }

/-- CONSUMER_INDEX_WRITE (R146): the word passes to memory; if the index frees 1 to h slots, c becomes it, h falls and
S4 is marked dirty; otherwise c and h stay. -/
def Obligations.ConsumerIndexFrees : Prop :=
  ∀ (b : Bases) (s : State) (v : Word), HostReady b s.part → Memory.wf s.part.mem = true → v.toNat < 64 →
    ∃ t, exec (.consumerIndexWrite v) s = .next t ∧ readWord t.part.mem (b.mailbox + 7) = v
      ∧ memoryKeptBut (b.mailbox + 7) 1 s.part t.part
      ∧ (let f := freed v.toNat s.part.cc.consumer s.part.cc.heldCount
        t = { s with part :=
          if 1 ≤ f ∧ f ≤ s.part.cc.heldCount then
            { s.part with
              mem := t.part.mem
              bpu.starvation := (granted s.part).bpu.starvation
              bpu.dirty := insertGroup (.status 4) s.part.bpu.dirty
              cc.consumer := v.toNat
              cc.heldCount := s.part.cc.heldCount - f }
          else { s.part with mem := t.part.mem, bpu.starvation := (granted s.part).bpu.starvation } })

/-- CHANGE_WORD_WRITE (R59, R186): each cause whose bit is one is cleared and the others are kept, S0 is marked dirty,
the attention line is judged again, and nothing reaches memory, even while the port is busy. -/
def Obligations.ChangeWordClears : Prop :=
  ∀ (b : Bases) (s : State) (v : Word), s.part.bpu.windows = some b → wellPlaced b = true →
    s.part.bpu.load ≠ some .start → s.part.bpu.hostQueue = [] →
    ∃ t, exec (.changeWordWrite v) s = .next t
      ∧ (∀ i : Nat, i < 9 → t.part.bpu.causes.getLsbD i = (s.part.bpu.causes.getLsbD i && !v.getLsbD i))
      ∧ t.part.bpu.attention = decide (∃ i : Nat, i < 9 ∧ t.part.bpu.causes.getLsbD i = true
          ∧ s.part.bpu.enable.getLsbD i = true)
      ∧ t = { s with part := { s.part with
          bpu.causes := t.part.bpu.causes
          bpu.attention := t.part.bpu.attention
          bpu.dirty := insertGroup (.status 0) s.part.bpu.dirty } }

/-- SUPPRESSED_WRITE (R58, R59, R62 to R64): a write to mailbox word 5, to mailbox word 0 while a command is in flight,
to a STATUS word other than the change word, or into the CALL RING, REPORT RING or MAP DUMP window is taken at its
arrival, counted and offered to the capture record, and does not reach memory.
Every mailbox command written while a command is in flight is suppressed like any other such write (R58, R175): none of
them is taken. That the operand of CLEAR_CONDITION says what the two confirm sensors show at its arrival, so that the
pins and their holds follow it even then, is the model's choice (log entry 9). -/
def Obligations.SuppressedWritesCaptured : Prop :=
  (∀ (s : State) (a : Addr) (d : Word) (k : WindowKind) (o : Nat), s.part.bpu.load ≠ some .start →
      s.part.bpu.hostQueue = [] → windowAt a.toNat s.part = some (k, o) →
      (k = .mailbox ∧ (o = 5 ∨ (o = 0 ∧ s.part.bpu.inFlight.isSome = true)) ∨ k = .status ∧ o ≠ 0 ∨ k = .callRing
        ∨ k = .reportRing ∨ k = .mapDump) →
      exec (.suppressedWrite a d) s = .next { s with part := suppressed a d k s.part })
  ∧ (∀ (b : Bases) (s : State) (c : Instr) (code : Word), s.part.bpu.windows = some b → wellPlaced b = true →
      s.part.bpu.load ≠ some .start → s.part.bpu.hostQueue = [] → s.part.bpu.inFlight.isSome = true →
      ((c, code) ∈ [(Instr.dial, (1 : Word)), (.release, 2), (.setTime, 3), (.setAttention, 4), (.mapDump, 5),
          (.vaultCleared, 6), (.reloadProfile, 8), (.reportNow, 9), (.testReport, 10)]
        ∨ c = .unknownCommand code) →
      exec c s = .next { s with part := suppressed (BitVec.ofNat 18 b.mailbox) code .mailbox s.part })
  ∧ (∀ (b : Bases) (s : State) (shown : ChuteReadings), s.part.bpu.windows = some b → wellPlaced b = true →
      s.part.bpu.load ≠ some .start → s.part.bpu.hostQueue = [] → s.part.bpu.inFlight.isSome = true →
      exec (.clearCondition shown) s = .next
        { s with part := suppressed (BitVec.ofNat 18 b.mailbox) 7 .mailbox (senseChutes shown s.part) })

/-- ACCOUNT_WRITE (R60, R63, R64): the write is suppressed and raises ACCOUNT_TAMPER with the word's offset. The
account, the gate, the line of money and memory are unaffected. -/
def Obligations.AccountWriteTampers : Prop :=
  ∀ (b : Bases) (s : State) (o : Nat) (d : Word), s.part.bpu.windows = some b → wellPlaced b = true →
    s.part.bpu.load ≠ some .start → s.part.bpu.hostQueue = [] → s.part.cru.rows.length = 14 → o < 216 →
    ∃ t, exec (.accountWrite o d) s = .next t
      ∧ rowOf .accountTamper t.part = raisedRow s.part.rtu.clock o (rowOf .accountTamper s.part)
      ∧ (∀ k, k ≠ .accountTamper → rowOf k t.part = rowOf k s.part)
      ∧ t.part.bpu.refused = min 65535 (s.part.bpu.refused + 1)
      ∧ t.part.bpu.capture =
        (suppressed (BitVec.ofNat 18 (b.account + o)) d .account s.part).bpu.capture
      ∧ t.part.mem = s.part.mem ∧ t.part.cau = s.part.cau ∧ t.part.rlu = s.part.rlu ∧ t.part.cu = s.part.cu
      ∧ t.part.rtu = s.part.rtu ∧ t.part.cc = s.part.cc ∧ t.part.tick = s.part.tick ∧ t.part.pins = s.part.pins
      ∧ t.pending = s.pending

/-- PROFILE_WRITE (R61): the write passes to the flash, sets the profile-changed flag and marks S0 dirty.
TARIFF_WRITE (R61, R84, R90) with the scan engine IDLE: the write passes to the flash, every unlocked entry of the rate
cache is invalidated and a locked one becomes stale, and the quiet timer starts from 2 s.
TARIFF_WRITE while a lookup scan runs (R82): a first, second or third notice restarts the scan from the header and
raises its restart count, and the call stays where it was; a fourth ends the lookup with RATE_UNAVAILABLE, and the call
is back in COLLECTING. TARIFF_WRITE while a verification runs (R84): it ends without a verdict, and the quiet timer runs
from 2 s. That a write to the flash stores its word is the model's choice (log entry 6: R56 assumes nothing of the
flash). -/
def Obligations.FlashWindowWritesPass : Prop :=
  (∀ (b : Bases) (s : State) (o : Nat) (d : Word), HostReady b s.part → Memory.wf s.part.mem = true → o < 1024 →
      ∃ t, exec (.profileWrite o d) s = .next t ∧ readWord t.part.mem (0x20000 + o) = d
        ∧ memoryKeptBut (0x20000 + o) 1 s.part t.part
        ∧ t = { s with part := { s.part with
            mem := t.part.mem
            bpu.starvation := (granted s.part).bpu.starvation
            bpu.profileChanged := true
            bpu.dirty := insertGroup (.status 0) s.part.bpu.dirty } })
  ∧ (∀ (b : Bases) (s : State) (o : Nat) (d : Word), HostReady b s.part → Memory.wf s.part.mem = true → o < 1602 →
      s.part.rtu.engine = .idle →
      ∃ t, exec (.tariffWrite o d) s = .next t ∧ readWord t.part.mem (b.tariff + o) = d
        ∧ memoryKeptBut (b.tariff + o) 1 s.part t.part
        ∧ t.part.rtu.cache.length = s.part.rtu.cache.length
        ∧ (∀ (i : Nat) (e : CacheEntry), s.part.rtu.cache[i]? = some e → ∃ e' : CacheEntry, t.part.rtu.cache[i]? = some e'
            ∧ (e.valid = true → e.locked = true → e' = { e with stale := true })
            ∧ (e.valid = true → e.locked = false → e'.valid = false) ∧ (e.valid = false → e' = e))
        ∧ t = { s with part := { s.part with
            mem := t.part.mem
            bpu.starvation := (granted s.part).bpu.starvation
            rtu.cache := t.part.rtu.cache
            rtu.quiet := some { start := s.part.tick, limit := 2000 } } })
  ∧ (∀ (b : Bases) (s : State) (o : Nat) (d : Word) (number : List Nat) (n : Nat), HostReady b s.part → o < 1602 →
      s.part.rtu.engine = .lookup number n → n < 3 →
      ∃ t, exec (.tariffWrite o d) s = .next t ∧ t.part.rtu.engine = .lookup number (n + 1)
        ∧ t.part.rtu.scan = { count := 0, check := 0, sum := 0, best := none, outOfRange := none }
        ∧ t.part.bpu.waiting = s.part.bpu.waiting.filter (fun r => !ofScan r.purpose)
            ++ [{ purpose := .scanHeader, limit := none }]
        ∧ t.part.bpu.aside = s.part.bpu.aside.filter (fun r => !ofScan r.purpose)
        ∧ t.part.rtu.quiet = some { start := s.part.tick, limit := 2000 }
        ∧ t.part.cc = s.part.cc ∧ t.part.cru = s.part.cru ∧ t.part.bpu.result = s.part.bpu.result
        ∧ t.part.rlu = s.part.rlu ∧ t.part.cau = s.part.cau ∧ t.part.lu = s.part.lu)
  ∧ (∀ (b : Bases) (s : State) (o : Nat) (d : Word) (number : List Nat), HostReady b s.part → o < 1602 →
      s.part.rtu.engine = .lookup number 3 → s.part.rtu.verifyDue = false → s.part.bpu.inFlight = some 1 →
      s.part.bpu.result = .pending → s.part.cc.call = .rating →
      ∃ t, exec (.tariffWrite o d) s = .next t ∧ t.part.bpu.result = .rateUnavailable ∧ t.part.cc.call = .collecting
        ∧ t.part.cc.digits = s.part.cc.digits ∧ t.part.rtu.engine = .idle
        ∧ t.part.bpu.waiting = s.part.bpu.waiting.filter (fun r => !ofScan r.purpose)
        ∧ t.part.rtu.quiet = some { start := s.part.tick, limit := 2000 } ∧ t.part.cru = s.part.cru
        ∧ t.part.rlu = s.part.rlu ∧ t.part.cau = s.part.cau ∧ t.part.lu = s.part.lu)
  ∧ (∀ (b : Bases) (s : State) (o : Nat) (d : Word), HostReady b s.part → o < 1602 → s.part.rtu.engine = .verify →
      s.part.rtu.verifyDue = false →
      ∃ t, exec (.tariffWrite o d) s = .next t ∧ t.part.rtu.engine = .idle
        ∧ t.part.bpu.waiting = s.part.bpu.waiting.filter (fun r => !ofScan r.purpose)
        ∧ t.part.rtu.quiet = some { start := s.part.tick, limit := 2000 } ∧ t.part.cru = s.part.cru
        ∧ t.part.rtu.cache.length = s.part.rtu.cache.length ∧ t.part.cc = s.part.cc ∧ t.part.rlu = s.part.rlu
        ∧ t.part.cau = s.part.cau ∧ t.part.lu = s.part.lu)

/-- CAPTURE_UNLOCK_READ (R56, R65): the read returns the word the chip holds. Of the last word of S5 it unlocks a locked
capture, keeping its fields, and marks S5 dirty; of an unlocked one it does no more than any read. -/
def Obligations.CaptureUnlocks : Prop :=
  ∀ (b : Bases) (s : State) (a : Addr), HostReady b s.part → a.toNat = b.status + 51 →
    exec (.captureUnlockRead a) s = .next { s with part :=
      if s.part.bpu.capture.locked then
        { s.part with
          bpu.starvation := (granted s.part).bpu.starvation
          bpu.readData := readWord s.part.mem a.toNat
          bpu.capture := { s.part.bpu.capture with locked := false }
          bpu.dirty := insertGroup (.status 5) s.part.bpu.dirty }
      else
        { s.part with
          bpu.starvation := (granted s.part).bpu.starvation
          bpu.readData := readWord s.part.mem a.toNat } }

/-! ## Starts (R66, R72) -/

/-- POWER_START: every part of the state takes its value after a start, the gate is driven to HOLD (R20), the inputs
stay as they stand and their holds begin with their readings; memory keeps its words, but that a group write in progress
may have written some of its first words (how many: the model's free value, log entry 7). The counter of free values is
the model's own. LINE_START with no host access waiting: as a power start, but that the kind of the start is kept, the
wall clock goes on with its millisecond phase, and the last good step is kept (R92, R116). The pins that stand, the
figures the manual does not name and the phase after a line start are the model's (log entries 10, 39 and 29), and so is
it that a power start leaves no host access waiting (log entry 8). -/
def Obligations.StartsReset : Prop :=
  (∀ s : State, Memory.wf s.part.mem = true → ∃ t, exec .powerStart s = .next t ∧ startMemory s.part t.part
      ∧ gatePosition t.part = .hold
      ∧ t = { s with part :=
        { Part.reset with
          free := t.part.free
          mem := t.part.mem
          pins := s.part.pins
          samplers :=
            { hook := { last := s.part.pins.hookOff, held := 0 }, door := { last := s.part.pins.doorOpen, held := 0 },
              key := { last := s.part.pins.keyOn, held := 0 }, cord := { last := s.part.pins.cordOpen, held := 0 },
              shock := { last := s.part.pins.shockClosed, held := 0 },
              vaultBlocked := { last := s.part.pins.vaultBlocked, held := 0 },
              returnBlocked := { last := s.part.pins.returnBlocked, held := 0 } } } })
  ∧ (∀ s : State, s.part.bpu.hostQueue = [] → ∃ t u, exec .powerStart s = .next u ∧ exec .lineStart s = .next t
      ∧ t = { u with part := { u.part with
          started := .line
          rtu.clock := s.part.rtu.clock
          rtu.second := if s.part.rtu.clock.isSome then s.part.rtu.second - s.part.tick else 0
          lu.lastGood := s.part.lu.lastGood } })

/-- The state after reset: nothing waits, the clock is UNSET, the line is in CLEARING with step 8 as the last good step,
the gate at HOLD, the call IDLE, the result DONE with command number 0, the capture record empty, no cause set, every
condition clear; and everything that the claims below say every step keeps holds there. -/
def Obligations.ResetHolds : Prop :=
  State.reset.pending = [] ∧ Part.reset.tick = 0 ∧ Part.reset.rtu.clock = none ∧ Part.reset.lu.line = .clearing
    ∧ Part.reset.lu.owner = .none ∧ Part.reset.lu.lastGood = 8 ∧ Part.reset.rlu.gate = .hold
    ∧ Part.reset.cc.call = .idle ∧ Part.reset.cc.off = false ∧ Part.reset.bpu.result = .done
    ∧ Part.reset.bpu.number = 0 ∧ Part.reset.bpu.causes = 0 ∧ Part.reset.bpu.enable = 0
    ∧ Part.reset.bpu.windows = none ∧ Part.reset.bpu.capture.locked = false ∧ Part.reset.bpu.capture.empty = true
    ∧ (∀ k, isActive k Part.reset = false) ∧ Part.reset.cru.queue = [] ∧ Part.reset.cru.restriction = .full
    ∧ attentionFollows Part.reset ∧ restrictionHolds Part.reset ∧ bandHolds Part.reset ∧ memoryCanonical Part.reset
    ∧ creditWithin Part.reset ∧ callRingWhole Part.reset ∧ reportQueueSound Part.reset ∧ startOrder Part.reset
    ∧ agesDense Part.reset.rtu.cache

/-! ## What every step keeps -/

/-- R186: whatever step is taken, the attention line is asserted exactly while a cause is both set and enabled. -/
def Obligations.AttentionFollowsAlways : Prop :=
  ∀ s t : State, attentionFollows s.part → step s = .next t → attentionFollows t.part

/-- R155: whatever step is taken, the restriction is the highest of the levels that service mode and the active
conditions hold. -/
def Obligations.RestrictionDerivedAlways : Prop :=
  ∀ s t : State, restrictionHolds s.part → step s = .next t → restrictionHolds t.part

/-- R94: whatever step is taken, the band in force is the one that the calendar gives for the wall clock. -/
def Obligations.BandFollowsClock : Prop :=
  ∀ s t : State, bandHolds s.part → step s = .next t → bandHolds t.part

/-- Whatever step is taken, the words behind the port and the reject map keep their canonical form. -/
def Obligations.MemoryStaysCanonical : Prop :=
  ∀ s t : State, memoryCanonical s.part → step s = .next t → memoryCanonical t.part

/-- R18, R27: whatever step is taken, the rail holds at most 8 coins, and banked credit with the rail value never
exceeds 9,999 units. That the listing at the start-up dump keeps within it for every recorded rail value is the model's
reading (log entry 12). -/
def Obligations.CreditStaysWithin : Prop :=
  ∀ s t : State, creditWithin s.part → step s = .next t → creditWithin t.part

/-- R145, R146: whatever step is taken, the call ring holds as many slots as lie from its consumer index to its producer
index, and at most 64. -/
def Obligations.CallRingStaysWhole : Prop :=
  ∀ s t : State, callRingWhole s.part → step s = .next t → callRingWhole t.part

/-- R161, R162: whatever step is taken, the report queue holds at most 8 records, at most one of a kind, each in a ring
slot of its own. -/
def Obligations.ReportQueueStaysSound : Prop :=
  ∀ s t : State, reportQueueSound s.part → step s = .next t → reportQueueSound t.part

/-- R36, R45, R72: whatever step is taken, the start keeps its order: profile load, account load, start-up dump. -/
def Obligations.StartKeepsOrder : Prop :=
  ∀ s t : State, startOrder s.part → step s = .next t → startOrder t.part

/-- R43: from the beginning of the start-up dump on, whatever step is taken, the total accepted is what was refunded,
collected and lost to suspense and what stands on the rail. -/
def Obligations.AcceptedMoneyBalances : Prop :=
  ∀ s t : State, startOrder s.part → (s.part.rlu.dump ≠ .waiting → acceptedBalances s.part) → step s = .next t →
    t.part.rlu.dump ≠ .waiting → acceptedBalances t.part

/-- R27, R43: once the start-up dump has begun, whatever step is taken, the total collected is what was charged and
forfeited and the banked credit, which MONEY and the rail unit hold alike. -/
def Obligations.CollectedMoneyBalances : Prop :=
  ∀ s t : State, startOrder s.part → s.part.rlu.dump ≠ .waiting → collectedBalances s.part → bankedAgrees s.part →
    step s = .next t → t.part.rlu.dump = .waiting ∨ (collectedBalances t.part ∧ bankedAgrees t.part)

/-! ## Coins, charging figures, words and scans -/

/-- R3: a measurement outside the transit window is rejected with TRANSIT; within it, one that no type matches with
NO_MATCH; and otherwise the matching type at the smallest distance wins, the lowest number of those that share it,
whether it is enabled or disabled.
R4: a nominal moves by a sixteenth of the difference, truncated toward zero, and is clamped to half the tolerance around
the profile nominal, within 0 to 65,535. -/
def Obligations.CoinsClassified : Prop :=
  (∀ (table : CoinTable) (m : Measurement),
      (m.t.toNat < table.tmin ∨ table.tmax < m.t.toNat → classifyCoin table m = .reject .transit)
      ∧ (table.tmin ≤ m.t.toNat → m.t.toNat ≤ table.tmax → (∀ c ∈ table.slots, ¬ withinTolerance m c) →
          classifyCoin table m = .reject .noMatch)
      ∧ (∀ (i : Nat) (c : CoinSlot), table.tmin ≤ m.t.toNat → m.t.toNat ≤ table.tmax → table.slots[i]? = some c →
          withinTolerance m c →
          (∀ (j : Nat) (x : CoinSlot), table.slots[j]? = some x → withinTolerance m x →
            nominalDistance m c < nominalDistance m x ∨ (nominalDistance m c = nominalDistance m x ∧ i ≤ j)) →
          classifyCoin table m =
            if c.type.enabled then .valid (i + 1) c.type.value else .disabled (i + 1) c.type.value))
  ∧ (∀ measured nominal profile tolerance : Nat, profile ≤ 65535 →
      moveNominal measured nominal profile tolerance =
        max (profile - tolerance / 2) (min (min 65535 (profile + tolerance / 2))
          (if nominal ≤ measured then nominal + (measured - nominal) / 16 else nominal - (nominal - measured) / 16)))

/-- R96: consecutive steps of one band, none of which is clamped, take together exactly the whole milliseconds of
60,000·s·k + e over r, and carry out what that leaves: no fraction of a millisecond is lost.
R96, the two clamps: a duration below 500 ms becomes 500, one above 3,600,000 becomes 3,600,000, and either drops the
remainder. -/
def Obligations.StepDurations : Prop :=
  (∀ s r k e : Nat, 0 < r → e < r → 500 * r ≤ 60000 * s → 60000 * s + r ≤ 3600000 * r →
      runSteps s r k e = ((60000 * s * k + e) / r, (60000 * s * k + e) % r))
  ∧ (∀ s r e : Nat, 0 < r → e < r →
      ((60000 * s + e) / r < 500 → stepDuration s r e = (500, 0))
      ∧ (3600000 < (60000 * s + e) / r → stepDuration s r e = (3600000, 0))
      ∧ (500 ≤ (stepDuration s r e).1 ∧ (stepDuration s r e).1 ≤ 3600000 ∧ (stepDuration s r e).2 < r))

/-- R169: a frame is 25 symbols: the star, 22 decimal digits with their check digit, and #; its fields stand in their
places: identity, kind, severity, count, day and minute of the last raise, detail; the digits weighted 1, 3, 1, 3 and so
on come with the check digit to a multiple of 10.
R165: a new record that finds eight in the queue displaces the oldest QUEUED ROUTINE one if it is URGENT, and is dropped
otherwise; either is counted.
ACK_WAIT_EXPIRY and DTMF_SYMBOL_RECEIVED (R171 to R173): silence or a B after a record's third send ends the call as a
failure: the record is QUEUED again in its place, the failure count rises, and backoff starts from 60 s, doubling up to
1,920 s. An A of a record with a merge re-arms it at the newest end (R170), and the eighth ends the call as a success.
LOOP_LIMIT_EXPIRY of a report call is a failure too (R168, R173), and so is SEARCH_LIMIT_EXPIRY; each adds to the
failed-seize count, and the third raises LINE_DOWN with its detail and sets the count to 0 (R129). Where that raise
queues a new record, the backoff stands or is cancelled, as the raise or the failure is taken first: either order (log
entry 13). -/
def Obligations.FrameWellFormed : Prop :=
  (∀ (identity : List Nat) (r : ReportRecord), identity.length = 6 → (∀ d ∈ identity, d ≤ 9) → validWall r.last →
    ∃ ds c, frameOf identity r = 10 :: ds ++ [c, 11] ∧ ds.length = 22 ∧ (∀ d ∈ ds, d ≤ 9) ∧ c ≤ 9
      ∧ (weightedSum ds + c) % 10 = 0 ∧ ds.take 6 = identity
      ∧ 10 * ds.getD 6 0 + ds.getD 7 0 = r.kind.code
      ∧ ds.getD 8 0 = (if r.kind.urgent then 1 else 2)
      ∧ 100 * ds.getD 9 0 + 10 * ds.getD 10 0 + ds.getD 11 0 = min 999 r.count
      ∧ (ds.getD 12 0, 1000 * ds.getD 13 0 + 100 * ds.getD 14 0 + 10 * ds.getD 15 0 + ds.getD 16 0) =
        (match r.last with
          | none => (9, 9999)
          | some (day, second) => (day, second / 60))
      ∧ (r.detail ≤ 65535 → 10000 * ds.getD 17 0 + 1000 * ds.getD 18 0 + 100 * ds.getD 19 0 + 10 * ds.getD 20 0
          + ds.getD 21 0 = r.detail))
  ∧ (∀ (k : Condition) (detail : Nat) (p : Part), k ≠ .profileBad → isActive k p = false →
    (∀ r ∈ p.cru.queue, r.kind ≠ .condition k) → 8 ≤ p.cru.queue.length →
    let q := raise k detail p
    q.cru.dropped = min 65535 (p.cru.dropped + 1) ∧ Group.status 4 ∈ q.bpu.dirty
    ∧ (p.cru.rows.length = 14 → isActive k q = true)
    ∧ (∀ old, (ReportKind.condition k).urgent = true →
        p.cru.queue.find? (fun r => !r.sending && !r.kind.urgent) = some old →
        q.cru.queue = (p.cru.queue.filter fun r => r.slot != old.slot) ++
          [{ kind := .condition k, sending := false, sequence := p.cru.sequence + 1, count := 1, first := p.rtu.clock,
             last := p.rtu.clock, detail, attempts := 0, sent := none, updated := false, firstMerge := none,
             slot := old.slot }]
        ∧ q.cru.backoff = none ∧ Group.report old.slot ∈ q.bpu.dirty)
    ∧ ((ReportKind.condition k).urgent = false ∨ (∀ r ∈ p.cru.queue, r.sending = true ∨ r.kind.urgent = true) →
        q.cru.queue = p.cru.queue ∧ q.cru.sequence = p.cru.sequence ∧ q.cru.backoff = p.cru.backoff))
  ∧ (∀ s : State, s.part.cru.report.isSome = true → s.part.lu.owner = .report → s.part.cau.load = .ended →
    due s.part.lu.loopLimit s.part → s.part.lu.failedSeizes < 2 →
    ∃ t, exec .loopLimitExpiry s = .next t ∧ t.part.lu.line = .clearing ∧ reportFailed s.part t.part
      ∧ t.part.lu.failedSeizes = s.part.lu.failedSeizes + 1
      ∧ t.part.cau.calls = { s.part.cau.calls with reportsFailed := s.part.cau.calls.reportsFailed + 1 }
      ∧ t.part.cc = s.part.cc ∧ t.part.rlu = s.part.rlu ∧ t.part.mem = s.part.mem)
  ∧ (∀ (s : State) (c : Instr) (detail : Nat), s.part.cru.report.isSome = true → s.part.lu.owner = .report →
    s.part.cau.load = .ended → seizeEnds c detail s.part →
    let failures := min 255 (s.part.cru.failures + 1)
    let backoff : Option Timer := some { start := s.part.tick, limit := backoffAfter failures }
    ∃ t, exec c s = .next t ∧ t.part.lu.line = .clearing ∧ t.part.lu.owner = .none ∧ seizeFailed detail s.part t.part
      ∧ t.part.cru.report = none ∧ t.part.cru.failures = failures
      ∧ Group.status 4 ∈ t.part.bpu.dirty
      ∧ t.part.cau.calls = { s.part.cau.calls with reportsFailed := s.part.cau.calls.reportsFailed + 1 }
      ∧ t.part.cc = s.part.cc ∧ t.part.rlu = s.part.rlu ∧ t.part.mem = s.part.mem
      ∧ (s.part.lu.failedSeizes < 2 → reportFailed s.part t.part)
      ∧ (t.part.cru.backoff = backoff ∨ t.part.cru.backoff = none ∧ 2 ≤ s.part.lu.failedSeizes
        ∧ isActive .lineDown s.part = false ∧ ∀ r ∈ s.part.cru.queue, r.kind ≠ .condition .lineDown)
      ∧ (2 ≤ s.part.lu.failedSeizes → isActive .lineDown s.part = false →
        (∀ r ∈ s.part.cru.queue, r.kind ≠ .condition .lineDown) → s.part.cru.queue.length < 8 →
        ∃ before new, t.part.cru.queue = before ++ [new] ∧ recordRequeued s.part { t.part with cru.queue := before }
          ∧ new.kind = .condition .lineDown ∧ new.detail = detail ∧ new.sending = false
          ∧ new.sequence = s.part.cru.sequence + 1))
  ∧ (∀ (s : State) (c : ReportCall) (r : ReportRecord), s.part.cru.report = some c → s.part.lu.owner = .report →
    s.part.cru.queue.find? (·.sending) = some r → s.part.cau.load = .ended →
    (3 ≤ c.sends → ∃ t, (due s.part.lu.ackWait s.part → exec .ackWaitExpiry s = .next t)
      ∧ (s.part.lu.line = .awaitAck → exec (.dtmfSymbolReceived 13) s = .next t)
      ∧ t.part.lu.line = .clearing ∧ t.part.lu.owner = .none ∧ reportFailed s.part t.part
      ∧ t.part.cau.calls = (if c.accepted = 0 then
            { s.part.cau.calls with reportsFailed := s.part.cau.calls.reportsFailed + 1 }
          else { s.part.cau.calls with reportsSucceeded := s.part.cau.calls.reportsSucceeded + 1 })
      ∧ t.part.cc = s.part.cc ∧ t.part.rlu = s.part.rlu ∧ t.part.mem = s.part.mem)
    ∧ (s.part.lu.line = .awaitAck → s.part.lu.announced = true → r.updated = true → c.accepted < 7 →
      let again := (s.part.cru.queue.filter fun x => x.slot != r.slot) ++
        [{ r with
          sending := false, sequence := s.part.cru.sequence + 1, count := max 1 (r.count - r.sent.getD 0)
          first := r.firstMerge.getD r.first, attempts := 0, sent := none, updated := false, firstMerge := none }]
      ∀ n, nextRecord again = some n → ∃ t, exec (.dtmfSymbolReceived 12) s = .next t ∧ t.part.lu.line = .sending
        ∧ t.part.cru.queue = again.map (fun x => if x.slot = n.slot then composed x else x)
        ∧ t.part.cru.sequence = s.part.cru.sequence + 1 ∧ t.part.cru.failures = 0
        ∧ t.part.cru.report = some { c with accepted := c.accepted + 1, sends := 1 }
        ∧ Group.report r.slot ∈ t.part.bpu.dirty ∧ t.part.cc = s.part.cc ∧ t.part.cau = s.part.cau)
    ∧ (s.part.lu.line = .awaitAck → r.updated = false → c.accepted = 7 →
      ∃ t, exec (.dtmfSymbolReceived 12) s = .next t ∧ t.part.lu.line = .clearing ∧ t.part.cru.report = none
        ∧ t.part.cru.queue = (s.part.cru.queue.filter fun x => x.slot != r.slot) ∧ t.part.cru.failures = 0
        ∧ t.part.cru.backoff = s.part.cru.backoff
        ∧ t.part.cau.calls = { s.part.cau.calls with reportsSucceeded := s.part.cau.calls.reportsSucceeded + 1 }
        ∧ t.part.cc = s.part.cc ∧ t.part.rlu = s.part.rlu ∧ t.part.mem = s.part.mem))

/-- R188: a list of digit codes packed four to a word reads back as it was, filled with code 0; so do a wall time, UNSET
too, and a 32-bit figure of two words.
R39, R41: the slot written for a logical record checks for it and for no other, and its words read back as what the part
holds; the header leaves a relocation in progress out (R50).
R188, R189 and the layouts: what a group's write carries, and where it stands in its window. The result word holds code
and number. S0 to S7 show what `showsS0` to `showsS7` name, field by field, unused bits 0, an absent end tick or last
raise 0xFFFF; a call-ring slot shows its CALL, COLLECTION or START record, a report-ring slot its record, or 16 words 0;
a cell its count. The codes are those of the tables. -/
def Obligations.FieldsReadBack : Prop :=
  ((∀ (n : Nat) (ds : List Nat), ds.length ≤ 4 * n → (∀ d ∈ ds, d < 16) →
        (packDigits n ds).length = n ∧ unpackDigits (packDigits n ds) = padded (4 * n) ds)
      ∧ (∀ t : WallTime, validWall t → ∃ low high, wallWords t = [low, high] ∧ wallOf low high = t)
      ∧ (∀ t : Total, ∃ low high, totalWords t = [low, high] ∧ totalOf low high = t))
  ∧ (∀ p : Part,
      (∀ n : Nat, (recordWords n p).length = 24 ∧ slotChecks n (recordWords n p) = true)
      ∧ (∀ n m : Nat, n < 65536 → m < 65536 → n ≠ m → slotChecks m (recordWords n p) = false)
      ∧ (moneyFits p.cau.money → moneyOf (recordWords 1 p) =
          { p.cau.money with railTypes := padded 8 p.cau.money.railTypes })
      ∧ (p.cau.header.slots.length = 4 → (∀ s ∈ p.cau.header.slots, s < 16) →
          (∀ s ∈ p.cau.header.retired, 1 ≤ s ∧ s ≤ 8) → p.cau.header.spares < 65535 →
          let shown := headerOf (recordWords 0 p)
          (p.cau.relocations = [] → shown.slots = p.cau.header.slots ∧ shown.spares = p.cau.header.spares
            ∧ ∀ s : Nat, s ∈ shown.retired ↔ s ∈ p.cau.header.retired)
          ∧ (∀ r : Relocation, p.cau.relocations = [r] → 1 ≤ r.record → r.record ≤ 4 → r.oldSlot < 16 →
            shown.slots = p.cau.header.slots.set (r.record - 1) r.oldSlot ∧ shown.spares = p.cau.header.spares + 1
            ∧ ∀ s : Nat, s ∈ shown.retired ↔ s ∈ p.cau.header.retired ∧ s ≠ r.oldSlot))
      ∧ (p.cau.types.vault.length = 8 → p.cau.types.returned.length = 6 → (∀ n ∈ p.cau.types.vault, n < 65536) →
          (∀ n ∈ p.cau.types.returned, n < 65536) → typesOf (recordWords 2 p) = p.cau.types)
      ∧ callsOf (recordWords 3 p) = p.cau.calls
      ∧ (validWall p.cau.last.latest.time → validWall p.cau.last.previous.time → p.cau.last.latest.count < 65536 →
          p.cau.last.previous.count < 65536 → lastOf (recordWords 4 p) = p.cau.last)
      ∧ (groupWords (.account 0) p = recordWords 0 p ∧ ∀ n slot : Nat, 1 ≤ n → n ≤ 4 → slot ≠ 0 →
          p.cau.header.slots.Nodup → p.cau.header.slots[n - 1]? = some slot →
          groupWords (.account slot) p = recordWords n p ∧ groupRecord (.account slot) p = some n))
  ∧ (∀ p : Part,
      (∃ w, groupWords .result p = [w] ∧ bits w 0 8 = p.bpu.result.code ∧ bits w 8 8 = p.bpu.number.toNat)
      ∧ showsS0 p (groupWords (.status 0) p)
      ∧ (statusFits p → showsS1 p (groupWords (.status 1) p) ∧ showsS2 p (groupWords (.status 2) p)
        ∧ showsS3 p.cu.event (groupWords (.status 3) p) ∧ showsS4 p (groupWords (.status 4) p)
        ∧ showsS5 p.bpu.capture (groupWords (.status 5) p) ∧ showsS6 p (groupWords (.status 6) p)
        ∧ showsS7 p.cru.rows (groupWords (.status 7) p))
      ∧ (∀ (slot : Nat) (r : RingRecord), (slot, r) ∈ p.cc.records →
          (∀ x ∈ p.cc.records, x.1 = slot → x = (slot, r)) →
          let ws := groupWords (.call slot) p
          (∀ c, r = .call c → callFits c → showsCall c ws)
          ∧ (∀ c, r = .collection c → validWall c.time → c.count < 65536 → showsCollection c ws)
          ∧ (∀ kind time, r = .start kind time → validWall time → showsStart kind time ws))
      ∧ (∀ r ∈ p.cru.queue, (∀ x ∈ p.cru.queue, x.slot = r.slot → x = r) → reportFits r →
          showsReport r (groupWords (.report r.slot) p))
      ∧ (∀ slot, (∀ x ∈ p.cru.queue, x.slot ≠ slot) → groupWords (.report slot) p = List.replicate 16 0)
      ∧ (∀ i, groupWords (.cell i) p = [readWord p.cu.rejects i]))
  ∧ (groupPlace .result = (.mailbox, 5)
    ∧ (List.range 8).map (fun k => groupPlace (.status k)) =
      ([0, 4, 10, 24, 29, 45, 52, 56] : List Nat).map (fun o => (WindowKind.status, o))
    ∧ (∀ i, groupPlace (.account i) = (.account, 24 * i) ∧ groupPlace (.report i) = (.reportRing, 16 * i)
      ∧ groupPlace (.call i) = (.callRing, 24 * i) ∧ groupPlace (.cell i) = (.mapDump, i)))
  ∧ (([.done, .pending, .placed, .notOffhook, .noDigits, .restricted, .invalidNumber, .barred, .noCredit, .tariffBad,
        .rateUnavailable, .notService, .causePresent, .kindQueued, .notAllowed, .range, .unknown] :
        List ResultCode).map (·.code) = List.range 17
    ∧ ([.noClass, .freeClass, .localClass, .nationalClass, .mobileClass, .internationalClass, .barredClass] :
        List CallClass).map (·.code) = List.range 7
    ∧ ([.idle, .collecting, .rating, .placing, .talking, .grace, .ending] : List CallState).map (·.code) = List.range 7
    ∧ ([.idle, .seizing, .searching, .dialling, .awaitAnswer, .connected, .sending, .awaitAck, .clearing] :
        List LineState).map (·.code) = List.range 9
    ∧ ([.none, .customer, .report, .probe] : List Owner).map (·.code) = List.range 4
    ∧ ([.full, .coinsRefused, .freeOnly, .noCalls] : List Restriction).map (·.level) = List.range 4
    ∧ ([.hold, .vaulting, .refunding, .fault] : List GateState).map (·.code) = List.range 4
    ∧ ([.idle, .running, .waiting, .held] : List TimingState).map (·.code) = List.range 4
    ∧ ([.localClear, .farClear, .creditExhausted, .released, .busy, .noAnswer, .noDialtone, .noLoop, .lineLost,
        .abandoned] : List CallOutcome).map (·.code) = List.range 10
    ∧ ([.none, .transit, .noMatch, .disabled, .onHook, .refused, .railFull, .cap, .vault, .gateFault] :
        List Reason).map (·.code) = List.range 10
    ∧ ([.mailbox, .status, .account, .callRing, .reportRing, .mapDump] : List WindowKind).map (·.code) =
        [1, 2, 3, 4, 5, 6]
    ∧ ([.call, .credit, .lowCredit, .coin, .result, .condition, .service, .capture, .record] : List Cause).map
        causePosition = List.range 9
    ∧ ([.condition .vaultForced, .condition .vaultNearFull, .condition .vaultFull, .condition .coinJam,
        .condition .slugCluster, .condition .rejectBurst, .condition .handsetCut, .condition .shock,
        .condition .hookAbuse, .condition .lineDown, .condition .accountTamper, .condition .accountFault,
        .condition .tariffBad, .condition .profileBad, .test] : List ReportKind).map (·.code) =
        (List.range 15).map (· + 1))

/-- R78, R79: an entry matches when its prefix is no longer than the number and the number begins with it; the best
match after a run of entries is the entry of the greatest prefix length among those that match the number, and of those
that share it the one with the lowest table index; it is none where no entry matches. -/
def Obligations.ScanChoosesLongest : Prop :=
  ∀ (number : List Nat) (es : List TariffEntry),
    (∀ e : TariffEntry, entryMatches number e = true ↔
        e.length ≤ number.length ∧ number.take e.length = e.digits.take e.length)
    ∧ ((∀ e ∈ es, entryMatches number e = false) → bestOf number 0 es none = none)
    ∧ (∀ (i : Nat) (e : TariffEntry), es[i]? = some e → entryMatches number e = true →
        (∀ (j : Nat) (x : TariffEntry), es[j]? = some x → entryMatches number x = true →
          x.length < e.length ∨ (x.length = e.length ∧ i ≤ j)) →
        bestOf number 0 es none = some (i, e))

/-- R88: with the ages of the valid entries running from 0 up, each once, a hit and a fill keep them so and make their
entry the youngest; the target of a fill is the lowest invalid entry while there is one, and else the oldest unlocked.
R87, R138: DIAL of a number that hits the cache makes its entry the youngest and is judged: BARRED by its class,
RESTRICTED under FREE_ONLY, NO_CREDIT with less on hand than c0 + s, and PLACED with the entry locked otherwise.
R80, R138: the last entry of a lookup scan applies the verdict first: a table that does not check gives TARIFF_BAD and
invalidates the cache; a good one without a chosen entry gives BARRED; a chosen one is filled in and judged.
R74, R75, R80, R87: what each result carries. The free list gives FREE with the prefix's index; a hit, and a good scan
with a chosen entry, give RATED or BARRED by the class, with the tariff copy, the table index and the number of the
cache entry that was hit or filled; a good scan in which no entry matched gives BARRED with no index, and a bad verdict
TARIFF_BAD. A result given at the taking of DIAL is the one that DIAL is judged by. -/
def Obligations.CacheAgesStayDense : Prop :=
  (∀ (cache : List CacheEntry) (i : Nat), agesDense cache → i < cache.length →
    (∀ e : CacheEntry, cache[i]? = some e → e.valid = true →
      agesDense (makeYoungest i cache) ∧ (makeYoungest i cache)[i]? = some { e with age := 0 })
    ∧ (∀ (key : List Nat) (index : Nat) (copy : TariffEntry), agesDense (fillEntry i key index copy cache)
      ∧ (fillEntry i key index copy cache)[i]? = some
        { valid := true, key, copy, index, locked := false, stale := false, age := 0 }))
  ∧ (∀ cache : List CacheEntry,
    ((∃ x ∈ cache, x.valid = false) → ∃ e : CacheEntry, cache[fillTarget cache]? = some e ∧ e.valid = false
      ∧ ∀ (j : Nat) (x : CacheEntry), j < fillTarget cache → cache[j]? = some x → x.valid = true)
    ∧ ((∀ x ∈ cache, x.valid = true) → (∃ x ∈ cache, x.locked = false) →
      ∃ e : CacheEntry, cache[fillTarget cache]? = some e ∧ e.locked = false
      ∧ ∀ x ∈ cache, x.locked = false → x.age ≤ e.age))
  ∧ (∀ (b : Bases) (s : State) (i : Nat) (e : CacheEntry), HostReady b s.part → s.part.bpu.inFlight = none →
    s.part.cc.call = .collecting → s.part.cc.off = true → s.part.cc.digits ≠ [] → s.part.cru.restriction ≠ .noCalls →
    (∀ l, s.part.lu.settings = some l → l.pulse = true → ∀ d ∈ s.part.cc.digits, d ≤ 9) →
    freeIndex s.part.cc.digits s.part.rtu.freeList = none →
    probe (ratingKey s.part.cc.digits) s.part.rtu.cache = some i → s.part.rtu.cache[i]? = some e →
    let p := { mailboxTaken b 1 s.part with rtu.cache := makeYoungest i s.part.rtu.cache }
    (classOf e.copy.cls = .barredClass → exec .dial s = .next { s with part := resulted .barred p })
    ∧ (classOf e.copy.cls ≠ .barredClass → s.part.cru.restriction = .freeOnly →
        exec .dial s = .next { s with part := resulted .restricted p })
    ∧ (classOf e.copy.cls ≠ .barredClass → s.part.cru.restriction ≠ .freeOnly →
        creditOnHand s.part < e.copy.c0 + chargeStep s.part → exec .dial s = .next { s with part := resulted .noCredit p })
    ∧ (classOf e.copy.cls ≠ .barredClass → s.part.cru.restriction ≠ .freeOnly →
        e.copy.c0 + chargeStep s.part ≤ creditOnHand s.part → ∃ t, exec .dial s = .next t
        ∧ callPlaced (classOf e.copy.cls) e.index (some i) (makeYoungest i s.part.rtu.cache) s.part t.part
        ∧ t.part.cru = s.part.cru ∧ t.part.mem = p.mem))
  ∧ (∀ (s : State) (i n : Nat) (number : List Nat) (words : List Word), readAtPort (.scanEntry i) s.part →
    words.length = 8 → s.part.rtu.engine = .lookup number n → i + 1 = s.part.rtu.scan.count →
    s.part.bpu.inFlight = some 1 → s.part.bpu.result = .pending → s.part.cc.call = .rating →
    (s.part.rtu.scan.check ≠ ~~~(s.part.rtu.scan.sum + sumWords words) →
      ∃ t, exec (.scanEntryRead words) s = .next t ∧ dialRefused .tariffBad s.part t.part ∧ t.part.rtu.engine = .idle
        ∧ t.part.cru.rows = (raise .tariffBad 2 s.part).cru.rows
        ∧ t.part.rtu.cache = invalidateCache s.part.rtu.cache)
    ∧ (s.part.rtu.scan.check = ~~~(s.part.rtu.scan.sum + sumWords words) → s.part.rtu.scan.outOfRange = none →
      entryInRange (entryOf words) = true → ∃ t, exec (.scanEntryRead words) s = .next t
        ∧ t.part.rtu.engine = .idle ∧ t.part.rtu.verifyDue = false ∧ t.part.cru = (clear .tariffBad s.part).cru
        ∧ t.part.mem = s.part.mem
        ∧ (betterMatch number i (entryOf words) s.part.rtu.scan.best = none →
          dialRefused .barred s.part t.part ∧ t.part.rtu.cache = s.part.rtu.cache)
        ∧ (∀ (index : Nat) (copy : TariffEntry),
          betterMatch number i (entryOf words) s.part.rtu.scan.best = some (index, copy) →
          fillTarget s.part.rtu.cache < s.part.rtu.cache.length →
          let target := fillTarget s.part.rtu.cache
          let filled := fillEntry target (ratingKey number) index copy s.part.rtu.cache
          let allowed := (clear .tariffBad s.part).cru.restriction
          let barred := decide (classOf copy.cls = .barredClass)
          let held := decide (allowed = .noCalls ∨ allowed = .freeOnly)
          let short := decide (creditOnHand s.part < copy.c0 + chargeStep s.part)
          (barred = true → dialRefused .barred s.part t.part ∧ t.part.rtu.cache = filled)
          ∧ (barred = false → held = true → dialRefused .restricted s.part t.part ∧ t.part.rtu.cache = filled)
          ∧ (barred = false → held = false → short = true →
            dialRefused .noCredit s.part t.part ∧ t.part.rtu.cache = filled)
          ∧ (barred = false → held = false → short = false →
            callPlaced (classOf copy.cls) index (some target) filled s.part t.part))))
  ∧ (∀ (number : List Nat) (p : Part),
    (∀ i : Nat, freeIndex number p.rtu.freeList = some i → answerAtTaking number p = some (.free i, p))
    ∧ (freeIndex number p.rtu.freeList = none → probe (ratingKey number) p.rtu.cache = none →
        answerAtTaking number p = none)
    ∧ (∀ (i : Nat) (e : CacheEntry), freeIndex number p.rtu.freeList = none →
        probe (ratingKey number) p.rtu.cache = some i → p.rtu.cache[i]? = some e →
        let q := { p with rtu.cache := makeYoungest i p.rtu.cache }
        let chosen : Chosen := { copy := e.copy, index := e.index, entry := i }
        (classOf e.copy.cls = .barredClass → answerAtTaking number p = some (.barred (some chosen), q))
        ∧ (classOf e.copy.cls ≠ .barredClass → answerAtTaking number p = some (.rated chosen, q)))
    ∧ (∀ (detail : Nat) (best : Option (Nat × TariffEntry)),
        scanResult (some detail) number best p = (.tariffBad, p))
    ∧ scanResult none number none p = (.barred none, p)
    ∧ (∀ (index : Nat) (copy : TariffEntry), fillTarget p.rtu.cache < p.rtu.cache.length →
        let target := fillTarget p.rtu.cache
        let q := { p with rtu.cache := fillEntry target (ratingKey number) index copy p.rtu.cache }
        (classOf copy.cls = .barredClass →
          scanResult none number (some (index, copy)) p = (.barred (some { copy, index, entry := target }), q))
        ∧ (classOf copy.cls ≠ .barredClass →
          scanResult none number (some (index, copy)) p = (.rated { copy, index, entry := target }, q))))
  ∧ (∀ (b : Bases) (s : State) (r : Rating) (q : Part), HostReady b s.part → s.part.bpu.inFlight = none →
    s.part.cc.call = .collecting → s.part.cc.off = true → s.part.cc.digits ≠ [] → s.part.cru.restriction ≠ .noCalls →
    (∀ l, s.part.lu.settings = some l → l.pulse = true → ∀ d ∈ s.part.cc.digits, d ≤ 9) →
    answerAtTaking s.part.cc.digits (mailboxTaken b 1 s.part) = some (r, q) →
    exec .dial s = .next { s with part := judgeRating r q })

/-! ## Conditions (R149, R150, R163) -/

/-- R149: a raise makes its row active, or merges into it: the count rises (saturating at 255), the last raise is
stamped and the detail taken. No other row changes. The restriction is derived again, S7 is marked and CONDITION set.
The gate, the account, the coins, the rates and the call are not touched. -/
def Obligations.RaiseApplies : Prop :=
  ∀ (k : Condition) (detail : Nat) (p : Part), p.cru.rows.length = 14 →
    rowOf k (raise k detail p) =
      { active := true, count := min 255 ((rowOf k p).count + 1), last := some p.rtu.clock, detail }
    ∧ (∀ j, j ≠ k → rowOf j (raise k detail p) = rowOf j p)
    ∧ restrictionHolds (raise k detail p)
    ∧ Group.status 7 ∈ (raise k detail p).bpu.dirty ∧ (raise k detail p).bpu.causes.getLsbD 5 = true
    ∧ (raise k detail p).mem = p.mem ∧ (raise k detail p).tick = p.tick ∧ (raise k detail p).pins = p.pins
    ∧ (raise k detail p).cu = p.cu ∧ (raise k detail p).rlu = p.rlu ∧ (raise k detail p).cau = p.cau
    ∧ (raise k detail p).rtu = p.rtu ∧ (raise k detail p).cc = p.cc

/-- R163: what a raise does to the report queue. With a record of its kind queued it merges into it; a first raise with
room joins at the newest end; a repeat raise with no record, and PROFILE_BAD always, leave the queue as it is. -/
def Obligations.RaiseReports : Prop :=
  ∀ (k : Condition) (detail : Nat) (p : Part),
    (k = .profileBad → (raise k detail p).cru.queue = p.cru.queue)
    ∧ (∀ r : ReportRecord, k ≠ .profileBad → reportQueueSound p → r ∈ p.cru.queue → r.kind = .condition k →
        (raise k detail p).cru.queue = p.cru.queue.map fun x => if x.slot = r.slot then
          { x with
            count := min 65535 (x.count + 1), last := p.rtu.clock, detail
            updated := x.updated || x.sending
            firstMerge := if x.sending = true ∧ x.updated = false then some p.rtu.clock else x.firstMerge } else x)
    ∧ (k ≠ .profileBad → isActive k p = false → (∀ r ∈ p.cru.queue, r.kind ≠ .condition k) → p.cru.queue.length < 8 →
        ∃ slot, (raise k detail p).cru.queue = p.cru.queue ++
          [{ kind := .condition k, sending := false, sequence := p.cru.sequence + 1, count := 1, first := p.rtu.clock,
             last := p.rtu.clock, detail, attempts := 0, sent := none, updated := false, firstMerge := none, slot }]
          ∧ slot < 8 ∧ ∀ r ∈ p.cru.queue, r.slot ≠ slot)
    ∧ (isActive k p = true → (∀ r ∈ p.cru.queue, r.kind ≠ .condition k) →
        (raise k detail p).cru.queue = p.cru.queue)

/-- R150: a clear of an active row makes it clear and keeps its count, last raise and detail; of a clear row it changes
nothing. No other row and nothing of the report queue changes, and the restriction is derived again. Of a raise and a
clear that fall together, the clear taken first leaves the row active by a first raise, the raise taken first leaves it
clear. -/
def Obligations.ClearApplies : Prop :=
  ∀ (k : Condition) (detail : Nat) (p : Part), p.cru.rows.length = 14 →
    (isActive k p = false → clear k p = p)
    ∧ (isActive k p = true → isActive k (clear k p) = false
      ∧ rowOf k (raise k detail (clear k p)) =
        { active := true, count := min 255 ((rowOf k p).count + 1), last := some p.rtu.clock, detail }
      ∧ rowOf k (clear k (raise k detail p)) =
        { active := false, count := min 255 ((rowOf k p).count + 1), last := some p.rtu.clock, detail })
    ∧ (isActive k p = true → rowOf k (clear k p) = { rowOf k p with active := false }
      ∧ (∀ j, j ≠ k → rowOf j (clear k p) = rowOf j p)
      ∧ restrictionHolds (clear k p) ∧ Group.status 7 ∈ (clear k p).bpu.dirty
      ∧ (clear k p).bpu.causes.getLsbD 5 = true
      ∧ clear k p = { p with
          bpu.dirty := (clear k p).bpu.dirty
          bpu.causes := (clear k p).bpu.causes
          bpu.attention := (clear k p).bpu.attention
          cru.rows := (clear k p).cru.rows
          cru.restriction := (clear k p).cru.restriction })

/-! ## Mailbox commands (R175 to R187) -/

/-- UNKNOWN_COMMAND (R177): a code that names none of the ten operations is taken and completes at once with UNKNOWN;
nothing else is done.
MAP_DUMP (R16, R181): an argument above 1 is refused with RANGE; otherwise the dump begins with its clear flag, all 256
cells are marked dirty behind every other group, and the command stays in flight.
RELOAD_PROFILE (R73, R184): NOT_SERVICE outside service mode; NOT_ALLOWED with a customer call, with a coin on the rail,
or before the start-up dump has ended; otherwise the profile-changed flag is cleared, the reload begins, and the first
profile read is requested.
REPORT_NOW (R174, R185): backoff is cancelled, which S4 shows, the result is DONE, and a report call is asked for; while
the line is not IDLE none is granted and nothing else changes. -/
def Obligations.CommandsTaken : Prop :=
  (∀ (b : Bases) (s : State) (code : Word), HostReady b s.part → s.part.bpu.inFlight = none →
      (code.toNat = 0 ∨ 10 < code.toNat) →
      exec (.unknownCommand code) s = .next { s with part := resulted .unknown (mailboxTaken b code s.part) })
  ∧ (∀ (b : Bases) (s : State), HostReady b s.part → s.part.bpu.inFlight = none →
      let p := mailboxTaken b 5 s.part
      (1 < s.part.bpu.arg1.toNat → exec .mapDump s = .next { s with part := resulted .range p })
      ∧ (s.part.bpu.arg1.toNat ≤ 1 → exec .mapDump s = .next { s with part :=
          { p with
            cu.dump := some { clear := s.part.bpu.arg1.toNat == 1, held := 0 }
            bpu.dirty := p.bpu.dirty.filter (fun g => !isCell g) ++ (List.range 256).map Group.cell } }))
  ∧ (∀ (b : Bases) (s : State), HostReady b s.part → s.part.bpu.inFlight = none →
      let p := mailboxTaken b 8 s.part
      (s.part.cru.key ≠ some true → exec .reloadProfile s = .next { s with part := resulted .notService p })
      ∧ (s.part.cru.key = some true →
          (s.part.cc.call ≠ .idle ∧ s.part.cc.call ≠ .collecting) ∨ s.part.rlu.rail ≠ [] ∨ s.part.rlu.dump ≠ .ended →
          exec .reloadProfile s = .next { s with part := resulted .notAllowed p })
      ∧ (s.part.cru.key = some true → (s.part.cc.call = .idle ∨ s.part.cc.call = .collecting) → s.part.rlu.rail = [] →
          s.part.rlu.dump = .ended → exec .reloadProfile s = .next { s with part :=
            { p with
              bpu.profileChanged := false
              bpu.load := some .reload
              bpu.profileWords := []
              bpu.dirty := insertGroup (.status 0) p.bpu.dirty
              bpu.waiting := p.bpu.waiting ++ [{ purpose := .profile 0, limit := none }] } }))
  ∧ (∀ (b : Bases) (s : State), HostReady b s.part → s.part.bpu.inFlight = none →
      let p := mailboxTaken b 9 s.part
      let q := resulted .done
        (if s.part.cru.backoff.isSome then
          { p with cru.backoff := none, bpu.dirty := insertGroup (.status 4) p.bpu.dirty } else p)
      exec .reportNow s = .next { s with part := reportAsk q }
      ∧ (s.part.lu.line ≠ .idle → exec .reportNow s = .next { s with part := q }))

/-- SET_TIME (R93, R180): a day above 6 or a second above 86,399 is refused with RANGE. Otherwise the clock becomes SET
with the given day and second, its millisecond phase 0, S6 is marked, the band is judged again and the result is DONE;
with no call being charged nothing else changes but the band in force, which marks S2 where it differs. -/
def Obligations.SetTimeSets : Prop :=
  ∀ (b : Bases) (s : State), HostReady b s.part → s.part.bpu.inFlight = none →
    let p := mailboxTaken b 3 s.part
    let day := s.part.bpu.arg1.toNat
    let second := s.part.bpu.arg2.toNat + 65536 * s.part.bpu.arg3.toNat
    let set := markS 6 { p with rtu.clock := some (day, second), rtu.second := s.part.tick }
    let band := bandOf s.part.rtu.calendar (some (day, second))
    ((6 < day ∨ 86399 < second) → exec .setTime s = .next { s with part := resulted .range p })
    ∧ (day ≤ 6 → second ≤ 86399 →
        exec .setTime s = .next { s with part := resulted .done (gateWork (judgeBand set)) })
    ∧ (day ≤ 6 → second ≤ 86399 → s.part.rtu.timing.state = .idle → gateRests s.part →
        exec .setTime s = .next
          { s with
            part := resulted .done
              (if band = s.part.rtu.band then set else markS 2 { set with rtu.band := band }) })

/-- SET_ATTENTION (R187): a one in a position that names no cause is refused with RANGE and leaves the enable set as it
was; otherwise the enable set becomes the causes marked in the word, the line is judged again, and the result is DONE.
With RESULT among them, the completion of the command asserts the line. -/
def Obligations.SetAttentionReplaces : Prop :=
  ∀ (b : Bases) (s : State), HostReady b s.part → s.part.bpu.inFlight = none →
    let p := mailboxTaken b 4 s.part
    ((∃ i : Nat, 9 ≤ i ∧ s.part.bpu.arg1.getLsbD i = true) →
      exec .setAttention s = .next { s with part := resulted .range p })
    ∧ ((∀ i : Nat, 9 ≤ i → s.part.bpu.arg1.getLsbD i = false) → ∃ t, exec .setAttention s = .next t
      ∧ (∀ i : Nat, t.part.bpu.enable.getLsbD i = s.part.bpu.arg1.getLsbD i)
      ∧ t.part.bpu.attention = decide (∃ i : Nat, i < 9 ∧ s.part.bpu.causes.getLsbD i = true
          ∧ t.part.bpu.enable.getLsbD i = true)
      ∧ t =
        { s with
          part := resulted .done
            { p with bpu.enable := t.part.bpu.enable, bpu.attention := t.part.bpu.attention } })
    ∧ (∀ (v : State) (record : Option Nat) (a : Nat), v.part.bpu.inFlight = some 4 → v.part.bpu.result = .done →
        v.part.bpu.enable.getLsbD 4 = true →
        writeAtPort .result record a [word (ResultCode.done.code + 256 * v.part.bpu.number.toNat)] v.part →
        ∃ u, exec .resultWordWritten v = .next u ∧ u.part.bpu.inFlight = none ∧ u.part.bpu.causes.getLsbD 4 = true
          ∧ u.part.bpu.attention = true)

/-- VAULT_CLEARED (R54, R55, R182): refused with NOT_SERVICE outside service mode, and with NOT_ALLOWED before the start
load has ended, without the door mark, or with MONEY or LAST COLLECTION faulted. Otherwise in one step LAST COLLECTION
takes the clearance and shifts, the vault figures become 0, the COLLECTION record is appended, the capacity in force
becomes the profile's, both vault conditions are clear and the door mark is emptied; the result waits. -/
def Obligations.VaultClearedClears : Prop :=
  ∀ (b : Bases) (s : State), HostReady b s.part → s.part.bpu.inFlight = none →
    let p := mailboxTaken b 6 s.part
    let now : Collection :=
      { time := s.part.rtu.clock, value := s.part.cau.money.vaultValue, count := s.part.cau.money.vaultCount }
    (s.part.cru.key ≠ some true → exec .vaultCleared s = .next { s with part := resulted .notService p })
    ∧ (s.part.cru.key = some true →
        s.part.cau.load ≠ .ended ∨ s.part.cru.doorMark = false ∨ 1 ∈ s.part.cau.faulted ∨ 4 ∈ s.part.cau.faulted →
        exec .vaultCleared s = .next { s with part := resulted .notAllowed p })
    ∧ (s.part.cru.key = some true → s.part.cau.load = .ended → s.part.cru.doorMark = true →
        1 ∉ s.part.cau.faulted → 4 ∉ s.part.cau.faulted → s.part.cru.rows.length = 14 →
        ∃ t, exec .vaultCleared s = .next t
          ∧ t.part.cau.last = { latest := now, previous := s.part.cau.last.latest }
          ∧ t.part.cau.money = { s.part.cau.money with vaultValue := 0, vaultCount := 0 }
          ∧ t.part.cau.types = { s.part.cau.types with vault := List.replicate 8 0 }
          ∧ t.part.cau.capacity = s.part.cau.vc ∧ t.part.cru.doorMark = false
          ∧ isActive .vaultNearFull t.part = false ∧ isActive .vaultFull t.part = false
          ∧ (∀ k, k ≠ .vaultNearFull → k ≠ .vaultFull → rowOf k t.part = rowOf k s.part)
          ∧ t.part.cc = (appendRecord (.collection now) p).cc
          ∧ Group.account (slotOf 1 s.part) ∈ t.part.bpu.dirty ∧ Group.account (slotOf 4 s.part) ∈ t.part.bpu.dirty
          ∧ t.part.bpu.result = .pending ∧ t.part.bpu.inFlight = some 6 ∧ t.part.cau.calls = s.part.cau.calls
          ∧ t.part.cau.header = s.part.cau.header ∧ t.part.rlu = s.part.rlu ∧ t.part.cu = s.part.cu
          ∧ t.part.rtu = s.part.rtu ∧ t.part.lu = s.part.lu ∧ t.part.mem = p.mem ∧ t.part.tick = s.part.tick)

/-- CLEAR_CONDITION (R26, R158, R183): a code outside 1 to 14 is refused with RANGE; a self-clearing kind answers
CAUSE_PRESENT while active and DONE otherwise; a service-cleared kind outside service mode answers NOT_SERVICE. In
service mode ACCOUNT_TAMPER is cleared; VAULT_FORCED is cleared with the door settled CLOSED and answers CAUSE_PRESENT
with it OPEN; COIN_JAM answers CAUSE_PRESENT with a confirm sensor interrupted for 1 s or more, and otherwise is
cleared: from FAULT the gate returns to HOLD, and a stopped refund runs on, or a pending one begins. ACCOUNT_FAULT (R52)
answers NOT_ALLOWED until the start load has ended; then the faulted set is emptied, the slot of each of its records is
marked, and the result stays PENDING until they are written, or is DONE at once with an empty set. That the operand says
what the two confirm sensors show, that a door not yet settled counts as OPEN, and that a cycle in progress is waited
for are the model's choices (log entries 9, 14 and 15). -/
def Obligations.ClearConditionActs : Prop :=
  ∀ (b : Bases) (s : State) (shown : ChuteReadings), HostReady b s.part → s.part.bpu.inFlight = none →
    let p := mailboxTaken b 7 (senseChutes shown s.part)
    let code := s.part.bpu.arg1.toNat
    ((code = 0 ∨ 14 < code) → exec (.clearCondition shown) s = .next { s with part := resulted .range p })
    ∧ (∀ k : Condition, k.code = code → k.serviceCleared = false → exec (.clearCondition shown) s =
        .next { s with part := resulted (if isActive k s.part then .causePresent else .done) p })
    ∧ (∀ k : Condition, k.code = code → k.serviceCleared = true → s.part.cru.key ≠ some true →
        exec (.clearCondition shown) s = .next { s with part := resulted .notService p })
    ∧ (code = 11 → s.part.cru.key = some true →
        exec (.clearCondition shown) s = .next { s with part := resulted .done (clear .accountTamper p) })
    ∧ (code = 1 → s.part.cru.key = some true → s.part.cru.door = some false →
        exec (.clearCondition shown) s = .next { s with part := resulted .done (clear .vaultForced p) })
    ∧ (code = 1 → s.part.cru.key = some true → s.part.cru.door ≠ some false →
        exec (.clearCondition shown) s = .next { s with part := resulted .causePresent p })
    ∧ (code = 4 → s.part.cru.key = some true →
        (∃ held, (shown.vault = some held ∨ shown.ret = some held) ∧ 1000 ≤ held) →
        exec (.clearCondition shown) s = .next { s with part := resulted .causePresent p })
    ∧ (code = 4 → s.part.cru.key = some true →
        (∀ held, shown.vault = some held ∨ shown.ret = some held → held < 1000) → s.part.rlu.gate = .fault →
        gateRests s.part →
        ∃ t, exec (.clearCondition shown) s = .next t ∧ t.part.rlu = { s.part.rlu with gate := .hold }
          ∧ t.part.cru.rows = (clear .coinJam p).cru.rows ∧ t.part.bpu.result = .done
          ∧ Group.status 1 ∈ t.part.bpu.dirty ∧ Group.result ∈ t.part.bpu.dirty ∧ t.part.cau = s.part.cau
          ∧ t.part.cu = s.part.cu ∧ t.part.lu = s.part.lu ∧ t.part.rtu = s.part.rtu ∧ t.part.mem = p.mem)
    ∧ (code = 4 → s.part.cru.key = some true →
        (∀ held, shown.vault = some held ∨ shown.ret = some held → held < 1000) →
        (s.part.rlu.gate = .hold →
          exec (.clearCondition shown) s = .next { s with part := resulted .done (clear .coinJam p) })
        ∧ (s.part.rlu.gate = .vaulting ∨ s.part.rlu.gate = .refunding → exec (.clearCondition shown) s =
            .next { s with part := { clear .coinJam p with rlu.clearWaits := true } })
        ∧ (s.part.rlu.gate = .fault → s.part.rlu.dump = .ended → s.part.rlu.charge = none →
          let cycle : Option Timer := some { start := s.part.tick, limit := 400 }
          ∃ t, exec (.clearCondition shown) s = .next t ∧ t.part.cru.rows = (clear .coinJam p).cru.rows
            ∧ t.part.bpu.result = .done ∧ t.part.cau = s.part.cau ∧ t.part.cu = s.part.cu ∧ t.part.mem = p.mem
            ∧ (∀ n, s.part.rlu.refund = some (n + 1) →
                t.part.rlu = { s.part.rlu with gate := .refunding, cycle })
            ∧ (s.part.rlu.refund = none → s.part.rlu.pendingRefund = true → s.part.rlu.rail ≠ [] →
                t.part.rlu = { s.part.rlu with
                  gate := .refunding, cycle, refund := some s.part.rlu.rail.length, pendingRefund := false })))
    ∧ (code = 12 → s.part.cru.key = some true →
        (s.part.cau.load ≠ .ended →
          exec (.clearCondition shown) s = .next { s with part := resulted .notAllowed p })
        ∧ (s.part.cau.load = .ended → ∃ t, exec (.clearCondition shown) s = .next t
          ∧ t.part.cau.faulted = [] ∧ t.part.cau.clearing = s.part.cau.faulted
          ∧ (∀ n ∈ s.part.cau.faulted, Group.account (slotOf n s.part) ∈ t.part.bpu.dirty)
          ∧ Group.status 4 ∈ t.part.bpu.dirty ∧ t.part.cru = (clear .accountFault p).cru
          ∧ t.part.bpu.inFlight = some 7
          ∧ t.part.bpu.result = (if s.part.cau.faulted = [] then .done else .pending)
          ∧ t.part.cau.header = s.part.cau.header ∧ t.part.cau.strikes = s.part.cau.strikes
          ∧ t.part.cau.mismatches = s.part.cau.mismatches ∧ t.part.cau.money = s.part.cau.money
          ∧ t.part.cau.types = s.part.cau.types ∧ t.part.cau.calls = s.part.cau.calls
          ∧ t.part.cau.last = s.part.cau.last ∧ t.part.rlu = s.part.rlu ∧ t.part.cu = s.part.cu
          ∧ t.part.lu = s.part.lu ∧ t.part.rtu = s.part.rtu ∧ t.part.mem = p.mem))

/-- TEST_REPORT (R166): KIND_QUEUED with a TEST record in the queue; NOT_ALLOWED with eight records and none of them a
TEST; otherwise a TEST record joins at the newest end with the wall time now, and the result is DONE. -/
def Obligations.TestReportJoins : Prop :=
  ∀ (b : Bases) (s : State), HostReady b s.part → s.part.bpu.inFlight = none →
    let p := mailboxTaken b 10 s.part
    ((∃ r ∈ s.part.cru.queue, r.kind = .test) → exec .testReport s = .next { s with part := resulted .kindQueued p })
    ∧ ((∀ r ∈ s.part.cru.queue, r.kind ≠ .test) → 8 ≤ s.part.cru.queue.length →
        exec .testReport s = .next { s with part := resulted .notAllowed p })
    ∧ ((∀ r ∈ s.part.cru.queue, r.kind ≠ .test) → s.part.cru.queue.length < 8 →
        ∃ t slot, exec .testReport s = .next t ∧ slot < 8 ∧ (∀ r ∈ s.part.cru.queue, r.slot ≠ slot)
          ∧ t.part.cru.queue = s.part.cru.queue ++
            [{ kind := .test, sending := false, sequence := s.part.cru.sequence + 1, count := 1,
               first := s.part.rtu.clock, last := s.part.rtu.clock, detail := 0, attempts := 0, sent := none,
               updated := false, firstMerge := none, slot }]
          ∧ t.part.cru.sequence = s.part.cru.sequence + 1 ∧ t.part.cru.dropped = s.part.cru.dropped
          ∧ t.part.cru.rows = s.part.cru.rows ∧ t.part.cru.restriction = s.part.cru.restriction
          ∧ t.part.cru.backoff = s.part.cru.backoff ∧ Group.report slot ∈ t.part.bpu.dirty
          ∧ t.part.bpu.result = .done ∧ Group.result ∈ t.part.bpu.dirty ∧ t.part.rlu = s.part.rlu
          ∧ t.part.cau = s.part.cau ∧ t.part.cc = s.part.cc ∧ t.part.rtu = s.part.rtu ∧ t.part.cu = s.part.cu
          ∧ t.part.mem = p.mem)

/-- DIAL (R137, R138): refused in the order NOT_ALLOWED, NOT_OFFHOOK, NO_DIGITS, RESTRICTED, INVALID_NUMBER. A number
that begins with a free prefix is PLACED at once; one that hits neither the free list nor the cache waits in RATING for
a scan from the header. -/
def Obligations.DialJudged : Prop :=
  ∀ (b : Bases) (s : State), HostReady b s.part → s.part.bpu.inFlight = none →
    let p := mailboxTaken b 1 s.part
    let c := s.part.cc
    let pulse := (match s.part.lu.settings with
      | some l => l.pulse
      | none => false)
    (c.call ≠ .collecting → exec .dial s = .next { s with part := resulted .notAllowed p })
    ∧ (c.call = .collecting → c.off = false → exec .dial s = .next { s with part := resulted .notOffhook p })
    ∧ (c.call = .collecting → c.off = true → c.digits = [] →
        exec .dial s = .next { s with part := resulted .noDigits p })
    ∧ (c.call = .collecting → c.off = true → c.digits ≠ [] → s.part.cru.restriction = .noCalls →
        exec .dial s = .next { s with part := resulted .restricted p })
    ∧ (c.call = .collecting → c.off = true → c.digits ≠ [] → s.part.cru.restriction ≠ .noCalls → pulse = true →
        (∃ d ∈ c.digits, 9 < d) → exec .dial s = .next { s with part := resulted .invalidNumber p })
    ∧ (c.call = .collecting → c.off = true → c.digits ≠ [] → s.part.cru.restriction ≠ .noCalls →
        (pulse = false ∨ ∀ d ∈ c.digits, d ≤ 9) →
        (∀ (i : Nat) (l : LineSettings), freeIndex c.digits s.part.rtu.freeList = some i →
          s.part.lu.settings = some l → s.part.lu.line = .idle → s.part.pins.loop = none →
          ∃ t, exec .dial s = .next t ∧ t.part.bpu.result = .placed ∧ t.part.cc.call = .placing
            ∧ t.part.cc.placed = some { cls := .freeClass, index := i, entry := none, digits := c.digits,
                                        startTime := s.part.rtu.clock, answer := none, collected := 0, ending := none }
            ∧ t.part.cc.steps = 0 ∧ t.part.cc.charged = 0 ∧ t.part.cc.digits = c.digits
            ∧ t.part.lu.line = .seizing ∧ t.part.lu.owner = .customer ∧ t.part.lu.number = c.digits
            ∧ t.part.lu.copy = some l
            ∧ t.part.lu.loopLimit = some { start := s.part.tick, limit := 500 }
            ∧ t.part.lu.searchLimit = some { start := s.part.tick, limit := 3000 }
            ∧ t.part.rtu.cache = s.part.rtu.cache ∧ t.part.rlu = s.part.rlu ∧ t.part.cau = s.part.cau
            ∧ t.part.cru = s.part.cru ∧ t.part.cu = s.part.cu ∧ t.part.mem = p.mem)
        ∧ (freeIndex c.digits s.part.rtu.freeList = none → probe (ratingKey c.digits) s.part.rtu.cache = none →
          s.part.rtu.engine ≠ .verify →
          exec .dial s = .next
            { s with
              part := setCall .rating
                { p with
                  rtu.engine := .lookup c.digits 0
                  rtu.scan := { count := 0, check := 0, sum := 0, best := none, outOfRange := none }
                  bpu.waiting := p.bpu.waiting ++ [{ purpose := .scanHeader, limit := none }] } }))

/-! ## The memory port (R16, R44, R48, R66 to R73, R76 to R85, R176) -/

/-- PART_RUN_GRANT (R66 to R69), with the port free and no host access waiting for it (a held write does not, R68): the
first dirty group above the map-dump cells is written with its contents of this moment; with none, the first waiting
read begins, but that a flash read met by a busy flash is set aside with 50 ms (that such a grant leaves the starvation
count and gives no run is the model's reading, log entry 26); with no read, the first cell is written. Before the start
profile load installs the windows, reads are granted and dirty groups wait (the model's reading, log entry 22). A grant
that finds the flash ready has the reads set aside rejoin the waiting reads first (R69), in the order in which they were
set aside (log entry 48). The set stands in R67's order: marking a group and withdrawing one keep it, and the group
written first is the one of the lowest place: account slots, the result word and S0 to S7, report-ring slots, call-ring
slots, cells, and within a class the lowest index. -/
def Obligations.PartRunGranted : Prop :=
  (∀ (dirty : List Group), dirtyOrdered dirty → (∀ g ∈ dirty, groupFits g) →
    (∀ g : Group, groupFits g → dirtyOrdered (insertGroup g dirty)
      ∧ (∀ x, x ∈ insertGroup g dirty ↔ x = g ∨ x ∈ dirty))
    ∧ (∀ g : Group, dirtyOrdered (dirty.filter (· != g)))
    ∧ dirtyOrdered (dirty.filter (fun g => !isCell g) ++ (List.range 256).map Group.cell)
    ∧ (∀ g : Group, dirty.find? (fun x => !isCell x) = some g → ∀ x ∈ dirty, groupRank g ≤ groupRank x))
  ∧ (∀ i j : Nat, i < 9 → j < 8 → ∀ k m : Nat, k < 64 → groupRank (.account i) < groupRank .result
    ∧ groupRank .result < groupRank (.status j) ∧ groupRank (.status j) < groupRank (.report 0)
    ∧ groupRank (.report j) < groupRank (.call 0) ∧ groupRank (.call k) < groupRank (.cell 0)
    ∧ (k < m → groupRank (.account k) < groupRank (.account m) ∧ groupRank (.status k) < groupRank (.status m)
      ∧ groupRank (.report k) < groupRank (.report m) ∧ groupRank (.call k) < groupRank (.call m)
      ∧ groupRank (.cell k) < groupRank (.cell m)))
  ∧ ∀ (s : State) (busy : Bool), s.part.bpu.port = none → noneWaits s.part →
    let p := flashShows busy s.part
    let closed : Prop := s.part.bpu.windows = none
    (∀ (b : Bases) (g : Group), s.part.bpu.windows = some b → p.bpu.dirty.find? (fun x => !isCell x) = some g →
        exec (.partRunGrant busy) s = .next { s with part := writeBegun g p })
    ∧ (∀ (r : PartRead) (rest : List PartRead), (closed ∨ ∀ g ∈ p.bpu.dirty, isCell g = true) →
        p.bpu.waiting = r :: rest → (busy = false ∨ ofFlash r.purpose = false) →
        exec (.partRunGrant busy) s = .next { s with part := readBegun r rest p })
    ∧ (∀ r : PartRead, (closed ∨ p.bpu.dirty = []) → p.bpu.waiting = [r] → busy = true → ofFlash r.purpose = true →
        r.limit = none → exec (.partRunGrant busy) s = .next { s with part :=
          { p with
            bpu.waiting := []
            bpu.aside := p.bpu.aside ++ [{ r with limit := some { start := p.tick, limit := 50 } }] } })
    ∧ (∀ (b : Bases) (i : Nat) (rest : List Group), s.part.bpu.windows = some b → p.bpu.dirty = .cell i :: rest →
        (∀ g ∈ rest, isCell g = true) → p.bpu.waiting = [] → exec (.partRunGrant busy) s = .next { s with part :=
          { p with
            bpu.starvation := 0
            bpu.dirty := p.bpu.dirty.filter (· != .cell i)
            bpu.port := some (.write (.cell i) none (b.mapDump + i) [readWord p.cu.rejects i]) } })
    ∧ (closed → p.bpu.waiting = [] → exec (.partRunGrant busy) s = .next { s with part := p })

/-- FLASH_READY and FLASH_READ_FAIL_BACK (R69, R72, R73, R83, R84): the reads set aside rejoin the waiting reads with
their limits, also where the limit's command finds the flash ready. With the flash still busy the read fails back: a
verification's stops the engine, withdraws its reads and starts the quiet timer; a lookup scan's ends the lookup without
a verdict, so that DIAL is answered RATE_UNAVAILABLE, no condition and no cache entry changes, and a verification that
is due begins; a reload's ends it as a bad profile with detail 100, and the start load's ends the load so, at the
built-in bases. The corners of the limit, the order in which several reads rejoin, and that of the start's two first
reads are the model's (log entries 26, 48 and 16). -/
def Obligations.FlashReadsRejoinOrFail : Prop :=
  ∀ s : State,
    exec .flashReady s = .next { s with part := { s.part with
      bpu.waiting := s.part.bpu.waiting ++ s.part.bpu.aside, bpu.aside := [], pins.flashBusy := false } }
    ∧ (∀ reader, s.part.pins.flashBusy = false → exec (.flashReadFailBack reader) s = exec .flashReady s)
    ∧ (∀ r ∈ s.part.bpu.aside, s.part.pins.flashBusy = true → ofScan r.purpose = true →
        (∀ x ∈ s.part.bpu.aside, x = r) → due r.limit s.part → s.part.bpu.hostQueue = [] → s.part.bpu.port = none →
        (s.part.rtu.engine = .verify → s.part.rtu.verifyDue = false →
          exec (.flashReadFailBack .scan) s = .next { s with part := { s.part with
            bpu.aside := []
            bpu.waiting := s.part.bpu.waiting.filter (fun x => !ofScan x.purpose)
            rtu.engine := .idle
            rtu.quiet := some { start := s.part.tick, limit := 2000 } } })
        ∧ (∀ number n, s.part.rtu.engine = .lookup number n → s.part.bpu.inFlight = some 1 →
          s.part.bpu.result = .pending → s.part.cc.call = .rating →
          ∃ t, exec (.flashReadFailBack .scan) s = .next t ∧ dialRefused .rateUnavailable s.part t.part
            ∧ t.part.rtu = (if s.part.rtu.verifyDue then
                { s.part.rtu with
                  engine := .verify, verifyDue := false
                  scan := { count := 0, check := 0, sum := 0, best := none, outOfRange := none } }
              else { s.part.rtu with engine := .idle })
            ∧ t.part.bpu.waiting = s.part.bpu.waiting.filter (fun x => !ofScan x.purpose)
              ++ (if s.part.rtu.verifyDue then [{ purpose := .scanHeader, limit := none }] else [])
            ∧ t.part.bpu.aside = [] ∧ t.part.bpu.port = none ∧ t.part.cru = s.part.cru
            ∧ t.part.lu = s.part.lu))
    ∧ (∀ (r : PartRead) (position : Nat), s.part.pins.flashBusy = true → s.part.bpu.aside = [r] →
        r.purpose = .profile position → due r.limit s.part → s.part.bpu.hostQueue = [] →
        (s.part.bpu.load = some .reload → s.part.bpu.inFlight = some 8 → s.part.bpu.result = .pending →
          exec (.flashReadFailBack .profile) s = .next
            { s with
              part := resulted .done (raise .profileBad 100
                { s.part with bpu.aside := [], bpu.load := none, bpu.profileWords := [] }) })
        ∧ (s.part.bpu.load = some .start → s.part.bpu.port = none → s.part.rtu.engine = .idle →
          s.part.rtu.timing.state = .idle → s.part.rlu.dump = .waiting →
          ∃ t, exec (.flashReadFailBack .profile) s = .next t ∧ startLoadBad 100 s.part t.part
            ∧ t.part.bpu.aside = []))

/-- GROUP_WRITE_COMPLETE, RESULT_WORD_WRITTEN, MAP_CELL_WRITTEN and ACCOUNT_SLOT_WRITTEN (R66, R67): the words of the
group are in memory and no other word has changed; the port is free. The write of a status or report-ring group does no
more; a call-ring slot's record is given up unless its slot is dirty again; the result word with the final result ends
the command and sets RESULT (R176); a cell of a clearing dump is zeroed, the rejects held meanwhile are then added, and
cell 255 ends the dump (R16, R17); the account slot that completes a vault clearance, MONEY's or LAST COLLECTION's,
answers DONE (R55), and so does the last slot that CLEAR_CONDITION ACCOUNT_FAULT marked (R52); any account slot marks a
scrub turn on it. The slot that a relocation moves a record to ends that relocation, and the header is marked dirty to
publish the new map, unless it is faulted (R46, R50); the write of any other slot, the header's too, leaves the
relocations in progress.
A host access that waits at the port (R67, R68) is taken at the end of a run as one that arrives then: the count rises
if part work waits. With the count at 64 and part work waiting, the part is granted its run first, the count returns to
0, and the access goes on waiting. With the count at 64 and no part work ready the access is taken and the count stays:
the model's choice (log entry 44). That a write to a flash address outside the windows stores its word like any other is
the model's choice too (log entry 6). -/
def Obligations.GroupWritesComplete : Prop :=
  (∀ (s : State) (g : Group) (record : Option Nat) (a : Nat) (ws : List Word), writeAtPort g record a ws s.part →
    let p := writtenAt a ws s.part
    (Memory.wf s.part.mem = true → wordsInMemory a ws s.part p)
    ∧ ((∃ k, g = .status k) ∨ (∃ k, g = .report k) → exec .groupWriteComplete s = .next { s with part := p })
    ∧ (∀ k, g = .call k → exec .groupWriteComplete s = .next
        { s with
          part := if Group.call k ∈ s.part.bpu.dirty then p
            else { p with cc.records := s.part.cc.records.filter fun e => e.1 != k } })
    ∧ (g = .result → s.part.bpu.inFlight.isSome = true → s.part.bpu.result ≠ .pending →
        ws = [word (s.part.bpu.result.code + 256 * s.part.bpu.number.toNat)] →
        exec .resultWordWritten s = .next { s with part := { p with
          bpu.inFlight := none
          bpu.causes := s.part.bpu.causes ||| 0x10
          bpu.attention := lineFor (s.part.bpu.causes ||| 0x10) s.part.bpu.enable
          bpu.dirty := insertGroup (.status 0) s.part.bpu.dirty } })
    ∧ (∀ i, g = .cell i → i ≠ 255 → s.part.cu.dump = some { clear := true, held := 0 } →
        exec .mapCellWritten s = .next { s with part := { p with cu.rejects := writeWord s.part.cu.rejects i 0 } })
    ∧ (∀ i n, g = .cell i → i ≠ 255 → s.part.cu.dump = some { clear := true, held := n } → n < clusterLimit s.part →
        n < 65536 → Memory.wf s.part.cu.rejects = true →
        exec .mapCellWritten s = .next { s with part := { p with
          cu.rejects := writeWord s.part.cu.rejects i (word n), cu.dump := some { clear := true, held := 0 } } })
    ∧ (g = .cell 255 → s.part.cu.dump = some { clear := false, held := 0 } → s.part.bpu.inFlight = some 5 →
        s.part.bpu.result = .pending →
        exec .mapCellWritten s = .next { s with part := resulted .done { p with cu.dump := none } })
    ∧ (∀ slot n, g = .account slot → record = some n → (∀ r ∈ s.part.cau.relocations, r.newSlot ≠ slot) →
        s.part.cau.clearing = [] → s.part.cau.clearance = none →
        exec .accountSlotWritten s = .next { s with part := { p with
          cau.turn := s.part.cau.turn.map fun t => if t.slot = slot then { t with touched := true } else t } })
    ∧ (∀ slot n, g = .account slot → record = some n → (∃ r ∈ s.part.cau.relocations, r.newSlot = slot) →
        s.part.cau.clearing = [] → s.part.cau.clearance = none →
        exec .accountSlotWritten s = .next { s with part := { p with
          cau.relocations := s.part.cau.relocations.filter (fun r => r.newSlot != slot)
          cau.turn := s.part.cau.turn.map fun t =>
            if t.slot = slot ∨ t.slot = 0 ∧ 0 ∉ s.part.cau.faulted then { t with touched := true } else t
          bpu.dirty :=
            if 0 ∈ s.part.cau.faulted then s.part.bpu.dirty else insertGroup (.account 0) s.part.bpu.dirty } })
    ∧ (∀ slot n c, g = .account slot → record = some n → s.part.cau.relocations = [] → s.part.cau.clearing = [] →
        s.part.cau.clearance = some c → s.part.cau.turn = none →
        let money := c.moneyWritten || decide (n = 1)
        let last := c.lastWritten || decide (n = 4)
        (money = false ∨ last = false → exec .accountSlotWritten s = .next { s with part := { p with
          cau.clearance := some { moneyWritten := money, lastWritten := last } } })
        ∧ (money = true → last = true → s.part.bpu.inFlight = some 6 → s.part.bpu.result = .pending →
          exec .accountSlotWritten s = .next { s with part := resulted .done { p with cau.clearance := none } }))
    ∧ (∀ slot n, g = .account slot → record = some n → s.part.cau.relocations = [] → s.part.cau.clearance = none →
        s.part.cau.turn = none → n ∈ s.part.cau.clearing →
        ((∃ m ∈ s.part.cau.clearing, m ≠ n) → exec .accountSlotWritten s = .next
          { s with part := { p with cau.clearing := s.part.cau.clearing.filter (· != n) } })
        ∧ ((∀ m ∈ s.part.cau.clearing, m = n) → s.part.bpu.inFlight = some 7 → s.part.bpu.result = .pending →
          exec .accountSlotWritten s = .next { s with part := resulted .done { p with cau.clearing := [] } })))
  ∧ (∀ (s : State) (g : Group) (address : Nat) (ws : List Word) (a : Addr), ((∃ k, g = .status k) ∨ ∃ k, g = .report k) →
    s.part.bpu.port = some (.write g none address ws) →
    let p := writtenAt address ws s.part
    let taken : Part := granted { p with bpu.hostQueue := [] }
    (∀ d, s.part.bpu.hostQueue = [.write (.address a) d] → exec .groupWriteComplete s =
        exec (.hostPassWrite a d) { s with part := { p with bpu.hostQueue := [] } })
    ∧ (windowAt a.toNat s.part = none → s.part.bpu.load ≠ some .start →
        (s.part.bpu.starvation < 64 ∨ workReady s.part = false) →
        (∀ d, s.part.bpu.hostQueue = [.write (.address a) d] →
          exec .groupWriteComplete s = .next { s with part := stored a.toNat d taken })
        ∧ (s.part.bpu.hostQueue = [.read (.address a)] → exec .groupWriteComplete s = .next
          { s with part := { taken with bpu.readData := readWord p.mem a.toNat } }))
    ∧ (∀ access, s.part.bpu.hostQueue = [access] → windowAt a.toNat s.part = none → s.part.bpu.load ≠ some .start →
        (access = .read (.address a) ∨ ∃ d, access = .write (.address a) d) → 64 ≤ s.part.bpu.starvation →
        (∀ (b : Bases) (next : Group), s.part.bpu.windows = some b →
          s.part.bpu.dirty.find? (fun x => !isCell x) = some next →
          exec .groupWriteComplete s = .next { s with part := writeBegun next p })
        ∧ (∀ (r : PartRead) (rest : List PartRead), (∀ x ∈ s.part.bpu.dirty, isCell x = true) →
          s.part.bpu.waiting = r :: rest → (s.part.pins.flashBusy = false ∨ ofFlash r.purpose = false) →
          exec .groupWriteComplete s = .next { s with part := readBegun r rest p })))

/-- PROFILE_READ_DONE (R70 to R73): words that leave the profile unfinished are kept and the next read is requested (a
run of 16 words at a time: the model's choice, log entry 43); a reload whose words end in a structure fault raises
PROFILE_BAD with detail 200 and the key's position, and one whose records do not make a good profile with the detail of
its first fault; a reload that finds a good profile takes every setting of it but the bases, takes the capacity in force
and judges the two vault thresholds by it (R53; VAULT_NEAR_FULL first: the model's choice, log entry 50), and clears
PROFILE_BAD (R73). The end of the start load takes the bases too, or the built-in ones with PROFILE_BAD; it marks the
publication, appends the START record, and requests the account's first slot and the start verification's header, in
either order (log entry 16). A host write held in the start load is taken at its end, under the windows just installed,
as one that arrives then (R72): passed, interpreted or suppressed; that one to a flash address outside the windows
stores its word like any other is the model's choice (log entry 6).
The reading (R70) keeps the records up to ZZ and checks the sum; a length above 255 or beyond the window, and a ZZ
record of another length than 1, are structure faults. The judgement (R71) finds the first fault in the order of the
causes, within one cause the lowest. What key a structure fault or a wrong check word concerns is the model's choice
(log entry 11); so is the key of a repeated one, the first record whose key came before, so that A B B A gives B (log
entry 47); that PULSE is read from LN's mode word alone is its reading (log entry 46). -/
def Obligations.ProfileReadsGoOn : Prop :=
  (∀ (s : State) (position : Nat) (words : List Word), readAtPort (.profile position) s.part → words.length = 16 →
    let all := s.part.bpu.profileWords ++ words
    (readProfile all = .more → exec (.profileReadDone words) s = .next { s with part := { s.part with
      bpu.port := none
      bpu.profileWords := all
      bpu.waiting := s.part.bpu.waiting ++ [{ purpose := .profile (position + 16), limit := none }] } })
    ∧ (s.part.bpu.load = some .reload → s.part.bpu.inFlight = some 8 → s.part.bpu.result = .pending →
        (∀ key, readProfile all = .structureFault key → exec (.profileReadDone words) s = .next
          { s with
            part := resulted .done (raise .profileBad (200 + key)
              { s.part with bpu.port := none, bpu.load := none, bpu.profileWords := [] }) })
        ∧ (∀ records checks detail, readProfile all = .ended records checks →
          judgeRecords records checks = .error detail → exec (.profileReadDone words) s = .next
          { s with
            part := resulted .done (raise .profileBad detail
              { s.part with bpu.port := none, bpu.load := none, bpu.profileWords := [] }) })
        ∧ (∀ records checks f, readProfile all = .ended records checks → judgeRecords records checks = .ok f →
          ∃ t, exec (.profileReadDone words) s = .next t ∧ profileInForce f t.part
            ∧ t.part.bpu.windows = s.part.bpu.windows ∧ t.part.bpu.load = none ∧ t.part.bpu.result = .done
            ∧ (let n := s.part.cau.money.vaultCount
              let capacity := max f.vc (n + s.part.cau.money.railCount)
              let judged := thresholdsRaised (decide (capacity * 9 / 10 ≤ n)) (decide (capacity - 8 ≤ n)) n s.part
              t.part.cau.capacity = some capacity ∧ t.part.cru.rows = (clear .profileBad judged).cru.rows
              ∧ isActive .profileBad t.part = false ∧ t.part.cru.queue = judged.cru.queue)
            ∧ t.part.mem = s.part.mem ∧ t.part.tick = s.part.tick))
    ∧ (s.part.bpu.load = some .start → s.part.rtu.engine = .idle → s.part.rtu.timing.state = .idle →
        s.part.rlu.dump = .waiting →
        (∀ records checks f, readProfile all = .ended records checks → judgeRecords records checks = .ok f →
          ∃ t, exec (.profileReadDone words) s = .next t ∧ profileInForce f t.part
            ∧ t.part.bpu.windows = some f.bases ∧ t.part.cru.rows = s.part.cru.rows ∧ startLoadEnded s.part t.part)
        ∧ (∀ detail, (∃ key, readProfile all = .structureFault key ∧ detail = 200 + key)
            ∨ (∃ records checks, readProfile all = .ended records checks
              ∧ judgeRecords records checks = .error detail) →
          ∃ t, exec (.profileReadDone words) s = .next t ∧ startLoadBad detail s.part t.part)))
  ∧ (∀ (s : State) (position : Nat) (words : List Word) (limit : Option Timer) (a : Addr) (d : Word),
    s.part.bpu.port = some (.read { purpose := .profile position, limit } false) →
    s.part.bpu.hostQueue = [.write (.address a) d] → s.part.bpu.load = some .start → words.length = 16 →
    s.part.rtu.engine = .idle → s.part.rtu.timing.state = .idle → s.part.rlu.dump = .waiting →
    let all := s.part.bpu.profileWords ++ words
    (readProfile all = .more → exec (.profileReadDone words) s = .next { s with part := { s.part with
      bpu.port := none
      bpu.profileWords := all
      bpu.waiting := s.part.bpu.waiting ++ [{ purpose := .profile (position + 16), limit := none }] } })
    ∧ (readProfile all ≠ .more → ∃ t, exec (.profileReadDone words)
          { s with part := { s.part with bpu.hostQueue := [] } } = .next t
        ∧ t.part.bpu.hostQueue = [] ∧ t.part.bpu.load = none ∧ t.part.bpu.port = none
        ∧ (∃ b, t.part.bpu.windows = some b)
        ∧ exec (.profileReadDone words) s = exec (.hostPassWrite a d) t
        ∧ (windowAt a.toNat t.part = none → s.part.bpu.starvation < 64 →
          exec (.profileReadDone words) s = .next { t with part := stored a.toNat d (granted t.part) })
        ∧ (∀ k o, windowAt a.toNat t.part = some (k, o) →
          (k = .mailbox ∧ o = 5 ∨ k = .status ∧ o ≠ 0 ∨ k = .callRing ∨ k = .reportRing ∨ k = .mapDump) →
          exec (.profileReadDone words) s = .next { t with part := suppressed a d k t.part })))
  ∧ (∀ (rs : List (Word × List Word)) (tail : List Word), (∀ r ∈ rs, keyOf r.1 ≠ some .zz ∧ r.2.length ≤ 255) →
    let image := profileImage rs
    (∀ check : Word, image.length + 3 ≤ 1024 → readProfile (image ++ [0x5A5A, 1, check] ++ tail) =
      .ended (rs.map fun r => { key := keyOf r.1, data := r.2 }) (check == ~~~(sumWords image + 0x5A5A + 1)))
    ∧ (∀ key length : Word, image.length ≤ 1024 →
        (255 < length.toNat ∨ 1024 < image.length + 2 + length.toNat) →
        readProfile (image ++ [key, length] ++ tail) = .structureFault (keyPosition (keyOf key)))
    ∧ (∀ length : Word, image.length + 2 + length.toNat ≤ 1024 → length.toNat ≤ 255 → length ≠ 1 →
        readProfile (image ++ [0x5A5A, length] ++ tail) = .structureFault 11)
    ∧ (image.length = 1024 → readProfile image = .structureFault 0 ∨ readProfile image = .structureFault 11))
  ∧ (∀ records : List ProfileRecord,
    let keyAt (j : Nat) : Option Key := (records[j]?).bind (·.key)
    let fits := recordFits (pulseMode records)
    (judgeRecords records false = .error 300 ∨ judgeRecords records false = .error 311)
    ∧ (∀ (j : Nat) (k : Key), keyAt j = some k → (∃ i, i < j ∧ keyAt i = some k) →
        (∀ j' i k', j' < j → i < j' → keyAt j' = some k' → keyAt i ≠ some k') →
        judgeRecords records true = .error (400 + k.position))
    ∧ ((∀ i j k, i < j → keyAt i = some k → keyAt j ≠ some k) →
        (∀ k ∈ requiredKeys, (∀ r ∈ records, r.key ≠ some k) →
          (∀ k' ∈ requiredKeys, k'.position < k.position → ∃ r ∈ records, r.key = some k') →
          judgeRecords records true = .error (500 + k.position))
        ∧ ((∀ k ∈ requiredKeys, ∃ r ∈ records, r.key = some k) →
          (∀ (j : Nat) (r : ProfileRecord), records[j]? = some r → fits r = false →
            (∀ (i : Nat) (x : ProfileRecord), i < j → records[i]? = some x → fits x = true) →
            judgeRecords records true = .error (600 + keyPosition r.key))
          ∧ ((∀ r ∈ records, fits r = true) → ∃ f, settingsOf records = some f
            ∧ judgeRecords records true = (if f.calendar.all dayFits = false then .error 710
              else if wellPlaced f.bases = false then .error 801 else .ok f)))))

/-- SCAN_HEADER_READ and SCAN_ENTRY_READ (R76, R77, R79, R84): a count of 1 to 200 begins the sum and the read of entry
0, any other is a bad verdict with detail 1; an entry enters the sum, the range check and, in a lookup, the best match,
and the next entry is read; the last entry of a verification with a good verdict clears TARIFF_BAD, with a bad check
word raises it with detail 2, and with a right one and an entry out of range with 100 plus the lowest index of such an
entry; a bad verdict invalidates the cache. The last entry of a lookup scan gives the same two verdicts, and DIAL is
answered TARIFF_BAD (R80, R138). -/
def Obligations.ScanReadsGoOn : Prop :=
  ∀ (s : State),
    (∀ count check : Word, readAtPort .scanHeader s.part → s.part.rtu.engine ≠ .idle → 1 ≤ count.toNat →
      count.toNat ≤ 200 → exec (.scanHeaderRead count check) s = .next { s with part := { s.part with
        bpu.port := none
        rtu.scan := { count := count.toNat, check, sum := count, best := none, outOfRange := none }
        bpu.waiting := s.part.bpu.waiting ++ [{ purpose := .scanEntry 0, limit := none }] } })
    ∧ (∀ count check : Word, readAtPort .scanHeader s.part → s.part.rtu.engine = .verify →
        s.part.rtu.verifyDue = false → (count.toNat = 0 ∨ 200 < count.toNat) →
        ∃ t, exec (.scanHeaderRead count check) s = .next t ∧ t.part.rtu.engine = .idle
          ∧ t.part.rtu.cache = invalidateCache s.part.rtu.cache
          ∧ t.part.cru.rows = (raise .tariffBad 1 s.part).cru.rows ∧ t.part.cc = s.part.cc
          ∧ t.part.cau = s.part.cau ∧ t.part.rlu = s.part.rlu ∧ t.part.mem = s.part.mem)
    ∧ (∀ (i : Nat) (number : List Nat) (n : Nat) (words : List Word), readAtPort (.scanEntry i) s.part →
        words.length = 8 → s.part.rtu.engine = .lookup number n → i + 1 < s.part.rtu.scan.count →
        exec (.scanEntryRead words) s = .next { s with part := { s.part with
          bpu.port := none
          rtu.scan := { s.part.rtu.scan with
            sum := s.part.rtu.scan.sum + sumWords words
            best := betterMatch number i (entryOf words) s.part.rtu.scan.best
            outOfRange :=
              if s.part.rtu.scan.outOfRange = none ∧ entryInRange (entryOf words) = false then some i
              else s.part.rtu.scan.outOfRange }
          bpu.waiting := s.part.bpu.waiting ++ [{ purpose := .scanEntry (i + 1), limit := none }] } })
    ∧ (∀ (i : Nat) (words : List Word), readAtPort (.scanEntry i) s.part → words.length = 8 →
        s.part.rtu.engine = .verify → s.part.rtu.verifyDue = false → i + 1 = s.part.rtu.scan.count →
        s.part.rtu.scan.outOfRange = none → entryInRange (entryOf words) = true →
        ∃ t, exec (.scanEntryRead words) s = .next t ∧ t.part.rtu.engine = .idle
          ∧ (s.part.rtu.scan.check = ~~~(s.part.rtu.scan.sum + sumWords words) →
              t.part.cru.rows = (clear .tariffBad s.part).cru.rows ∧ t.part.rtu.cache = s.part.rtu.cache)
          ∧ (s.part.rtu.scan.check ≠ ~~~(s.part.rtu.scan.sum + sumWords words) →
              t.part.cru.rows = (raise .tariffBad 2 s.part).cru.rows
              ∧ t.part.rtu.cache = invalidateCache s.part.rtu.cache)
          ∧ t.part.cc = s.part.cc ∧ t.part.cau = s.part.cau ∧ t.part.rlu = s.part.rlu ∧ t.part.mem = s.part.mem)
    ∧ (∀ (i j : Nat) (words : List Word), readAtPort (.scanEntry i) s.part → words.length = 8 →
        i + 1 = s.part.rtu.scan.count →
        (s.part.rtu.scan.outOfRange = some j
          ∨ s.part.rtu.scan.outOfRange = none ∧ entryInRange (entryOf words) = false ∧ j = i) →
        let detail := if s.part.rtu.scan.check = ~~~(s.part.rtu.scan.sum + sumWords words) then 100 + j else 2
        (s.part.rtu.engine = .verify → s.part.rtu.verifyDue = false →
          ∃ t, exec (.scanEntryRead words) s = .next t ∧ t.part.rtu.engine = .idle
            ∧ t.part.cru.rows = (raise .tariffBad detail s.part).cru.rows
            ∧ t.part.rtu.cache = invalidateCache s.part.rtu.cache ∧ t.part.cc = s.part.cc
            ∧ t.part.cau = s.part.cau ∧ t.part.rlu = s.part.rlu ∧ t.part.mem = s.part.mem)
        ∧ (∀ (number : List Nat) (n : Nat), s.part.rtu.engine = .lookup number n → s.part.bpu.inFlight = some 1 →
          s.part.bpu.result = .pending → s.part.cc.call = .rating →
          ∃ t, exec (.scanEntryRead words) s = .next t ∧ dialRefused .tariffBad s.part t.part
            ∧ t.part.rtu.engine = .idle ∧ t.part.cru.rows = (raise .tariffBad detail s.part).cru.rows
            ∧ t.part.rtu.cache = invalidateCache s.part.rtu.cache))

/-- START_LOAD_SLOT_READ (R45 to R47): a slot of records 0 to 3 that is good gives the shadow its figures, and the slot
of the next record is read, by the map the header has just given; one that is not good leaves its record all zero, or
the default header, puts it into the faulted set and raises ACCOUNT_FAULT with its number; counts that came early are
then applied. Record 4 ends the load: the capacity is taken and the two vault thresholds are judged by it (R53;
VAULT_NEAR_FULL first: the model's choice, log entry 50), the scrubber begins, and so does the start-up dump (R36): the
recorded banked credit is forfeited, the listing is valued head first up to 9,999 units, and what no entry carries goes
to suspense. RETURN_CONFIRM and CONFIRM_LIMIT_EXPIRY in the dump (R37, R38): each confirm books the head entry or an
unbooked return, and the dump goes on while the head shows a coin; it ends with the head empty, when the entries that
remain go to suspense with COIN_JAM of 30 and the type of the first, at the eighth unbooked return, or in FAULT, with
COIN_JAM of 20 and the type, 20 beyond the listing. SCRUB_READ_DONE of a hard slot (R50, R51): the record moves to the lowest free spare, or
ACCOUNT_FAULT is raised with its number plus 16. That a failed record's words are zero in every field, that a sensor's
confirm sets its pins, that the entries of the listing are valued from the smaller of R and 9,999, and the withdrawn
mark of a retired slot are the model's (log entries 41, 9, 12 and 17). -/
def Obligations.AccountLoadsInOrder : Prop :=
  (∀ (s : State) (n slot : Nat) (words : List Word) (head : Bool), readAtPort (.startLoad n slot) s.part →
    words.length = 24 → n < 4 → s.part.cau.load = .reading n →
    let good := recordGood n words
    ∃ t, exec (.startLoadSlotRead words head) s = .next t ∧ t.part.cau.load = .reading (n + 1)
      ∧ t.part.bpu.port = none
      ∧ t.part.bpu.waiting = s.part.bpu.waiting ++
        [{ purpose := .startLoad (n + 1) (slotOf (n + 1) t.part), limit := none }]
      ∧ t.part.cau.faulted = (if good then s.part.cau.faulted else s.part.cau.faulted ++ [n])
      ∧ t.part.cru.rows = (if good then s.part.cru.rows else (raise .accountFault n s.part).cru.rows)
      ∧ t.part.cau.header = (if n = 0 then (if good then headerOf words else Header.default) else s.part.cau.header)
      ∧ t.part.cau.money = (if n = 1 then (if good then moneyOf words else Money.zero) else s.part.cau.money)
      ∧ t.part.cau.types = (if n = 2 then (if good then typesOf words else TypeCounts.zero) else s.part.cau.types)
      ∧ t.part.cau.calls = (if n = 3 then
          s.part.cau.early.foldl (fun c e => addCounts e c) (if good then callsOf words else CallCounts.zero)
        else s.part.cau.calls)
      ∧ t.part.cau.early = (if n = 3 then [] else s.part.cau.early) ∧ t.part.cau.last = s.part.cau.last
      ∧ t.part.rlu = s.part.rlu ∧ t.part.cc = s.part.cc ∧ t.part.mem = s.part.mem)
  ∧ (∀ (s : State) (slot : Nat) (words : List Word) (head : Bool), readAtPort (.startLoad 4 slot) s.part →
    words.length = 24 → s.part.cau.load = .reading 4 → s.part.rlu.gate = .hold → gateRests s.part →
    let m := s.part.cau.money
    let recorded := (m.accepted - m.refunded - m.collected - m.suspense).toNat
    let types := (m.railTypes ++ List.replicate 8 0).take (min 8 m.railCount)
    let zero : Collection := { time := none, value := 0, count := 0 }
    ∃ t rail, exec (.startLoadSlotRead words head) s = .next t
      ∧ rail.map (fun c : Coin => c.type) = types
      ∧ sumValues rail = (if types = [] then 0 else min 9999 recorded)
      ∧ (∀ (j : Nat) (c : Coin), j + 1 < rail.length → rail[j]? = some c →
          c.value = min (typeValue c.type s.part) (min 9999 recorded - sumValues (rail.take j)))
      ∧ t.part.cau.load = .ended
      ∧ t.part.cau.last = (if recordGood 4 words then lastOf words else { latest := zero, previous := zero })
      ∧ t.part.cau.faulted = (if recordGood 4 words then s.part.cau.faulted else s.part.cau.faulted ++ [4])
      ∧ t.part.cau.capacity = s.part.cau.vc.map (fun v => max v (m.vaultCount + m.railCount))
      ∧ (let loaded := if recordGood 4 words then s.part else raise .accountFault 4 s.part
        let judged := thresholdsRaised (t.part.cau.capacity.any fun c => decide (c * 9 / 10 ≤ m.vaultCount))
          (t.part.cau.capacity.any fun c => decide (c - 8 ≤ m.vaultCount)) m.vaultCount loaded
        let jammed := if sumValues rail < recorded then raise .coinJam 40 judged else judged
        t.part.cru = (match head, rail with
          | false, c :: _ => (raise .coinJam (30 + c.type) jammed).cru
          | false, [] => jammed.cru
          | true, _ => jammed.cru))
      ∧ t.part.cau.position = 1 ∧ t.part.cau.strikes = List.replicate 9 none
      ∧ t.part.cau.mismatches = List.replicate 5 0 ∧ t.part.cau.scrub = some { start := s.part.tick, limit := 500 }
      ∧ t.part.cau.money = { m with
          forfeited := m.forfeited + BitVec.ofNat 32 m.banked, banked := 0
          suspense := m.suspense + BitVec.ofNat 32 (recorded - if head then sumValues rail else 0)
          railTypes := if head then types else [], railCount := if head then types.length else 0 }
      ∧ t.part.rlu = (if head then
            { s.part.rlu with rail := rail, banked := 0, dump := .running 0, gate := .refunding,
                              cycle := some { start := s.part.tick, limit := 400 } }
          else { s.part.rlu with rail := [], banked := 0, dump := .ended })
      ∧ (s.part.cru.rows.length = 14 → head = true → sumValues rail < recorded →
          isActive .coinJam t.part = true ∧ (rowOf .coinJam t.part).detail = 40)
      ∧ (∀ c rest, s.part.cru.rows.length = 14 → head = false → rail = c :: rest →
          isActive .coinJam t.part = true ∧ (rowOf .coinJam t.part).detail = 30 + c.type)
      ∧ t.part.cc.call = s.part.cc.call ∧ t.part.mem = s.part.mem ∧ t.part.tick = s.part.tick)
  ∧ (∀ (s : State) (n : Nat) (head : Bool), s.part.rlu.gate = .refunding → s.part.rlu.dump = .running n →
    gateRests s.part → s.part.rlu.clearWaits = false →
    (∀ c rest, s.part.rlu.rail = c :: rest → n < 8 →
      ∃ t, exec (.returnConfirm head) s = .next t
        ∧ t.part.rlu = (if head then
              { s.part.rlu with rail := rest, cycle := some { start := s.part.tick, limit := 400 } }
            else { s.part.rlu with rail := [], gate := .hold, cycle := none, dump := .ended })
        ∧ (let leaves := !head && !rest.isEmpty
          t.part.cau.money = { s.part.cau.money with
            refunded := s.part.cau.money.refunded + BitVec.ofNat 32 c.value
            suspense := s.part.cau.money.suspense + BitVec.ofNat 32 (if leaves then sumValues rest else 0)
            railTypes := if leaves then [] else s.part.cau.money.railTypes.drop 1
            railCount := if leaves then 0 else s.part.cau.money.railCount - 1 })
        ∧ t.part.cru = (match head, rest with
          | false, d :: _ => (raise .coinJam (30 + d.type) s.part).cru
          | false, [] => s.part.cru
          | true, _ => s.part.cru)
        ∧ (∀ d others, s.part.cru.rows.length = 14 → head = false → rest = d :: others →
            isActive .coinJam t.part = true ∧ (rowOf .coinJam t.part).detail = 30 + d.type)
        ∧ t.part.mem = s.part.mem)
    ∧ (s.part.rlu.rail = [] → n < 8 → ∃ t, exec (.returnConfirm head) s = .next t
        ∧ t.part.rlu = (if head = false then
              { s.part.rlu with gate := .hold, cycle := none, dump := .ended }
            else if n = 7 then { s.part.rlu with gate := .fault, cycle := none, dump := .ended }
            else { s.part.rlu with
              cycle := some { start := s.part.tick, limit := 400 }, dump := .running (n + 1) })
        ∧ t.part.cau.money =
          { s.part.cau.money with unbooked := min 65535 (s.part.cau.money.unbooked + 1) }
        ∧ t.part.cru.rows = (if head = true ∧ n = 7 then (raise .coinJam 50 s.part).cru.rows else s.part.cru.rows)
        ∧ t.part.mem = s.part.mem)
    ∧ (∀ c rest, due s.part.rlu.cycle s.part → s.part.rlu.rail = c :: rest →
        ∃ t, exec .confirmLimitExpiry s = .next t
          ∧ t.part.rlu = { s.part.rlu with
              rail := rest, gate := .fault, cycle := none, dump := .ended
              refund := if rest = [] then none else some rest.length }
          ∧ t.part.cau.money = { s.part.cau.money with
              suspense := s.part.cau.money.suspense + BitVec.ofNat 32 c.value
              railTypes := s.part.cau.money.railTypes.drop 1
              railCount := s.part.cau.money.railCount - 1 }
          ∧ t.part.cru.rows = (raise .coinJam (20 + c.type) s.part).cru.rows ∧ t.part.mem = s.part.mem)
    ∧ (due s.part.rlu.cycle s.part → s.part.rlu.rail = [] →
        ∃ t, exec .confirmLimitExpiry s = .next t
          ∧ t.part.rlu = { s.part.rlu with gate := .fault, cycle := none, dump := .ended }
          ∧ t.part.cau.money = s.part.cau.money
          ∧ t.part.cru.rows = (raise .coinJam 20 s.part).cru.rows ∧ t.part.mem = s.part.mem))
  ∧ (∀ (s : State) (n slot struck : Nat) (turn : ScrubTurn) (words : List Word), readAtPort (.scrub n slot) s.part →
    words.length = 24 → s.part.cau.turn = some turn → turn.touched = false → words ≠ recordWords n s.part →
    s.part.cau.strikes.getD slot none = some struck → s.part.cau.pass ≤ struck + 8 →
    ∃ t, exec (.scrubReadDone words) s = .next t ∧ t.part.cau.turn = none
      ∧ t.part.cau.strikes = s.part.cau.strikes.set slot none ∧ t.part.cau.money = s.part.cau.money
      ∧ t.part.rlu = s.part.rlu ∧ t.part.mem = s.part.mem
      ∧ (∀ spare others, n ≠ 0 → 0 ∉ s.part.cau.faulted → freeSpares s.part.cau.header = spare :: others →
          slot ≠ spare →
          t.part.cau.header = { slots := s.part.cau.header.slots.set (n - 1) spare
                                retired := s.part.cau.header.retired ++ [slot]
                                spares := s.part.cau.header.spares - 1 }
          ∧ t.part.cau.relocations =
            s.part.cau.relocations ++ [{ record := n, oldSlot := slot, newSlot := spare }]
          ∧ Group.account spare ∈ t.part.bpu.dirty ∧ Group.account slot ∉ t.part.bpu.dirty
          ∧ t.part.cru.rows = s.part.cru.rows)
      ∧ (n = 0 ∨ 0 ∈ s.part.cau.faulted ∨ freeSpares s.part.cau.header = [] →
          t.part.cau.header = s.part.cau.header ∧ Group.account slot ∈ t.part.bpu.dirty
          ∧ t.part.cru.rows = (raise .accountFault (n + 16) s.part).cru.rows))

/-- SCRUB_TURN and SCRUB_READ_DONE (R48, R49): a turn on a record that is not faulted, whose slot is neither dirty nor
being written, requests the slot's read, a turn on the header only while no relocation is in progress; one that is
skipped, for any of these, ends at once. Words equal to the shadow's end the turn and change nothing else, and so do the
words of a slot that was marked or written meanwhile; a mismatch on a slot with no strike, or with one older than 8
passes, is counted, marks the slot and S4, and records a strike with the pass number. -/
def Obligations.ScrubberCompares : Prop :=
  ∀ (s : State),
    (let n := s.part.cau.position
     let slot := slotOf n s.part
     due s.part.cau.scrub s.part →
      ((n ∈ s.part.cau.faulted ∨ Group.account slot ∈ s.part.bpu.dirty
          ∨ (∃ record address words, s.part.bpu.port = some (.write (.account slot) record address words))
          ∨ n = 0 ∧ s.part.cau.relocations ≠ []) →
        exec .scrubTurn s = .next { s with part := turnEnded s.part })
      ∧ (n ∉ s.part.cau.faulted → Group.account slot ∉ s.part.bpu.dirty →
        (∀ record address words, s.part.bpu.port ≠ some (.write (.account slot) record address words)) →
        (n = 0 → s.part.cau.relocations = []) → exec .scrubTurn s = .next { s with part := { s.part with
          cau.scrub := none
          cau.turn := some { record := n, slot, touched := false }
          bpu.waiting := s.part.bpu.waiting ++ [{ purpose := .scrub n slot, limit := none }] } }))
    ∧ (∀ (n slot : Nat) (t : ScrubTurn) (words : List Word), readAtPort (.scrub n slot) s.part → words.length = 24 →
        s.part.cau.turn = some t →
        (t.touched = true ∨ words = recordWords n s.part → exec (.scrubReadDone words) s = .next
          { s with part := turnEnded { s.part with bpu.port := none } })
        ∧ (t.touched = false → words ≠ recordWords n s.part →
          (∀ struck, s.part.cau.strikes.getD slot none = some struck → struck + 8 < s.part.cau.pass) →
          exec (.scrubReadDone words) s = .next
            { s with
              part := turnEnded { s.part with
                bpu.port := none
                bpu.dirty := insertGroup (.status 4) (insertGroup (.account slot) s.part.bpu.dirty)
                cau.mismatches := s.part.cau.mismatches.set n (min 65535 (s.part.cau.mismatches.getD n 0 + 1))
                cau.strikes := s.part.cau.strikes.set slot (some s.part.cau.pass) } }))

/-! ## Coins and the gate (R1 to R38) -/

/-- COIN_MEASUREMENT (R1, R5 to R12, R14) with the gate at rest and the reject window calm. Before the CU is ready, or
with no coin table, the coin is returned with REFUSED and no type. A valid coin goes to the rail when every condition of
R6 holds: it joins the tail, MONEY takes its value and type, its nominals move, and the flap is held for 250 ms; or it
is returned with the reason of the first condition that fails, which TYPE COUNTS counts, and no money moves. A coin
whose type is disabled (R3, R5, R9) is returned with DISABLED and its type and value, the flap unpowered, and no count
of a reason rises. A reject adds one to its cell of the reject map. A coin on the rail that brings the credit on hand to
s or more clears a set low-credit flag, in a call that is being charged (R106). -/
def Obligations.CoinRouted : Prop :=
  ∀ (s : State) (m : Measurement), gateRests s.part → s.part.cc.call ≠ .grace →
    ((s.part.bpu.load = some .start ∨ s.part.rlu.dump ≠ .ended ∨ s.part.cu.table = none) →
      windowCalm .notRejected s.part → ∃ t, exec (.coinMeasurement m.d m.a m.t) s = .next t
      ∧ coinPublished 0 0 .refused m s.part t.part ∧ t.part.cu.flap = none
      ∧ t.part.cu.window = joinWindow .notRejected s.part.cu.window ∧ t.part.cu.rejects = s.part.cu.rejects
      ∧ t.part.cu.table = s.part.cu.table ∧ t.part.cau = s.part.cau ∧ t.part.rlu = s.part.rlu
      ∧ t.part.cc = s.part.cc ∧ t.part.cru = s.part.cru ∧ t.part.mem = s.part.mem)
    ∧ (∀ table, s.part.bpu.load ≠ some .start → s.part.rlu.dump = .ended → s.part.cu.table = some table →
      (∀ k v, classifyCoin table m = .valid k v → windowCalm .notRejected s.part →
        ∃ t, exec (.coinMeasurement m.d m.a m.t) s = .next t
        ∧ coinPublished k v (firstFailing v s.part) m s.part t.part
        ∧ t.part.cu.window = joinWindow .notRejected s.part.cu.window ∧ t.part.cu.rejects = s.part.cu.rejects
        ∧ (firstFailing v s.part = .none →
          t.part.rlu = { s.part.rlu with rail := s.part.rlu.rail ++ [{ type := k, value := v }] }
          ∧ t.part.cau.money = { s.part.cau.money with
              accepted := s.part.cau.money.accepted + BitVec.ofNat 32 v
              railTypes := s.part.cau.money.railTypes.take s.part.cau.money.railCount ++ [k]
              railCount := s.part.cau.money.railCount + 1 }
          ∧ t.part.cau.types = s.part.cau.types ∧ t.part.cu.table = some (moveType k m table)
          ∧ t.part.cu.flap = some { start := s.part.tick, limit := 250 }
          ∧ Group.status 1 ∈ t.part.bpu.dirty ∧ t.part.bpu.causes.getLsbD 1 = true
          ∧ (1 ∉ s.part.cau.faulted → Group.account (slotOf 1 s.part) ∈ t.part.bpu.dirty))
        ∧ (firstFailing v s.part ≠ .none →
          t.part.rlu = s.part.rlu ∧ t.part.cau.money = s.part.cau.money ∧ t.part.cu.table = some table
          ∧ t.part.cu.flap = none ∧ ∃ i, (firstFailing v s.part).countIndex = some i
            ∧ t.part.cau.types = { s.part.cau.types with
                returned := s.part.cau.types.returned.set i (min 65535 (s.part.cau.types.returned.getD i 0 + 1)) })
        ∧ t.part.cc = (if firstFailing v s.part = .none then { s.part.cc with low := lowKept s.part t.part }
          else s.part.cc)
        ∧ t.part.cru = s.part.cru ∧ t.part.lu = s.part.lu ∧ t.part.rtu = s.part.rtu
        ∧ t.part.mem = s.part.mem ∧ t.part.tick = s.part.tick)
      ∧ (∀ k v, classifyCoin table m = .disabled k v → windowCalm .notRejected s.part →
        ∃ t, exec (.coinMeasurement m.d m.a m.t) s = .next t ∧ coinPublished k v .disabled m s.part t.part
        ∧ t.part.cu.window = joinWindow .notRejected s.part.cu.window ∧ t.part.cu.rejects = s.part.cu.rejects
        ∧ t.part.cu.table = some table ∧ t.part.cu.flap = none ∧ t.part.cau = s.part.cau
        ∧ t.part.rlu = s.part.rlu ∧ t.part.cc = s.part.cc ∧ t.part.cru = s.part.cru ∧ t.part.lu = s.part.lu
        ∧ t.part.rtu = s.part.rtu ∧ t.part.mem = s.part.mem)
      ∧ (∀ why, classifyCoin table m = .reject why → windowCalm why s.part → s.part.cu.dump = none →
        let i := m.d.toNat / 4096 * 16 + m.a.toNat / 4096
        (readWord s.part.cu.rejects i).toNat + 1 < table.cluster → Memory.wf s.part.cu.rejects = true →
        table.cluster ≤ 1000 →
        ∃ t, exec (.coinMeasurement m.d m.a m.t) s = .next t
        ∧ coinPublished 0 0 (if why = .transit then .transit else .noMatch) m s.part t.part
        ∧ t.part.cu.window = joinWindow why s.part.cu.window
        ∧ (readWord t.part.cu.rejects i).toNat = (readWord s.part.cu.rejects i).toNat + 1
        ∧ (∀ j, j ≠ i → readWord t.part.cu.rejects j = readWord s.part.cu.rejects j)
        ∧ t.part.cu.table = s.part.cu.table ∧ t.part.cau = s.part.cau ∧ t.part.rlu = s.part.rlu
        ∧ t.part.cc = s.part.cc ∧ t.part.cru = s.part.cru ∧ t.part.mem = s.part.mem))

/-- VAULT_CONFIRM, RETURN_CONFIRM, CONFIRM_LIMIT_EXPIRY and FLAP_RELEASE (R5, R20, R22 to R24, R29, R33, R34). The
gate's position follows from its state: TO_VAULT in VAULTING, TO_RETURN in REFUNDING, HOLD in HOLD and FAULT. A confirm
that matches no cycle is ignored by the rail: it sets its own sensor's pin and hold, by the free values
`Config.vaultStays` and `Config.returnStays`, and RETURN_CONFIRM also the head sensor's pin, which takes the reading
that the command carries; VAULT_CONFIRM never touches the head sensor. What the pins and the holds show is the model's
choice (log entry 9). A collect moves the head coin's value to banked credit and to the vault, and while the charge is
not yet covered the next cycle begins; one that brings the vault count to a threshold whose condition is clear raises it
(R53; VAULT_NEAR_FULL first: the model's choice, log entry 50). A refund cycle takes the head coin off with its value in
refunded, and the last one ends the refund. A refund cycle without its confirm takes the value to suspense and the gate
to FAULT, raises COIN_JAM with 20 and the type, and keeps the remaining count. Each change to banked credit or rail
value examines a set low-credit flag (R106). -/
def Obligations.GateCyclesEnd : Prop :=
  ∀ s : State,
    gatePosition s.part = (match s.part.rlu.gate with
      | .hold => .hold
      | .vaulting => .toVault
      | .refunding => .toReturn
      | .fault => .hold)
    ∧ (s.part.rlu.gate ≠ .vaulting → exec .vaultConfirm s = .next { s with part := vaultInterrupted s.part })
    ∧ (∀ head, s.part.rlu.gate ≠ .refunding → exec (.returnConfirm head) s = .next { s with part :=
        { returnInterrupted s.part with pins.headOccupied := head } })
    ∧ (∀ c rest a, s.part.rlu.gate = .vaulting → s.part.rlu.dump = .ended → s.part.rlu.rail = c :: rest →
        s.part.rlu.charge = some { amount := a, collecting := true } → s.part.rlu.banked + c.value < a →
        s.part.rlu.clearWaits = false →
        let n := s.part.cau.money.vaultCount + 1
        let judged := thresholdsRaised (s.part.cau.capacity.any fun cap => decide (n = cap * 9 / 10))
          (s.part.cau.capacity.any fun cap => decide (n = cap - 8)) n s.part
        ∃ t, exec .vaultConfirm s = .next t
          ∧ t.part.rlu = { s.part.rlu with
              rail := rest, banked := s.part.rlu.banked + c.value, gate := .vaulting
              cycle := some { start := s.part.tick, limit := 400 } }
          ∧ t.part.cau.money = { s.part.cau.money with
              collected := s.part.cau.money.collected + BitVec.ofNat 32 c.value
              banked := s.part.cau.money.banked + c.value
              vaultValue := s.part.cau.money.vaultValue + BitVec.ofNat 32 c.value
              vaultCount := s.part.cau.money.vaultCount + 1
              railTypes := s.part.cau.money.railTypes.drop 1
              railCount := s.part.cau.money.railCount - 1 }
          ∧ t.part.cau.types =
            { s.part.cau.types with
              vault := s.part.cau.types.vault.set (c.type - 1)
                (min 65535 (s.part.cau.types.vault.getD (c.type - 1) 0 + 1)) }
          ∧ t.part.cc = { s.part.cc with
              low := lowKept s.part t.part
              placed := s.part.cc.placed.map fun x => { x with collected := x.collected + 1 } }
          ∧ Group.status 1 ∈ t.part.bpu.dirty ∧ t.part.cru = judged.cru ∧ t.part.lu = judged.lu
          ∧ t.part.rtu = s.part.rtu ∧ t.part.cu = s.part.cu ∧ t.part.mem = s.part.mem)
    ∧ (∀ c rest n head, s.part.rlu.gate = .refunding → s.part.rlu.dump = .ended → s.part.rlu.rail = c :: rest →
        s.part.rlu.refund = some (n + 1) → s.part.rlu.charge = none → s.part.rlu.pendingRefund = false →
        s.part.rlu.clearWaits = false →
        ∃ t, exec (.returnConfirm head) s = .next t
          ∧ t.part.rlu = (if n = 0 then
              { s.part.rlu with rail := rest, gate := .hold, cycle := none, refund := none }
            else { s.part.rlu with
              rail := rest, gate := .refunding, refund := some n
              cycle := some { start := s.part.tick, limit := 400 } })
          ∧ t.part.cau.money = { s.part.cau.money with
              refunded := s.part.cau.money.refunded + BitVec.ofNat 32 c.value
              railTypes := s.part.cau.money.railTypes.drop 1
              railCount := s.part.cau.money.railCount - 1 }
          ∧ t.part.cau.types = s.part.cau.types ∧ t.part.cc = { s.part.cc with low := lowKept s.part t.part }
          ∧ t.part.cru = s.part.cru ∧ t.part.lu = s.part.lu ∧ t.part.rtu = s.part.rtu ∧ t.part.cu = s.part.cu
          ∧ t.part.mem = s.part.mem)
    ∧ (∀ c rest n, due s.part.rlu.cycle s.part → s.part.rlu.gate = .refunding → s.part.rlu.dump = .ended →
        s.part.rlu.rail = c :: rest → s.part.rlu.refund = some (n + 1) → s.part.rlu.charge = none →
        ∃ t, exec .confirmLimitExpiry s = .next t
          ∧ t.part.rlu = { s.part.rlu with rail := rest, gate := .fault, cycle := none, refund := some n }
          ∧ t.part.cau.money = { s.part.cau.money with
              suspense := s.part.cau.money.suspense + BitVec.ofNat 32 c.value
              railTypes := s.part.cau.money.railTypes.drop 1
              railCount := s.part.cau.money.railCount - 1 }
          ∧ t.part.cru.rows = (raise .coinJam (20 + c.type) s.part).cru.rows
          ∧ t.part.cc = { s.part.cc with low := lowKept s.part t.part } ∧ t.part.rtu = s.part.rtu
          ∧ t.part.cu = s.part.cu ∧ t.part.mem = s.part.mem)
    ∧ (due s.part.cu.flap s.part → exec .flapRelease s = .next { s with part := { s.part with cu.flap := none } })

/-! ## Time, tariffs and charging (R84, R92 to R101) -/

/-- CLOCK_SECOND and QUIET_TIMER_EXPIRY (R84, R92, R94): the clock moves one second on, midnight begins the next day and
day 6 is followed by day 0, and an UNSET clock stays so; S6 is marked and the band is judged, with no call being
charged. The quiet timer's expiry begins a verification at once with the engine IDLE, and leaves its mark otherwise. -/
def Obligations.ClockAndQuietTimer : Prop :=
  ∀ s : State,
    (due (some (phaseTimer s.part)) s.part → s.part.rtu.timing.state = .idle → gateRests s.part →
      let clock : WallTime := (match s.part.rtu.clock with
        | none => none
        | some (day, second) =>
          some (if second + 1 < 86400 then (day, second + 1) else if day = 6 then (0, 0) else (day + 1, 0)))
      let band := bandOf s.part.rtu.calendar clock
      let q := markS 6 { s.part with rtu.clock := clock, rtu.second := s.part.rtu.second + 1000 }
      validWall s.part.rtu.clock → exec .clockSecond s = .next
        { s with part := if band = s.part.rtu.band then q else markS 2 { q with rtu.band := band } })
    ∧ (due s.part.rtu.quiet s.part → s.part.rtu.engine = .idle →
        exec .quietTimerExpiry s = .next { s with part := { s.part with
          rtu.quiet := none
          rtu.verifyDue := false
          rtu.engine := .verify
          rtu.scan := { count := 0, check := 0, sum := 0, best := none, outOfRange := none }
          bpu.waiting := s.part.bpu.waiting ++ [{ purpose := .scanHeader, limit := none }] } })
    ∧ (due s.part.rtu.quiet s.part → s.part.rtu.engine ≠ .idle →
        exec .quietTimerExpiry s = .next { s with part := { s.part with rtu.quiet := none, rtu.verifyDue := true } })

/-- STEP_END (R98, R101) at the end tick of a RUNNING step: in a zero-rate band the timing waits; with the step unpaid,
in GRACE with no charge in flight or with one that a collect serves or that waits behind a refund, it is HELD with the
due step's start and band; with the step paid the next step begins at the ended step's end tick, its duration by R96
with the remainder of its own band, its charge is taken from banked credit where that covers it, and MONEY books it. The
band judged anew (R94, R99) leaves RUNNING and HELD alone; WAITING stays in another zero-rate band, and in a paying one
the step due now begins with remainder 0 and sends its charge if the step before it is paid, or is HELD; CLOCK_SECOND
judges the band so. After each answer the low-credit flag is set just where the credit on hand is less than s, with
LOW_CREDIT when that takes it from clear to set (R106). The report of payment in HELD (R100), as VAULT_CONFIRM brings
it, begins the due step at its kept start and band; one whose end has passed is HELD again, or WAITING in a zero-rate
band. -/
def Obligations.StepEnds : Prop :=
  (∀ s : State, s.part.rtu.timing.state = .running → s.part.tick = s.part.rtu.timing.finish →
    let t := s.part.rtu.timing
    let band := bandNow s.part
    (rateOf band s.part = 0 → gateStill s.part →
      exec .stepEnd s = .next { s with part := markS 2 { s.part with rtu.timing.state := .waiting } })
    ∧ (rateOf band s.part ≠ 0 → s.part.cc.paid = false → gateStill s.part →
        exec .stepEnd s = .next { s with part := markS 2 { s.part with
          rtu.timing.state := .held, rtu.timing.heldStart := t.finish, rtu.timing.heldBand := band } })
    ∧ (rateOf band s.part ≠ 0 → s.part.cc.paid = true → gateRests s.part → s.part.rlu.dump = .ended →
        s.part.rlu.gate = .hold → s.part.cc.call = .talking → chargeStep s.part ≤ s.part.rlu.banked →
        let d := stepDuration (chargeStep s.part) (rateOf band s.part) (if band = t.band then t.carry else 0)
        ∃ u, exec .stepEnd s = .next u
          ∧ u.part.rtu = { s.part.rtu with timing := { t with
              index := t.index + 1, band := band, start := t.finish, finish := t.finish + BitVec.ofNat 32 d.1
              carry := d.2 } }
          ∧ u.part.rlu = { s.part.rlu with banked := s.part.rlu.banked - chargeStep s.part }
          ∧ u.part.cau.money = { s.part.cau.money with
              charged := s.part.cau.money.charged + BitVec.ofNat 32 (chargeStep s.part)
              banked := s.part.cau.money.banked - chargeStep s.part }
          ∧ u.part.cc.steps = s.part.cc.steps + 1 ∧ u.part.cc.charged = s.part.cc.charged + chargeStep s.part
          ∧ u.part.cc.paid = true ∧ u.part.cc.call = .talking ∧ u.part.cc.placed = s.part.cc.placed
          ∧ creditExamined s.part.cc.low s.part u.part
          ∧ Group.status 2 ∈ u.part.bpu.dirty ∧ u.part.lu = s.part.lu ∧ u.part.cru = s.part.cru
          ∧ u.part.cu = s.part.cu ∧ u.part.mem = s.part.mem))
  ∧ (∀ p : Part, bandNow p ≠ p.rtu.band →
    let t := p.rtu.timing
    let band := bandNow p
    let d := stepDuration (chargeStep p) (rateOf band p) 0
    (t.state = .running ∨ t.state = .held ∨ t.state = .waiting ∧ rateOf band p = 0 →
      judgeBand p = { p with rtu.band := band })
    ∧ (t.state = .waiting → rateOf band p ≠ 0 → p.cc.paid = false →
      judgeBand p = markS 2 { p with
        rtu.band := band
        rtu.timing := { t with state := .held, carry := 0, heldStart := p.tick, heldBand := band } })
    ∧ (t.state = .waiting → rateOf band p ≠ 0 → p.cc.paid = true →
      judgeBand p = markS 2 { p with
        rtu.band := band
        rtu.timing := { t with
          state := .running, index := t.index + 1, band, start := p.tick
          finish := p.tick + BitVec.ofNat 32 d.1, carry := d.2 }
        rlu.charge := some { amount := chargeStep p, collecting := false }
        cc.paid := false }))
  ∧ (∀ s : State, due (some (phaseTimer s.part)) s.part → s.part.rtu.timing.state = .waiting → gateRests s.part →
    let q := markS 6 { s.part with
      rtu.clock := nextSecond s.part.rtu.clock, rtu.second := s.part.rtu.second + 1000 }
    (s.part.cc.paid = false ∨ bandNow q = s.part.rtu.band ∨ rateOf (bandNow q) q = 0 →
      exec .clockSecond s = .next { s with part := judgeBand q })
    ∧ (s.part.cc.paid = true → bandNow q ≠ s.part.rtu.band → rateOf (bandNow q) q ≠ 0 → s.part.rlu.dump = .ended →
      s.part.rlu.gate = .hold → s.part.cc.call = .talking → chargeStep s.part ≤ s.part.rlu.banked →
      ∃ u, exec .clockSecond s = .next u ∧ u.part.rtu = (judgeBand q).rtu ∧ stepPaid (chargeStep s.part) s.part u.part
        ∧ creditExamined s.part.cc.low s.part u.part
        ∧ u.part.rlu = { s.part.rlu with banked := s.part.rlu.banked - chargeStep s.part }
        ∧ u.part.cc.call = .talking ∧ u.part.lu = s.part.lu ∧ u.part.mem = s.part.mem))
  ∧ (∀ (s : State) (a : Nat) (coin : Coin) (rest : List Coin), s.part.rtu.timing.state = .held →
    s.part.rlu.charge = some { amount := a, collecting := true } → s.part.rlu.gate = .vaulting →
    s.part.rlu.rail = coin :: rest → s.part.rlu.dump = .ended → s.part.rlu.refund = none →
    s.part.rlu.pendingRefund = false → s.part.rlu.clearWaits = false → a ≤ s.part.rlu.banked + coin.value →
    (s.part.cc.call = .talking ∨ s.part.cc.call = .grace) →
    let t := s.part.rtu.timing
    let left := s.part.rlu.banked + coin.value - a
    let d := stepDuration (chargeStep s.part) (rateOf t.heldBand s.part) (if t.heldBand = t.band then t.carry else 0)
    let begun : Timing :=
      { t with
        state := .running, index := t.index + 1, band := t.heldBand, start := t.heldStart
        finish := t.heldStart + BitVec.ofNat 32 d.1, carry := d.2 }
    let rlu : Rlu := { s.part.rlu with rail := rest, charge := none, gate := .hold, cycle := none }
    (elapsed t.heldStart s.part < d.1 → chargeStep s.part ≤ left →
      ∃ u, exec .vaultConfirm s = .next u ∧ u.part.rtu = { s.part.rtu with timing := begun }
        ∧ u.part.rlu = { rlu with banked := left - chargeStep s.part } ∧ u.part.cc.call = .talking
        ∧ u.part.cc.paid = true ∧ u.part.cc.steps = s.part.cc.steps + 2
        ∧ u.part.cc.charged = s.part.cc.charged + a + chargeStep s.part
        ∧ u.part.cc.low = decide (creditOnHand u.part < chargeStep s.part) ∧ u.part.mem = s.part.mem)
    ∧ (left + sumValues rest < chargeStep s.part →
      ∃ u, exec .vaultConfirm s = .next u ∧ u.part.rlu = { rlu with banked := left }
        ∧ u.part.rtu = { s.part.rtu with timing := (
            if elapsed t.heldStart s.part < d.1 then begun
            else if rateOf (bandNow s.part) s.part = 0 then { begun with state := .waiting }
            else { begun with state := .held, heldStart := begun.finish, heldBand := bandNow s.part }) }
        ∧ u.part.cc.call = .grace ∧ u.part.cc.paid = false ∧ u.part.cc.owed = chargeStep s.part
        ∧ u.part.cc.grace = some { start := s.part.tick, limit := graceTime s.part }
        ∧ u.part.cc.steps = s.part.cc.steps + 1 ∧ u.part.cc.charged = s.part.cc.charged + a
        ∧ u.part.cc.low = decide (creditOnHand u.part < chargeStep s.part) ∧ u.part.mem = s.part.mem))

/-! ## Calls and the line (R104, R108 to R131, R141, R179) -/

/-- RELEASE, GRACE_EXPIRY, LOOP_LIMIT_EXPIRY, SEARCH_LIMIT_EXPIRY, ANSWER_TIMEOUT, CLEAR_HOLD_END and LOSS_TIMER_EXPIRY
end the customer's standing call, each with its outcome (R104, R113, R117, R122, R126, R127, R129, R141, R142, R179),
its cache entry unlocked (R89); RELEASE with no call to end answers NOT_ALLOWED, and the grace timer's expiry with a
retry in flight waits for it. With a charge in flight RELEASE, CLEAR_HOLD_END and LOSS_TIMER_EXPIRY put the call in
ENDING, outcome and tick kept, the timing stopped, the line cleared where the LU ended it (R105, R141); there
VAULT_CONFIRM (CHARGED, the step is started) and CONFIRM_LIMIT_EXPIRY (SHORT) complete it: the record is appended, the
counts rise, a waiting settlement is made, and RELEASE is DONE (R142).
REVERSAL_HOLD_END and TIMED_ANSWER_EXPIRY of a call of another class than FREE (R97, R101): step 1 begins, and c0 + s is
taken from banked credit, or collected, or short: then GRACE with its timer and the amount owed (R28, R102).
VAULT_CONFIRM that covers the charge: the step is started and paid, the call in TALKING (R29, R103).
CONFIRM_LIMIT_EXPIRY in a collect (R29, R30): TALKING enters GRACE, GRACE goes on, and after the grace expiry the call
ends with CREDIT_EXHAUSTED. A coin that joins in GRACE sends the amount owed again, or is noted while a retry is in
flight.
LOSS_TIMER_EXPIRY is due too with the timer paused by a break at 300 ms or more (log entry 45). Each answer examines the
credit on hand (R106): below s the low-credit flag is set, with LOW_CREDIT as it goes from clear to set, else cleared; a
collect, a loss and a joining coin examine a set flag, and the coin that brings the credit to s clears it at its join
(log entry 51). The end of a charged call clears it; an answer in ENDING leaves it and sets no LOW_CREDIT (log entry
20). These three are the model's. -/
def Obligations.CallsEnd : Prop :=
  ∀ (s : State) (c : PlacedCall),
    (∀ b : Bases, HostReady b s.part → s.part.bpu.inFlight = none →
      (callStands c s.part → ∃ t, exec .release s = .next t ∧ t.part.bpu.result = .done
        ∧ callEnded (if c.answer.isSome then .released else .abandoned) c (mailboxTaken b 2 s.part) t.part)
      ∧ (callHeld c s.part → chargeInFlight s.part → ∃ t, exec .release s = .next t
        ∧ callEnding (if c.answer.isSome then .released else .abandoned) c (mailboxTaken b 2 s.part) t.part
        ∧ t.part.bpu.result = .pending ∧ t.part.bpu.inFlight = some 2 ∧ t.part.lu = s.part.lu
        ∧ t.part.rlu = s.part.rlu)
      ∧ (s.part.cc.call = .idle ∨ s.part.cc.call = .collecting ∨ s.part.cc.call = .rating
          ∨ s.part.cc.call = .ending →
        exec .release s = .next { s with part := resulted .notAllowed (mailboxTaken b 2 s.part) }))
    ∧ (due s.part.cc.grace s.part → s.part.cc.call = .grace →
        (callStands c s.part → ∃ t, exec .graceExpiry s = .next t ∧ callEnded .creditExhausted c s.part t.part)
        ∧ (s.part.rlu.charge.isSome = true → exec .graceExpiry s = .next { s with part := { s.part with
            cc.grace := none, cc.graceOver := true } }))
    ∧ (callStands c s.part → s.part.lu.owner = .customer →
        (due s.part.lu.loopLimit s.part → ∃ t, exec .loopLimitExpiry s = .next t
          ∧ callEnded .noLoop c s.part t.part)
        ∧ (due s.part.lu.searchLimit s.part → ∃ t, exec .searchLimitExpiry s = .next t
          ∧ callEnded .noDialtone c s.part t.part)
        ∧ (due s.part.lu.answerLimit s.part → ∃ t, exec .answerTimeout s = .next t
          ∧ callEnded .noAnswer c s.part t.part)
        ∧ (due s.part.lu.clearHold s.part → ∃ t, exec .clearHoldEnd s = .next t
          ∧ callEnded .farClear c s.part t.part)
        ∧ (due (lossTimer s.part) s.part → ∃ t, exec .lossTimerExpiry s = .next t
          ∧ callEnded .lineLost c s.part t.part))
    ∧ (callHeld c s.part → chargeInFlight s.part → s.part.lu.owner = .customer →
        (due s.part.lu.clearHold s.part → ∃ t, exec .clearHoldEnd s = .next t
          ∧ callEnding .farClear c s.part t.part ∧ lineCleared s.part t.part ∧ t.part.rlu = s.part.rlu)
        ∧ (due (lossTimer s.part) s.part → ∃ t, exec .lossTimerExpiry s = .next t
          ∧ callEnding .lineLost c s.part t.part ∧ lineCleared s.part t.part ∧ t.part.rlu = s.part.rlu))
    ∧ (s.part.cc.placed = some c → s.part.rlu.dump = .ended → s.part.rlu.refund = none →
        s.part.rlu.pendingRefund = false → s.part.rlu.clearWaits = false →
      (s.part.rlu.charge = none → s.part.rlu.gate = .hold → s.part.lu.owner = .customer → c.cls ≠ .freeClass →
        (due s.part.lu.reversalHold s.part ∨ due (timedSilence s.part) s.part) →
        let band := bandNow s.part
        let rate := rateOf band s.part
        let a := connectionCharge s.part + chargeStep s.part
        let d := stepDuration (chargeStep s.part) rate 0
        ∃ t, (due s.part.lu.reversalHold s.part → exec .reversalHoldEnd s = .next t)
          ∧ (due (timedSilence s.part) s.part → exec .timedAnswerExpiry s = .next t)
          ∧ t.part.lu.line = .connected
          ∧ t.part.cc.placed = some { c with answer := some { tick := s.part.tick, band } }
          ∧ t.part.rtu.timing = (if rate = 0 then
              { s.part.rtu.timing with state := .waiting, index := 1, band, start := s.part.tick
                                       finish := s.part.tick, carry := 0 }
            else
              { s.part.rtu.timing with state := .running, index := 1, band, start := s.part.tick
                                       finish := s.part.tick + BitVec.ofNat 32 d.1, carry := d.2 })
          ∧ (a ≤ s.part.rlu.banked → t.part.cc.call = .talking
            ∧ stepPaid a s.part t.part ∧ creditExamined s.part.cc.low s.part t.part
            ∧ t.part.rlu = { s.part.rlu with banked := s.part.rlu.banked - a }
            ∧ t.part.cau.money = { s.part.cau.money with
                charged := s.part.cau.money.charged + BitVec.ofNat 32 a
                banked := s.part.cau.money.banked - a })
          ∧ (s.part.rlu.banked + railValue s.part < a → graceEntered a s.part t.part ∧ t.part.cc.paid = false
            ∧ creditExamined s.part.cc.low s.part t.part ∧ t.part.rlu = s.part.rlu ∧ t.part.cau = s.part.cau)
          ∧ (s.part.rlu.banked < a → a ≤ s.part.rlu.banked + railValue s.part → t.part.cc.call = .talking
            ∧ t.part.cc.paid = false ∧ t.part.cau = s.part.cau ∧ t.part.rlu = { s.part.rlu with
                charge := some { amount := a, collecting := true }, gate := .vaulting
                cycle := some { start := s.part.tick, limit := 400 } }))
      ∧ (∀ a coin rest, s.part.rlu.charge = some { amount := a, collecting := true } → s.part.rlu.gate = .vaulting →
        s.part.rlu.rail = coin :: rest →
        (a ≤ s.part.rlu.banked + coin.value → (s.part.cc.call = .talking ∨ s.part.cc.call = .grace) →
          s.part.rtu.timing.state ≠ .held →
          ∃ t, exec .vaultConfirm s = .next t ∧ t.part.cc.call = .talking
            ∧ t.part.cc.grace = (if s.part.cc.call = .grace then none else s.part.cc.grace)
            ∧ stepPaid a s.part t.part ∧ t.part.rtu = s.part.rtu
            ∧ (s.part.rtu.timing.state ≠ .idle → creditExamined (s.part.cc.low
                && decide (s.part.rlu.banked + railValue s.part < chargeStep s.part)) s.part t.part)
            ∧ (s.part.rtu.timing.state = .idle → t.part.cc.low = s.part.cc.low)
            ∧ t.part.rlu = { s.part.rlu with
                rail := rest, banked := s.part.rlu.banked + coin.value - a, charge := none, gate := .hold
                cycle := none }
            ∧ t.part.cau.money = { s.part.cau.money with
                collected := s.part.cau.money.collected + BitVec.ofNat 32 coin.value
                charged := s.part.cau.money.charged + BitVec.ofNat 32 a
                banked := s.part.cau.money.banked + coin.value - a
                vaultValue := s.part.cau.money.vaultValue + BitVec.ofNat 32 coin.value
                vaultCount := s.part.cau.money.vaultCount + 1
                railTypes := s.part.cau.money.railTypes.drop 1
                railCount := s.part.cau.money.railCount - 1 })
        ∧ (due s.part.rlu.cycle s.part → s.part.rlu.banked < a → (s.part.cc.call = .talking ∨ s.part.cc.call = .grace) →
          s.part.cc.noted = false → s.part.rlu.settlementDue = false → ∃ t, exec .confirmLimitExpiry s = .next t
          ∧ t.part.rlu = { s.part.rlu with rail := rest, charge := none, gate := .fault, cycle := none }
          ∧ t.part.cau.money = { s.part.cau.money with
              suspense := s.part.cau.money.suspense + BitVec.ofNat 32 coin.value
              railTypes := s.part.cau.money.railTypes.drop 1
              railCount := s.part.cau.money.railCount - 1 }
          ∧ t.part.cru.rows = (raise .coinJam (10 + coin.type) s.part).cru.rows
          ∧ (s.part.cc.call = .talking → graceEntered a s.part t.part)
          ∧ (s.part.rtu.timing.state ≠ .idle → (s.part.cc.call = .talking ∨ s.part.cc.graceOver = false) →
            creditExamined s.part.cc.low s.part t.part)
          ∧ (s.part.cc.call = .grace → s.part.cc.graceOver = false →
            t.part.cc.call = .grace ∧ t.part.cc.grace = s.part.cc.grace ∧ t.part.cc.owed = s.part.cc.owed)
          ∧ (s.part.cc.call = .grace → s.part.cc.graceOver = true → s.part.cau.load = .ended →
              s.part.cc.heldCount < 64 →
            t.part.cc.call = (if s.part.cc.off then .collecting else .idle) ∧ t.part.cc.placed = none
            ∧ (s.part.cc.producer, RingRecord.call (recordNow .creditExhausted c s.part)) ∈ t.part.cc.records
            ∧ t.part.cau.calls.cut = s.part.cau.calls.cut + 1 ∧ t.part.rtu.timing.state = .idle
            ∧ (s.part.rtu.timing.state ≠ .idle → t.part.cc.low = false)
            ∧ cacheUnlocked c s.part t.part))
        ∧ (∀ e, s.part.cc.call = .ending → c.ending = some e → s.part.rtu.timing.state = .idle →
          s.part.cau.load = .ended →
          let settles := s.part.rlu.settlementDue
          let left := s.part.rlu.banked + coin.value - a
          let kept := recordKept e c s.part
          let toRefund := if settles then rest.length else 0
          let answered (t : State) : Prop := t.part.cc.low = s.part.cc.low
            ∧ t.part.bpu.causes.getLsbD 2 = s.part.bpu.causes.getLsbD 2
            ∧ (s.part.bpu.inFlight = some 2 → s.part.bpu.result = .pending → t.part.bpu.result = .done)
            ∧ (s.part.lu.owner = .customer → s.part.lu.line ≠ .idle →
              t.part.lu.line = .clearing ∧ t.part.lu.owner = .none)
          (a ≤ s.part.rlu.banked + coin.value → ∃ t, exec .vaultConfirm s = .next t ∧ answered t
            ∧ callClosed { kept with steps := kept.steps + 1, charged := kept.charged + a
                                     collected := kept.collected + 1, toRefund } c s.part t.part
            ∧ t.part.cc.steps = s.part.cc.steps + 1 ∧ t.part.cc.charged = s.part.cc.charged + a
            ∧ t.part.rlu = (if settles ∧ rest ≠ [] then
                { s.part.rlu with rail := rest, banked := 0, charge := none, settlementDue := false
                                  refund := some rest.length, cycle := some { start := s.part.tick, limit := 400 }
                                  gate := .refunding }
              else { s.part.rlu with rail := rest, banked := if settles then 0 else left, charge := none
                                     settlementDue := false, cycle := none, gate := .hold })
            ∧ t.part.cau.money = { s.part.cau.money with
                collected := s.part.cau.money.collected + BitVec.ofNat 32 coin.value
                charged := s.part.cau.money.charged + BitVec.ofNat 32 a
                forfeited := s.part.cau.money.forfeited + BitVec.ofNat 32 (if settles then left else 0)
                banked := s.part.cau.money.banked + coin.value - a - (if settles then left else 0)
                vaultValue := s.part.cau.money.vaultValue + BitVec.ofNat 32 coin.value
                vaultCount := s.part.cau.money.vaultCount + 1
                railTypes := s.part.cau.money.railTypes.drop 1
                railCount := s.part.cau.money.railCount - 1 })
          ∧ (due s.part.rlu.cycle s.part → s.part.rlu.banked < a → ∃ t, exec .confirmLimitExpiry s = .next t
            ∧ answered t ∧ callClosed { kept with toRefund } c s.part t.part
            ∧ t.part.cc.steps = s.part.cc.steps ∧ t.part.cc.charged = s.part.cc.charged
            ∧ t.part.cru.rows = (raise .coinJam (10 + coin.type) s.part).cru.rows
            ∧ t.part.rlu = { s.part.rlu with
                rail := rest, banked := if settles then 0 else s.part.rlu.banked, charge := none, pendingRefund := settles
                settlementDue := false, cycle := none, gate := .fault }
            ∧ t.part.cau.money = { s.part.cau.money with
                suspense := s.part.cau.money.suspense + BitVec.ofNat 32 coin.value
                forfeited := s.part.cau.money.forfeited + BitVec.ofNat 32 (if settles then s.part.rlu.banked else 0)
                banked := s.part.cau.money.banked - (if settles then s.part.rlu.banked else 0)
                railTypes := s.part.cau.money.railTypes.drop 1
                railCount := s.part.cau.money.railCount - 1 })))
      ∧ (∀ table m k v, s.part.cc.call = .grace → s.part.cc.graceOver = false → s.part.bpu.load ≠ some .start →
        s.part.cu.table = some table → classifyCoin table m = .valid k v → firstFailing v s.part = .none →
        let rail := s.part.rlu.rail ++ [{ type := k, value := v }]
        (s.part.rlu.charge.isSome = true → s.part.rlu.gate = .vaulting →
          ∃ t, exec (.coinMeasurement m.d m.a m.t) s = .next t ∧ t.part.cc.noted = true ∧ t.part.cc.call = .grace
            ∧ t.part.cc.low = lowKept s.part t.part ∧ t.part.rlu = { s.part.rlu with rail := rail })
        ∧ (s.part.rlu.charge = none → s.part.rlu.gate = .hold → s.part.rlu.banked < s.part.cc.owed →
          ∃ t, exec (.coinMeasurement m.d m.a m.t) s = .next t ∧ t.part.cc.call = .grace
            ∧ t.part.cc.grace = s.part.cc.grace ∧ t.part.cc.owed = s.part.cc.owed
            ∧ (s.part.cc.owed ≤ s.part.rlu.banked + railValue s.part + v → t.part.cc.low = lowKept s.part t.part)
            ∧ (s.part.rlu.banked + railValue s.part + v < s.part.cc.owed → s.part.rtu.timing.state ≠ .idle →
              creditExamined s.part.cc.low s.part t.part)
            ∧ t.part.rlu = (if s.part.rlu.banked + railValue s.part + v < s.part.cc.owed then
                { s.part.rlu with rail := rail }
              else { s.part.rlu with
                rail := rail, charge := some { amount := s.part.cc.owed, collecting := true }
                gate := .vaulting, cycle := some { start := s.part.tick, limit := 400 } }))))

/-- CLEARING_END, PROBE_TIMER_EXPIRY, HOOK_QUIET_EXPIRY and BACKOFF_EXPIRY (R108, R109, R131, R167, R173, R174): the end
of CLEARING grants the waiting seize, or enters IDLE and begins the voltage watch where voltage is absent; a due probe
and a report call whose conditions hold are granted the open line; with the line in use the mark, the quiet or the end
of backoff is kept for later. The watch at an entry to IDLE, also after a raise (log entries 18 and 53), and a current
that is present at the grant (log entry 31) are the model's. -/
def Obligations.LineGranted : Prop :=
  ∀ s : State,
    (∀ number, due s.part.lu.clearing s.part → s.part.lu.waitingSeize = some number → s.part.pins.loop = none →
      exec .clearingEnd s = .next { s with part := seized .customer number s.part })
    ∧ (due s.part.lu.clearing s.part → s.part.lu.waitingSeize = none → s.part.lu.probeDue = false →
        s.part.cru.quietReached = false → exec .clearingEnd s = .next { s with part := markS 0 { s.part with
          lu.line := .idle
          lu.clearing := none
          lu.voltWatch := if s.part.pins.voltage then none else some { start := s.part.tick, limit := 5000 } } })
    ∧ (due s.part.lu.probe s.part →
        (lineOpen s.part → exec .probeTimerExpiry s = .next
          { s with part := seized .probe [] { s.part with lu.probe := none, lu.probeDue := false } })
        ∧ (s.part.lu.line ≠ .idle → exec .probeTimerExpiry s = .next { s with part := { s.part with
            lu.probe := none, lu.probeDue := true } }))
    ∧ (due s.part.cru.hookQuiet s.part →
        (∀ number identity r, lineOpen s.part → s.part.cru.number = some number →
          s.part.cru.identity = some identity → s.part.cru.report = none → isActive .lineDown s.part = false →
          r ∈ s.part.cru.queue → r.sending = false → s.part.cru.backoff = none →
          exec .hookQuietExpiry s = .next
            { s with
              part := seized .report number { s.part with
                cru.hookQuiet := none
                cru.quietReached := true
                cru.report := some { identity, sends := 0, accepted := 0 } } })
        ∧ (s.part.lu.line ≠ .idle ∨ s.part.cru.queue = [] → exec .hookQuietExpiry s = .next
            { s with part := { s.part with cru.hookQuiet := none, cru.quietReached := true } }))
    ∧ (due s.part.cru.backoff s.part →
        (∀ number identity r, lineOpen s.part → s.part.cru.number = some number →
          s.part.cru.identity = some identity → s.part.cru.report = none → isActive .lineDown s.part = false →
          r ∈ s.part.cru.queue → r.sending = false → s.part.cru.quietReached = true →
          exec .backoffExpiry s = .next
            { s with
              part := seized .report number (markS 4 { s.part with
                cru.backoff := none
                cru.report := some { identity, sends := 0, accepted := 0 } }) })
        ∧ (s.part.lu.line ≠ .idle ∨ s.part.cru.queue = [] → exec .backoffExpiry s = .next
            { s with part := markS 4 { s.part with cru.backoff := none } }))

/-- LOOP_CURRENT_CHANGE and DWELL_FIGURE (R113 to R117, R121, R122): loop current in SEIZING fixes the polarity
reference and begins the search two steps below the last good one; a reading that is no change changes nothing (the
model's reading, log entries 4 and 31); its loss on a connected line starts the loss timer. A dwell of the search
without current is left out, and so is one that a loss has spoiled; one with current is judged against the best of the
sweep, and the next step follows; dial tone found, at the end of either sweep, sets the failed-seize count to 0, clears
LINE_DOWN with its probe timer and its due probe (R129, R131), and has the first digit sent, or releases a probe's line
at once; a first sweep that ends without dial tone is followed by a second one from step 0, and that one ends at step
15, a customer's call with NO_DIALTONE; that end and a customer's LOOP_LIMIT_EXPIRY and SEARCH_LIMIT_EXPIRY add to the
failed-seize count, and the third raises LINE_DOWN with detail 2 or 3 and starts the probe timer (R129, R131), while a
probe's adds nothing and starts the timer again with LINE_DOWN active; a dwell after dialling goes to the tone
classifier, and two busy cycles end the call with BUSY. The classifier (R121), whatever it hears before the first judged
period: two on periods, each with an off period after it, make two busy cycles just when all four last 300 to 600 ms,
and ringback just when an on period of 800 to 2,200 ms is followed by an off period of 1,500 to 4,500 ms; the tick of
the last on dwell is kept. -/
def Obligations.LineSearched : Prop :=
  ∀ s : State,
    exec (.loopCurrentChange s.part.pins.loop) s = .next s
    ∧ (∀ sense l, s.part.lu.line = .seizing → s.part.pins.loop = none → s.part.lu.copy = some l →
        exec (.loopCurrentChange (some sense)) s = .next { s with part := { s.part with
          pins.loop := some sense
          lu.line := .searching
          lu.reference := some (match l.policy with
            | .auto => sense
            | .normal => .normal
            | .inverted => .inverted)
          lu.loopLimit := none
          lu.loss := { counted := 0, since := none }
          lu.gain := s.part.lu.lastGood - 2
          lu.sweep := { second := false, best := none, misses := 0 }
          lu.spoiled := false
          bpu.dirty := insertGroup (.status 0) s.part.bpu.dirty } })
    ∧ (s.part.lu.line = .connected → s.part.pins.loop ≠ none → s.part.lu.loss.since = none →
        ∃ t, exec (.loopCurrentChange none) s = .next t ∧ t.part.pins.loop = none ∧ t.part.lu.line = .connected
          ∧ t.part.lu.loss.counted = s.part.lu.loss.counted
          ∧ t.part.lu.loss.since = (if s.part.lu.sender.phase = .breaking then none else some s.part.tick)
          ∧ t.part.rlu = s.part.rlu ∧ t.part.cc = s.part.cc ∧ t.part.cau = s.part.cau ∧ t.part.mem = s.part.mem)
    ∧ (∀ figure, s.part.lu.line = .searching → s.part.pins.loop = none →
        exec (.dwellFigure figure) s = .next { s with part := { s.part with lu.spoiled := true } })
    ∧ (∀ figure l, s.part.lu.line = .searching → s.part.pins.loop ≠ none → s.part.lu.spoiled = false →
        s.part.lu.copy = some l → s.part.lu.gain < 15 → s.part.lu.sweep.second = false →
        s.part.lu.sweep.misses + 1 < l.depth →
        let best := (match s.part.lu.sweep.best with
          | none => true
          | some (_, f) => decide (f < figure.toNat))
        exec (.dwellFigure figure) s = .next { s with part := { s.part with
          lu.gain := s.part.lu.gain + 1
          lu.sweep :=
            if best then { second := false, best := some (s.part.lu.gain, figure.toNat), misses := 0 }
            else { s.part.lu.sweep with misses := s.part.lu.sweep.misses + 1 } } })
    ∧ (∀ figure l step f, s.part.lu.line = .searching → s.part.pins.loop ≠ none → s.part.lu.spoiled = false →
        s.part.lu.copy = some l → s.part.lu.sweep.best = some (step, f) → figure.toNat ≤ f → l.threshold ≤ f →
        (15 ≤ s.part.lu.gain ∨ s.part.lu.sweep.second = false ∧ l.depth ≤ s.part.lu.sweep.misses + 1) →
        ∃ t, exec (.dwellFigure figure) s = .next t ∧ t.part.lu.gain = step ∧ t.part.lu.lastGood = step
          ∧ t.part.lu.failedSeizes = 0 ∧ t.part.lu.searchLimit = none ∧ t.part.cru = (clear .lineDown s.part).cru
          ∧ isActive .lineDown t.part = false
          ∧ t.part.lu.probe = (if isActive .lineDown s.part then none else s.part.lu.probe)
          ∧ t.part.lu.probeDue = (!isActive .lineDown s.part && s.part.lu.probeDue)
          ∧ (∀ d rest, s.part.lu.owner ≠ .probe → s.part.lu.number = d :: rest → t.part.lu.line = .dialling
            ∧ t.part.lu.owner = s.part.lu.owner ∧ t.part.lu.sender = (if l.pulse = true then
                { phase := .breaking, symbol := d, breaks := (if d = 0 then 10 else d) - 1, rest
                  timer := some { start := s.part.tick, limit := 60 } }
              else
                { phase := .tone, symbol := d, breaks := 0, rest, timer := some { start := s.part.tick, limit := 80 } }))
          ∧ (s.part.lu.owner = .probe → t.part.lu.line = .clearing ∧ t.part.lu.owner = .none
            ∧ t.part.lu.clearing = some { start := s.part.tick, limit := 1000 } ∧ t.part.lu.sender.phase = .idle)
          ∧ t.part.cc = s.part.cc ∧ t.part.rlu = s.part.rlu ∧ t.part.cau = s.part.cau ∧ t.part.mem = s.part.mem)
    ∧ (∀ figure l, s.part.lu.line = .awaitAnswer → s.part.lu.copy = some l →
        let after := classify (decide (l.threshold ≤ figure.toNat)) s.part.tick s.part.lu.classifier
        (after.cycles < 2 →
          exec (.dwellFigure figure) s = .next { s with part := { s.part with lu.classifier := after } })
        ∧ (∀ c, 2 ≤ after.cycles → callStands c s.part → s.part.lu.owner = .customer →
          ∃ t, exec (.dwellFigure figure) s = .next t ∧ callEnded .busy c s.part t.part))
    ∧ (∀ figure, s.part.lu.line = .searching → s.part.pins.loop ≠ none → s.part.lu.spoiled = true →
        exec (.dwellFigure figure) s = .next { s with part := { s.part with lu.spoiled := false } })
    ∧ (∀ figure l, s.part.lu.line = .searching → s.part.pins.loop ≠ none → s.part.lu.spoiled = false →
        s.part.lu.copy = some l → figure.toNat < l.threshold →
        (∀ step f, s.part.lu.sweep.best = some (step, f) → f < l.threshold) →
        (s.part.lu.sweep.second = false →
          (15 ≤ s.part.lu.gain
            ∨ ∃ step f, s.part.lu.sweep.best = some (step, f) ∧ figure.toNat ≤ f ∧ l.depth ≤ s.part.lu.sweep.misses + 1) →
          exec (.dwellFigure figure) s = .next { s with part := { s.part with
            lu.gain := 0, lu.sweep := { second := true, best := none, misses := 0 } } })
        ∧ (s.part.lu.sweep.second = true → 15 ≤ s.part.lu.gain →
          (∀ c, callStands c s.part → s.part.lu.owner = .customer → ∃ t, exec (.dwellFigure figure) s = .next t
            ∧ callEnded .noDialtone c s.part t.part ∧ seizeFailed 3 s.part t.part)
          ∧ (s.part.lu.owner = .probe → ∃ t, exec (.dwellFigure figure) s = .next t ∧ probeFailed s.part t.part)))
    ∧ (∀ command detail, seizeEnds command detail s.part →
        (∀ c, callStands c s.part → s.part.lu.owner = .customer → ∃ t, exec command s = .next t
          ∧ callEnded (if detail = 2 then .noLoop else .noDialtone) c s.part t.part ∧ seizeFailed detail s.part t.part)
        ∧ (s.part.lu.owner = .probe → ∃ t, exec command s = .next t ∧ probeFailed s.part t.part))
    ∧ (∀ (early a b c d : Nat) (now mid last : Tick), 0 < early → 0 < a → 0 < b → 0 < c → 0 < d →
        let heard := hears true last 1 (hears false last d (hears true mid c (hears false mid b (hears true now a
          (hears false now early Classifier.empty)))))
        let busy := fun n : Nat => 300 ≤ n * 50 ∧ n * 50 ≤ 600
        let rings := fun m n : Nat => 800 ≤ m * 50 ∧ m * 50 ≤ 2200 ∧ 1500 ≤ n * 50 ∧ n * 50 ≤ 4500
        (heard.cycles = 2 ↔ busy a ∧ busy b ∧ busy c ∧ busy d) ∧ (heard.ringback = true ↔ rings a b ∨ rings c d)
        ∧ heard.lastOn = some last ∧ heard.period = some { on := true, dwells := 1, judged := true })

/-- DTMF_TONE_END, DTMF_GAP_END, PULSE_BREAK_END and PULSE_MAKE_END (R118, R119, R127): 80 ms of tone are followed by an
80 ms gap, and the gap by the next symbol, or after the number's last by AWAIT_ANSWER with its 60,000 ms, after a
frame's last by AWAIT_ACK with its 4,000 ms (R128), and after an in-call digit by the oldest queued one, or by rest with
none (R120); 60 ms breaks are parted by 40 ms makes within a digit and by 800 ms between two, and digit 0 takes ten. A
make begins with loop current present or without it: without it the loss timer runs on from what it had counted, and the
break that ends the make pauses it again with what it has counted by then. -/
def Obligations.DigitsSent : Prop :=
  ∀ s : State, due s.part.lu.sender.timer s.part →
    let send := s.part.lu.sender
    let loss := s.part.lu.loss
    let paused : LossTimer := (match loss.since with
      | none => loss
      | some t => { counted := loss.counted + elapsed t s.part, since := none })
    (send.phase = .tone → exec .dtmfToneEnd s = .next { s with part := { s.part with
      lu.sender := { send with phase := .gap, timer := some { start := s.part.tick, limit := 80 } } } })
    ∧ (∀ d rest, send.phase = .gap → send.rest = d :: rest →
        exec .dtmfGapEnd s = .next { s with part := { s.part with
          lu.sender := { phase := .tone, symbol := d, breaks := 0, rest,
                         timer := some { start := s.part.tick, limit := 80 } } } })
    ∧ (send.phase = .gap → send.rest = [] → s.part.lu.line = .dialling →
        ∃ t, exec .dtmfGapEnd s = .next t ∧ t.part.lu.line = .awaitAnswer ∧ t.part.lu.sender.phase = .idle
          ∧ t.part.lu.answerLimit = some { start := s.part.tick, limit := 60000 }
          ∧ t.part.lu.classifier = { period := none, onLength := none, cycles := 0, ringback := false,
                                     lastOn := none }
          ∧ t.part.lu.loss = loss ∧ t.part.cc = s.part.cc ∧ t.part.rlu = s.part.rlu ∧ t.part.cau = s.part.cau
          ∧ t.part.cru = s.part.cru ∧ t.part.mem = s.part.mem)
    ∧ (send.phase = .gap → send.rest = [] →
        let still : Sender := { phase := .idle, symbol := 0, breaks := 0, rest := [], timer := none }
        let empty : Classifier := { period := none, onLength := none, cycles := 0, ringback := false, lastOn := none }
        (s.part.lu.line = .sending → exec .dtmfGapEnd s = .next { s with part := { s.part with
          lu.line := .awaitAck
          lu.sender := still
          lu.classifier := empty
          lu.ackWait := some { start := s.part.tick, limit := 4000 }
          bpu.dirty := insertGroup (.status 0) s.part.bpu.dirty } })
        ∧ (s.part.lu.line = .connected →
          (∀ d rest, s.part.lu.inCall = d :: rest → exec .dtmfGapEnd s = .next { s with part := { s.part with
            lu.inCall := rest
            lu.sender := { phase := .tone, symbol := d, breaks := 0, rest := []
                           timer := some { start := s.part.tick, limit := 80 } } } })
          ∧ (s.part.lu.inCall = [] → exec .dtmfGapEnd s = .next { s with part := { s.part with
            lu.sender := still, lu.classifier := empty } })))
    ∧ (∀ limit, send.phase = .breaking → (0 < send.breaks ∧ limit = 40 ∨ send.breaks = 0 ∧ send.rest ≠ []
          ∧ limit = 800) →
        let making : Sender := { send with phase := .making, timer := some { start := s.part.tick, limit } }
        (s.part.pins.loop ≠ none →
          exec .pulseBreakEnd s = .next { s with part := { s.part with lu.sender := making } })
        ∧ (s.part.pins.loop = none → s.part.lu.line = .dialling → loss.since = none →
          exec .pulseBreakEnd s = .next { s with part := { s.part with
            lu.sender := making, lu.loss := { counted := loss.counted, since := some s.part.tick } } }))
    ∧ (send.phase = .making → 0 < send.breaks → exec .pulseMakeEnd s = .next { s with part := { s.part with
        lu.loss := paused
        lu.sender := { phase := .breaking, symbol := send.symbol, breaks := send.breaks - 1, rest := send.rest,
                       timer := some { start := s.part.tick, limit := 60 } } } })
    ∧ (∀ d rest, send.phase = .making → send.breaks = 0 → send.rest = d :: rest →
        exec .pulseMakeEnd s = .next { s with part := { s.part with
          lu.loss := paused
          lu.sender := { phase := .breaking, symbol := d, breaks := (if d = 0 then 10 else d) - 1, rest,
                         timer := some { start := s.part.tick, limit := 60 } } } })

/-- POLARITY_CHANGE, REVERSAL_HOLD_END, TIMED_ANSWER_EXPIRY and REPORT_PAUSE_END (R97, R123 to R125, R139, R169). In
AWAIT_ANSWER under REVERSAL a change to the opposite of the reference begins a 40 ms hold, and a return ends it, and so
does a loss of current. The end of the hold, or of TIMED answer's silence, answers the call: a FREE customer call enters
TALKING with its answer tick and band, and a report call pauses 1,000 ms, after which the next record is composed and
its frame begins. TIMED answer's silence (R124) is 6,000 ms from the last on dwell once ringback is classified, and
20,000 ms from the end of dialling before it. PULSE_BREAK_END of the number's last break enters AWAIT_ANSWER; a polarity
last shown opposite the reference answers nothing until the sense has returned (R114, R123). On a line answered by
reversal a change to the reference begins the clear hold of 200 ms, and a change away or a loss of current ends it
(R126). That the polarity shown before an absence counts, and a return of current as a change, are the model's readings
(log entry 31). -/
def Obligations.CallsAnswered : Prop :=
  ∀ s : State,
    (∀ sense r l, s.part.lu.line = .awaitAnswer → s.part.lu.copy = some l → l.timed = false →
      s.part.lu.reference = some r → s.part.lu.mustReturn = false → s.part.pins.loop.isSome = true →
      s.part.pins.loop ≠ some sense → exec (.polarityChange sense) s = .next { s with part := { s.part with
        pins.loop := some sense
        lu.loss := { counted := 0, since := none }
        lu.reversalHold := if sense = r then none else some { start := s.part.tick, limit := 40 } } })
    ∧ (∀ c, (due s.part.lu.reversalHold s.part ∨ due (timedSilence s.part) s.part) → s.part.lu.owner = .customer →
        s.part.cc.placed = some c → c.cls = .freeClass →
        ∃ t, (due s.part.lu.reversalHold s.part → exec .reversalHoldEnd s = .next t)
          ∧ (due (timedSilence s.part) s.part → exec .timedAnswerExpiry s = .next t)
          ∧ t.part.cc.call = .talking ∧ t.part.lu.line = .connected ∧ t.part.lu.owner = .customer
          ∧ t.part.cc.placed = some { c with answer := some { tick := s.part.tick, band := bandNow s.part } }
          ∧ t.part.lu.answerLimit = none ∧ t.part.rtu = s.part.rtu ∧ t.part.rlu = s.part.rlu
          ∧ t.part.cau = s.part.cau ∧ t.part.cru = s.part.cru ∧ t.part.mem = s.part.mem)
    ∧ ((due s.part.lu.reversalHold s.part ∨ due (timedSilence s.part) s.part) → s.part.lu.owner = .report →
        ∃ t, (due s.part.lu.reversalHold s.part → exec .reversalHoldEnd s = .next t)
          ∧ (due (timedSilence s.part) s.part → exec .timedAnswerExpiry s = .next t)
          ∧ t.part.lu.line = .connected ∧ t.part.lu.pause = some { start := s.part.tick, limit := 1000 }
          ∧ t.part.cru = s.part.cru ∧ t.part.cc = s.part.cc ∧ t.part.rlu = s.part.rlu ∧ t.part.cau = s.part.cau
          ∧ t.part.mem = s.part.mem)
    ∧ (∀ c r, due s.part.lu.pause s.part → s.part.lu.line = .connected → s.part.cru.report = some c →
        nextRecord s.part.cru.queue = some r →
        ∃ t s1 rest, exec .reportPauseEnd s = .next t ∧ frameOf c.identity (composed r) = s1 :: rest
          ∧ t.part.lu.line = .sending ∧ t.part.lu.pause = none ∧ t.part.lu.announced = true
          ∧ t.part.lu.sender = { phase := .tone, symbol := s1, breaks := 0, rest := rest,
                                 timer := some { start := s.part.tick, limit := 80 } }
          ∧ t.part.cru.report = some { c with sends := 1 }
          ∧ t.part.cru.queue = s.part.cru.queue.map (fun x => if x.slot = r.slot then composed x else x)
          ∧ t.part.cru.rows = s.part.cru.rows ∧ t.part.cc = s.part.cc ∧ t.part.rlu = s.part.rlu
          ∧ t.part.cau = s.part.cau ∧ t.part.mem = s.part.mem)
    ∧ (∀ l, s.part.lu.copy = some l →
        (s.part.lu.line ≠ .awaitAnswer ∨ l.timed = false → timedSilence s.part = none)
        ∧ (s.part.lu.line = .awaitAnswer → l.timed = true →
          (∀ t, s.part.lu.classifier.ringback = true → s.part.lu.classifier.lastOn = some t →
            timedSilence s.part = some { start := t, limit := 6000 })
          ∧ (∀ u, s.part.lu.classifier.ringback = false → s.part.lu.answerLimit = some u →
            timedSilence s.part = some { start := u.start, limit := 20000 })))
    ∧ (∀ q r, s.part.lu.line = .dialling → due s.part.lu.sender.timer s.part → s.part.lu.sender.phase = .breaking →
        s.part.lu.sender.breaks = 0 → s.part.lu.sender.rest = [] → s.part.lu.reference = some r →
        s.part.lu.shown = some q → s.part.pins.loop = none →
        ∃ t, exec .pulseBreakEnd s = .next t ∧ t.part.lu.line = .awaitAnswer ∧ t.part.lu.sender.phase = .idle
          ∧ t.part.lu.answerLimit = some { start := s.part.tick, limit := 60000 }
          ∧ t.part.lu.mustReturn = decide (q ≠ r) ∧ t.part.lu.reversalHold = s.part.lu.reversalHold
          ∧ t.part.lu.loss.since.isSome = true ∧ t.part.cc = s.part.cc ∧ t.part.rlu = s.part.rlu
          ∧ t.part.cau = s.part.cau ∧ t.part.cru = s.part.cru ∧ t.part.mem = s.part.mem)
    ∧ (∀ sense, s.part.pins.loop = some sense → ∃ t, exec (.loopCurrentChange none) s = .next t
        ∧ t.part.pins.loop = none ∧ t.part.lu.shown = some sense ∧ t.part.lu.mustReturn = s.part.lu.mustReturn
        ∧ (isConnected s.part.lu.line = true → (∃ l, s.part.lu.copy = some l ∧ l.timed = false) →
            t.part.lu.clearHold = none)
        ∧ (s.part.lu.line = .awaitAnswer → (∃ l, s.part.lu.copy = some l ∧ l.timed = false) →
            t.part.lu.reversalHold = none ∧ t.part.lu.line = .awaitAnswer ∧ t.part.lu.owner = s.part.lu.owner)
        ∧ t.part.cc = s.part.cc ∧ t.part.rlu = s.part.rlu ∧ t.part.cau = s.part.cau ∧ t.part.mem = s.part.mem)
    ∧ (∀ sense r l, s.part.lu.line = .awaitAnswer → s.part.lu.copy = some l → l.timed = false →
        s.part.lu.reference = some r →
        (s.part.lu.mustReturn = true → s.part.pins.loop ≠ some sense →
          let q := { s.part with
            pins.loop := some sense
            lu.loss := { counted := 0, since := none }
            lu.reversalHold := if sense = r then none else s.part.lu.reversalHold
            lu.mustReturn := decide (sense ≠ r) }
          exec (.loopCurrentChange (some sense)) s = .next { s with part := q }
          ∧ (s.part.pins.loop.isSome = true → exec (.polarityChange sense) s = .next { s with part := q }))
        ∧ (s.part.lu.mustReturn = false → s.part.pins.loop = none →
          exec (.loopCurrentChange (some sense)) s = .next { s with part := { s.part with
            pins.loop := some sense
            lu.loss := { counted := 0, since := none }
            lu.reversalHold := if sense = r then none else some { start := s.part.tick, limit := 40 } } }))
    ∧ (∀ sense r l, isConnected s.part.lu.line = true → s.part.lu.copy = some l → s.part.lu.reference = some r →
        s.part.pins.loop.isSome = true → s.part.pins.loop ≠ some sense →
        exec (.polarityChange sense) s = .next { s with part := { s.part with
          pins.loop := some sense
          lu.loss := { counted := 0, since := none }
          lu.clearHold :=
            if l.timed = true then s.part.lu.clearHold
            else if sense = r then some { start := s.part.tick, limit := 200 } else none } })

/-- ACK_WAIT_EXPIRY and DTMF_SYMBOL_RECEIVED (R128, R170, R171): outside AWAIT_ACK, and for a symbol other than A and B,
a received symbol changes nothing; silence and a B have the record sent again up to its third send; an A takes the
record from the queue when no merge came while it was sent, the failure count becomes 0, and the next record's frame
begins. -/
def Obligations.FramesAnswered : Prop :=
  ∀ s : State,
    (∀ x : BitVec 4, s.part.lu.line ≠ .awaitAck ∨ (x.toNat ≠ 12 ∧ x.toNat ≠ 13) →
      exec (.dtmfSymbolReceived x) s = .next s)
    ∧ (∀ c r, s.part.cru.report = some c → s.part.cru.queue.find? (·.sending) = some r → c.sends < 3 →
        s.part.lu.announced = true →
        ∃ t s1 rest, frameOf c.identity (composed r) = s1 :: rest
          ∧ (due s.part.lu.ackWait s.part → exec .ackWaitExpiry s = .next t)
          ∧ (s.part.lu.line = .awaitAck → exec (.dtmfSymbolReceived 13) s = .next t)
          ∧ t.part.lu.line = .sending ∧ t.part.lu.ackWait = none
          ∧ t.part.lu.sender = { phase := .tone, symbol := s1, breaks := 0, rest := rest,
                                 timer := some { start := s.part.tick, limit := 80 } }
          ∧ t.part.cru.report = some { c with sends := c.sends + 1 }
          ∧ t.part.cru.queue = s.part.cru.queue.map (fun x => if x.slot = r.slot then composed x else x)
          ∧ t.part.cru.failures = s.part.cru.failures ∧ t.part.cc = s.part.cc ∧ t.part.rlu = s.part.rlu
          ∧ t.part.cau = s.part.cau ∧ t.part.mem = s.part.mem)
    ∧ (∀ c r n, s.part.cru.report = some c → s.part.cru.queue.find? (·.sending) = some r →
        s.part.lu.line = .awaitAck → s.part.lu.announced = true → r.updated = false → c.accepted < 7 →
        let others := s.part.cru.queue.filter fun x => x.slot != r.slot
        nextRecord others = some n →
        ∃ t, exec (.dtmfSymbolReceived 12) s = .next t ∧ t.part.lu.line = .sending ∧ t.part.cru.failures = 0
          ∧ t.part.cru.queue = others.map (fun x => if x.slot = n.slot then composed x else x)
          ∧ t.part.cru.report = some { c with accepted := c.accepted + 1, sends := 1 }
          ∧ Group.report r.slot ∈ t.part.bpu.dirty ∧ t.part.cru.rows = s.part.cru.rows ∧ t.part.cc = s.part.cc
          ∧ t.part.rlu = s.part.rlu ∧ t.part.cau = s.part.cau ∧ t.part.mem = s.part.mem)

/-- LOOP_VOLTAGE_CHANGE and VOLTAGE_WATCH_EXPIRY (R130, R131): in IDLE the absence of voltage begins a 5,000 ms watch
and its return ends it; elsewhere only the reading is kept; the watch's expiry raises LINE_DOWN with detail 1, and the
raise that makes it active starts the 300 s probe timer. The watch's beginning is the model's reading (log entry 18);
that an entry to IDLE begins it again after a raise although voltage has not been back is its choice (log entry 53). -/
def Obligations.VoltageWatched : Prop :=
  ∀ s : State,
    (∀ present, present ≠ s.part.pins.voltage → s.part.lu.line = .idle →
      exec (.loopVoltageChange present) s = .next { s with part := { s.part with
        pins.voltage := present
        lu.voltWatch := if present then none else some { start := s.part.tick, limit := 5000 } } })
    ∧ (∀ present, present = s.part.pins.voltage ∨ s.part.lu.line ≠ .idle →
        exec (.loopVoltageChange present) s = .next { s with part := { s.part with pins.voltage := present } })
    ∧ (due s.part.lu.voltWatch s.part → exec .voltageWatchExpiry s = .next
        { s with
          part := raise .lineDown 1 { s.part with
            lu.voltWatch := none
            lu.probe := if isActive .lineDown s.part then s.part.lu.probe
              else some { start := s.part.tick, limit := 300000 } } })

/-! ## The hook, the door, the key, the cord and the shock contact (R32, R132, R133, R135, R151 to R154, R167) -/

/-- HOOK_DEBOUNCED and HANG_UP_TIMER_EXPIRY (R31 to R33, R83, R132, R133, R135, R141, R142, R167): a position that is no
change only holds (the model's choice, log entry 4); ON starts the 400 ms and 5,000 ms timers, so that a report call is
asked 5,000 ms later at the soonest, and a due probe that finds the line IDLE is granted it at once (R131); OFF with no
hang-up timer and the line not held for a report or a probe lifts an IDLE call to COLLECTING with no digits; OFF while
the hang-up timer runs is a flash: the flashes younger than 10 s are kept with it, up to 32, six raise HOOK_ABUSE with
their number, and while it is active each starts 60 s. The hang-up in IDLE and COLLECTING makes the call IDLE, forfeits
banked credit, and begins a refund of every coin on the rail at HOLD, keeps it pending in FAULT, and waits for a charge
in flight; in RATING it also abandons the lookup with NOT_OFFHOOK; of a placed call it is the ending event: with no
charge in flight the record shows the coins to refund, less those owed to a refund that had begun, behind which the new
one is pending; with one the call is in ENDING with its outcome kept (R105), and the settlement waits, as it does at a
hang-up in ENDING. OFF also ends a REPORT or PROBE call at once (R111, R173): the line is CLEARING, a report call is
over with no failure, its SENDING record QUEUED again, and is counted where a frame was accepted, and a probe's timer
starts again while LINE_DOWN stands. The raw pin and its hold follow the command, the digits stay after a hang-up, and a
flash ends such a call like a lift (the model's choices, log entries 9, 25 and 36). -/
def Obligations.HookActs : Prop :=
  ∀ s : State,
    (let p := { s.part with pins.hookOff := s.part.cc.off, samplers.hook := { last := s.part.cc.off, held := 30 } }
     exec (.hookDebounced s.part.cc.off) s = .next { s with part := p })
    ∧ (s.part.cc.off = true →
        let down := markS 0 { s.part with
          pins.hookOff := false
          samplers.hook := { last := false, held := 30 }
          cc.off := false
          cc.hangUp := some { start := s.part.tick, limit := 400 }
          cru.hookQuiet := some { start := s.part.tick, limit := 5000 }
          cru.quietReached := false }
        (s.part.lu.line ≠ .idle ∨ s.part.lu.probeDue = false ∨ s.part.lu.waitingSeize.isSome = true
            ∨ s.part.lu.settings = none → exec (.hookDebounced false) s = .next { s with part := down })
        ∧ (s.part.lu.probeDue = true → lineOpen down → exec (.hookDebounced false) s = .next
            { s with part := seized .probe [] { down with lu.probeDue := false } }))
    ∧ (s.part.cc.off = false → s.part.cc.hangUp = none → s.part.cc.call = .idle → s.part.lu.owner = .none →
        ∃ t, exec (.hookDebounced true) s = .next t ∧ t.part.cc.off = true ∧ t.part.cc.call = .collecting
          ∧ t.part.cc.digits = [] ∧ t.part.cc.ignored = 0 ∧ t.part.cru.hookQuiet = none
          ∧ t.part.bpu.causes.getLsbD 0 = true ∧ Group.status 0 ∈ t.part.bpu.dirty ∧ t.part.pins.hookOff = true
          ∧ t.part.rlu = s.part.rlu ∧ t.part.cau = s.part.cau ∧ t.part.lu = s.part.lu ∧ t.part.mem = s.part.mem)
    ∧ (s.part.cc.off = false → s.part.cc.hangUp.isSome = true → s.part.lu.owner = .none →
        ∃ t, exec (.hookDebounced true) s = .next t ∧ t.part.cc.off = true ∧ t.part.cc.hangUp = none
          ∧ t.part.cc.call = s.part.cc.call ∧ t.part.cc.digits = s.part.cc.digits
          ∧ t.part.cc.flashes = ticksWith 10000 s.part.cc.flashes s.part
          ∧ (isActive .hookAbuse t.part = true → t.part.cc.abuse = some { start := s.part.tick, limit := 60000 })
          ∧ (isActive .hookAbuse t.part = false → t.part.cc.abuse = s.part.cc.abuse)
          ∧ (t.part.cc.flashes.length < 6 → t.part.cru.rows = s.part.cru.rows)
          ∧ (6 ≤ t.part.cc.flashes.length →
              t.part.cru.rows = (raise .hookAbuse t.part.cc.flashes.length s.part).cru.rows)
          ∧ t.part.rlu = s.part.rlu ∧ t.part.cau = s.part.cau ∧ t.part.rtu = s.part.rtu ∧ t.part.mem = s.part.mem)
    ∧ (due s.part.cc.hangUp s.part → (s.part.cc.call = .collecting ∨ s.part.cc.call = .idle) → gateRests s.part →
        s.part.rlu.dump = .ended → (s.part.rlu.gate = .hold ∨ s.part.rlu.gate = .fault) →
        s.part.rlu.settlementDue = false → ∃ t, exec .hangUpTimerExpiry s = .next t ∧ t.part.cc.call = .idle
          ∧ t.part.cc.hangUp = none ∧ t.part.cc.digits = s.part.cc.digits
          ∧ moneySettled s.part t.part ∧ t.part.rtu = s.part.rtu ∧ t.part.cru = s.part.cru
          ∧ t.part.mem = s.part.mem)
    ∧ (due s.part.cc.hangUp s.part →
        (s.part.cc.call = .collecting ∨ s.part.cc.call = .idle ∨ s.part.cc.call = .ending) → chargeInFlight s.part →
        ∃ t, exec .hangUpTimerExpiry s = .next t
          ∧ t.part.cc = { s.part.cc with
              hangUp := none, call := if s.part.cc.call = .ending then .ending else .idle }
          ∧ t.part.rlu = { s.part.rlu with settlementDue := true }
          ∧ t.part.cau = s.part.cau ∧ t.part.mem = s.part.mem)
    ∧ (∀ c, due s.part.cc.hangUp s.part → callHeld c s.part → chargeInFlight s.part →
        ∃ t, exec .hangUpTimerExpiry s = .next t
          ∧ callEnding (if c.answer.isSome then .localClear else .abandoned) c { s.part with cc.hangUp := none } t.part
          ∧ t.part.rlu = { s.part.rlu with settlementDue := true }
          ∧ (s.part.lu.line ≠ .idle → t.part.lu = s.part.lu))
    ∧ (∀ number n, due s.part.cc.hangUp s.part → s.part.cc.call = .rating → s.part.rtu.engine = .lookup number n →
        s.part.rtu.verifyDue = false → s.part.bpu.inFlight = some 1 → s.part.bpu.result = .pending →
        gateRests s.part → s.part.rlu.dump = .ended → (s.part.rlu.gate = .hold ∨ s.part.rlu.gate = .fault) →
        s.part.rlu.settlementDue = false → ∃ t, exec .hangUpTimerExpiry s = .next t ∧ t.part.cc.call = .idle
          ∧ t.part.bpu.result = .notOffhook ∧ t.part.cc.placed = s.part.cc.placed
          ∧ t.part.rtu = { s.part.rtu with engine := .idle }
          ∧ t.part.bpu.waiting = s.part.bpu.waiting.filter (fun r => !ofScan r.purpose)
          ∧ moneySettled s.part t.part ∧ t.part.mem = s.part.mem)
    ∧ (∀ c, due s.part.cc.hangUp s.part → callStands c s.part → s.part.rlu.dump = .ended →
        (s.part.rlu.gate = .hold ∨ s.part.rlu.gate = .refunding ∨ s.part.rlu.gate = .fault) →
        s.part.cc.heldCount < 64 →
        let outcome : CallOutcome := if c.answer.isSome then .localClear else .abandoned
        ∃ t, exec .hangUpTimerExpiry s = .next t ∧ t.part.cc.call = (if s.part.cc.off then .collecting else .idle)
          ∧ t.part.cc.placed = none ∧ t.part.cc.hangUp = none ∧ t.part.rtu.timing.state = .idle
          ∧ (s.part.cc.producer, RingRecord.call
              { recordNow outcome c s.part with
                toRefund := s.part.rlu.rail.length - s.part.rlu.refund.getD 0 }) ∈ t.part.cc.records
          ∧ t.part.cau.calls.attempts = s.part.cau.calls.attempts + 1 ∧ cacheUnlocked c s.part t.part
          ∧ (s.part.lu.owner = .customer → t.part.lu.line = .clearing ∧ t.part.lu.owner = .none)
          ∧ (gateRests s.part → s.part.rlu.gate ≠ .refunding → moneySettled s.part t.part)
          ∧ (s.part.rlu.gate = .refunding ∨ s.part.rlu.gate = .fault →
            t.part.rlu = { s.part.rlu with banked := 0, pendingRefund := true, settlementDue := false }
            ∧ bankedForfeited s.part t.part)
          ∧ t.part.mem = s.part.mem)
    ∧ (s.part.cc.off = false → (s.part.lu.owner = .report ∨ s.part.lu.owner = .probe) →
        (s.part.cc.hangUp = none ∨ (ticksWith 10000 s.part.cc.flashes s.part).length < 6) →
        ∃ t, exec (.hookDebounced true) s = .next t ∧ t.part.cc.off = true ∧ t.part.cc.hangUp = none
          ∧ t.part.cc.call = (if s.part.cc.hangUp = none ∧ s.part.cc.call = .idle then .collecting else s.part.cc.call)
          ∧ t.part.lu.line = .clearing ∧ t.part.lu.owner = .none
          ∧ t.part.lu.clearing = some { start := s.part.tick, limit := 1000 }
          ∧ t.part.lu.sender.phase = .idle ∧ t.part.lu.failedSeizes = s.part.lu.failedSeizes
          ∧ t.part.cru.rows = s.part.cru.rows ∧ t.part.cru.failures = s.part.cru.failures
          ∧ t.part.cru.backoff = s.part.cru.backoff ∧ t.part.cau.money = s.part.cau.money
          ∧ t.part.rlu = s.part.rlu ∧ t.part.mem = s.part.mem
          ∧ (s.part.lu.owner = .probe → t.part.cru.queue = s.part.cru.queue ∧ t.part.cau = s.part.cau
            ∧ t.part.lu.probe = (if isActive .lineDown s.part then some { start := s.part.tick, limit := 300000 }
                else s.part.lu.probe))
          ∧ (∀ c, s.part.lu.owner = .report → s.part.cru.report = some c → t.part.cru.report = none
            ∧ recordRequeued s.part t.part ∧ t.part.lu.probe = s.part.lu.probe
            ∧ (s.part.cau.load = .ended → t.part.cau.calls =
                if 0 < c.accepted then
                  { s.part.cau.calls with reportsSucceeded := s.part.cau.calls.reportsSucceeded + 1 }
                else s.part.cau.calls)))

/-- DOOR_DEBOUNCED, KEY_DEBOUNCED and SWITCH_SETTLED (R151, R152, R157): the door opened sets the door mark in service
mode and raises VAULT_FORCED with detail 1 outside it, and closed does no more; the key ON begins service mode, which
holds the restriction at NO_CALLS; OFF ends it, empties the door mark, and with the door OPEN raises VAULT_FORCED with
detail 2; the first state after a start is no change; the later of the two to settle raises detail 3 where the door
settled OPEN and the key settled OFF, and a key that settles ON begins service mode. The raw pins and their holds follow
the command (the model's choice, log entry 9); that the settled positions are judged, and not later ones, is the model's
reading (log entry 37). -/
def Obligations.DoorAndKeyAct : Prop :=
  ∀ s : State,
    let held (b : Bool) : Sampler := { last := b, held := 50 }
    (s.part.cru.door = some false →
      let p := { s.part with pins.doorOpen := true, samplers.door := held true, cru.door := some true }
      exec (.doorDebounced true) s = .next
        { s with
          part := if s.part.cru.key = some true then { p with cru.doorMark := true } else raise .vaultForced 1 p })
    ∧ (s.part.cru.door = some true → exec (.doorDebounced false) s = .next { s with part := { s.part with
        pins.doorOpen := false, samplers.door := held false, cru.door := some false } })
    ∧ (s.part.cru.key = some false → ∃ t, exec (.keyDebounced true) s = .next t ∧ t.part.cru.key = some true
        ∧ t.part.cru.restriction = .noCalls ∧ t.part.bpu.causes.getLsbD 6 = true
        ∧ Group.status 0 ∈ t.part.bpu.dirty ∧ t.part.cru.rows = s.part.cru.rows
        ∧ t.part.cru.doorMark = s.part.cru.doorMark ∧ t.part.rlu = s.part.rlu ∧ t.part.cau = s.part.cau
        ∧ t.part.cc = s.part.cc ∧ t.part.lu = s.part.lu ∧ t.part.mem = s.part.mem)
    ∧ (s.part.cru.key = some true → ∃ t, exec (.keyDebounced false) s = .next t ∧ t.part.cru.key = some false
        ∧ t.part.cru.doorMark = false ∧ restrictionHolds t.part ∧ t.part.bpu.causes.getLsbD 6 = true
        ∧ t.part.cru.rows =
          (if s.part.cru.door = some true then (raise .vaultForced 2 s.part).cru.rows else s.part.cru.rows)
        ∧ t.part.rlu = s.part.rlu ∧ t.part.cau = s.part.cau ∧ t.part.cc = s.part.cc ∧ t.part.mem = s.part.mem)
    ∧ (∀ opened, s.part.cru.door = none →
        let p := { s.part with
          pins.doorOpen := opened, samplers.door := held opened, cru.door := some opened
          cru.doorSettled := some opened }
        exec (.switchSettled .door opened) s = .next
          { s with
            part := if opened = true ∧ s.part.cru.keySettled = some false then raise .vaultForced 3 p else p })
    ∧ (s.part.cru.key = none →
        let p := { s.part with
          pins.keyOn := false, samplers.key := held false, cru.key := some false, cru.keySettled := some false }
        exec (.switchSettled .key false) s = .next
          { s with part := if s.part.cru.doorSettled = some true then raise .vaultForced 3 p else p })
    ∧ (s.part.cru.key = none → ∃ t, exec (.switchSettled .key true) s = .next t ∧ t.part.cru.key = some true
        ∧ t.part.cru.keySettled = some true ∧ t.part.cru.restriction = .noCalls
        ∧ t.part.bpu.causes.getLsbD 6 = true ∧ Group.status 0 ∈ t.part.bpu.dirty
        ∧ t.part.cru.rows = s.part.cru.rows ∧ t.part.cru.doorMark = s.part.cru.doorMark
        ∧ t.part.rlu = s.part.rlu ∧ t.part.cau = s.part.cau ∧ t.part.cc = s.part.cc ∧ t.part.mem = s.part.mem)

/-- CORD_TIMER_EXPIRY, SHOCK_PULSE, SHOCK_QUIET_EXPIRY, PULSE_AGE_OUT, FLASH_AGE_OUT and ABUSE_TIMER_EXPIRY (R133, R153,
R154): a cord open for 2 s raises HANDSET_CUT with the hook state as detail, once, and closed for 2 s clears it; a shock
pulse joins the pulses younger than 60 s, up to 32, five of them raise SHOCK with their number, and while SHOCK is
active each starts 600 s of quiet, whose end clears it; entries leave the lists at their age; the abuse timer's end
clears HOOK_ABUSE. COIN_MEASUREMENT (R13, R15): 12 rejects in the window raise REJECT_BURST while it is clear, with 100
times the TRANSIT entries plus the NO_MATCH entries, and 4 or fewer clear it, which a coin that is not rejected brings
about; a cell that reaches the threshold raises SLUG_CLUSTER with its bins. MAP_CELL_WRITTEN of cell 255 (R16, R17): a
clearing dump clears SLUG_CLUSTER when no cell is at the threshold, and no other dump does. The raw pins and their holds
follow the command, and the window is judged before the map (the model's choices, log entries 9 and 42). -/
def Obligations.AbuseDetected : Prop :=
  ∀ s : State,
    (let p := { s.part with pins.cordOpen := true, samplers.cord := { last := true, held := 2000 } }
     exec (.cordTimerExpiry true) s = .next
      { s with
        part := if isActive .handsetCut s.part then p
          else raise .handsetCut (if s.part.cc.off then 1 else 0) p })
    ∧ exec (.cordTimerExpiry false) s = .next
        { s with
          part := clear .handsetCut { s.part with
            pins.cordOpen := false, samplers.cord := { last := false, held := 2000 } } }
    ∧ (∃ t, exec .shockPulse s = .next t ∧ t.part.cru.pulses = ticksWith 60000 s.part.cru.pulses s.part
        ∧ t.part.cru.rows = (if 5 ≤ t.part.cru.pulses.length then
            (raise .shock t.part.cru.pulses.length s.part).cru.rows else s.part.cru.rows)
        ∧ (isActive .shock t.part = true →
            t.part.cru.shockQuiet = some { start := s.part.tick, limit := 600000 })
        ∧ (isActive .shock t.part = false → t.part.cru.shockQuiet = s.part.cru.shockQuiet)
        ∧ t.part.rlu = s.part.rlu ∧ t.part.cau = s.part.cau ∧ t.part.cc = s.part.cc ∧ t.part.mem = s.part.mem)
    ∧ (due s.part.cru.shockQuiet s.part → exec .shockQuietExpiry s = .next
        { s with part := clear .shock { s.part with cru.shockQuiet := none } })
    ∧ (due (ageTimer 60000 s.part.cru.pulses) s.part → exec .pulseAgeOut s = .next { s with part := { s.part with
        cru.pulses := s.part.cru.pulses.filter fun x => decide (elapsed x s.part < 60000) } })
    ∧ (due (ageTimer 10000 s.part.cc.flashes) s.part → exec .flashAgeOut s = .next { s with part := { s.part with
        cc.flashes := s.part.cc.flashes.filter fun x => decide (elapsed x s.part < 10000) } })
    ∧ (due s.part.cc.abuse s.part → exec .abuseTimerExpiry s = .next
        { s with part := clear .hookAbuse { s.part with cc.abuse := none } })
    ∧ (∀ (table : CoinTable) (m : Measurement) (why : Measured), s.part.bpu.load ≠ some .start →
        s.part.rlu.dump = .ended → s.part.cu.table = some table → classifyCoin table m = .reject why →
        gateRests s.part → s.part.cu.dump = none →
        let window := joinWindow why s.part.cu.window
        let cell := m.d.toNat / 4096 * 16 + m.a.toNat / 4096
        let count := (readWord s.part.cu.rejects cell).toNat
        let burst := burstJudged window s.part
        ∃ t, exec (.coinMeasurement m.d m.a m.t) s = .next t ∧ t.part.cu.window = window
          ∧ t.part.cru.rows = (if count + 1 = table.cluster then
              (raise .slugCluster (100 * (m.d.toNat / 4096) + m.a.toNat / 4096) burst).cru.rows else burst.cru.rows)
          ∧ t.part.rlu = s.part.rlu ∧ t.part.cau = s.part.cau ∧ t.part.mem = s.part.mem)
    ∧ (∀ m : Measurement, gateRests s.part → s.part.cc.call ≠ .grace →
        (s.part.bpu.load = some .start ∨ s.part.rlu.dump ≠ .ended ∨ s.part.cu.table = none
          ∨ ∃ table, s.part.cu.table = some table ∧ ∀ why, classifyCoin table m ≠ .reject why) →
        let window := joinWindow .notRejected s.part.cu.window
        ∃ t, exec (.coinMeasurement m.d m.a m.t) s = .next t ∧ t.part.cu.window = window
          ∧ t.part.cru.rows = (burstJudged window s.part).cru.rows
          ∧ (transitCount window + noMatchCount window ≤ 4 → isActive .rejectBurst t.part = false
            ∧ (isActive .rejectBurst s.part = true → restrictionHolds t.part
              ∧ t.part.bpu.causes.getLsbD 5 = true ∧ Group.status 7 ∈ t.part.bpu.dirty))
          ∧ t.part.cu.rejects = s.part.cu.rejects ∧ t.part.mem = s.part.mem)
    ∧ (∀ (a : Nat) (ws : List Word) (all : Bool), writeAtPort (.cell 255) none a ws s.part →
        s.part.cu.dump = some { clear := all, held := 0 } →
        let live := if all then writeWord s.part.cu.rejects 255 0 else s.part.cu.rejects
        ∃ t, exec .mapCellWritten s = .next t ∧ t.part.cu.dump = none ∧ t.part.cu.rejects = live
          ∧ t.part.cru.rows =
            (if all = true ∧ ∀ c ∈ live, c.2.toNat < clusterLimit s.part then (clear .slugCluster s.part).cru.rows
             else s.part.cru.rows)
          ∧ t.part.rlu = s.part.rlu ∧ t.part.cau = s.part.cau ∧ t.part.cc = s.part.cc)

end
end

