-- ==== Sys2Proof/Laws/Outer.lean ====
section
/-!
SUPPORT. What no internal operation of the part touches: the tick, the kind of start, memory, the input pins and their
holds, the window table, the host bus port with its starvation count and read data, the argument copies, and the
refused-write count with the capture record. `outer` gathers them, and each operation leaves `outer` as it was.
-/

set_option linter.unusedTactic false
set_option linter.unreachableTactic false

namespace Sys2Proof.Machine

/-- What the outside of the part shows and holds, apart from the coin mechanism. -/
def outer (p : Part) :=
  (p.tick, p.started, p.mem, p.pins, p.samplers, p.bpu.windows, p.bpu.hostQueue, p.bpu.starvation, p.bpu.readData,
    p.bpu.arg1, p.bpu.arg2, p.bpu.arg3, p.bpu.arg4, p.bpu.refused, p.bpu.capture)

theorem outer_tick {p q : Part} (h : outer q = outer p) : q.tick = p.tick := by
  simp only [outer, Prod.mk.injEq] at h; exact h.1
theorem outer_mem {p q : Part} (h : outer q = outer p) : q.mem = p.mem := by
  simp only [outer, Prod.mk.injEq] at h; exact h.2.2.1
theorem outer_pins {p q : Part} (h : outer q = outer p) : q.pins = p.pins := by
  simp only [outer, Prod.mk.injEq] at h; exact h.2.2.2.1
theorem outer_windows {p q : Part} (h : outer q = outer p) : q.bpu.windows = p.bpu.windows := by
  simp only [outer, Prod.mk.injEq] at h; exact h.2.2.2.2.2.1
theorem outer_hostQueue {p q : Part} (h : outer q = outer p) : q.bpu.hostQueue = p.bpu.hostQueue := by
  simp only [outer, Prod.mk.injEq] at h; exact h.2.2.2.2.2.2.1
theorem outer_starvation {p q : Part} (h : outer q = outer p) : q.bpu.starvation = p.bpu.starvation := by
  simp only [outer, Prod.mk.injEq] at h; exact h.2.2.2.2.2.2.2.1

@[simp] theorem mark_outer (g : Group) (p : Part) : outer (mark g p) = outer p := by
  unfold mark; repeat' (first | rfl | split | simp)

@[simp] theorem markS_outer (k : Nat) (p : Part) : outer (markS k p) = outer p := by
  unfold markS; repeat' (first | rfl | split | simp)

@[simp] theorem judgeLine_outer (p : Part) : outer (judgeLine p) = outer p := by
  unfold judgeLine; repeat' (first | rfl | split | simp)

@[simp] theorem setCause_outer (c : Cause) (p : Part) : outer (setCause c p) = outer p := by
  unfold setCause; repeat' (first | rfl | split | simp)

@[simp] theorem clearCauses_outer (d : Word) (p : Part) : outer (clearCauses d p) = outer p := by
  unfold clearCauses; repeat' (first | rfl | split | simp)

@[simp] theorem setEnable_outer (w : Word) (p : Part) : outer (setEnable w p) = outer p := by
  unfold setEnable; repeat' (first | rfl | split | simp)

@[simp] theorem requestRead_outer (r : ReadPurpose) (p : Part) : outer (requestRead r p) = outer p := by
  unfold requestRead; repeat' (first | rfl | split | simp)

@[simp] theorem withdrawReads_outer (f : ReadPurpose → Bool) (p : Part) :
    outer (withdrawReads f p) = outer p := by
  unfold withdrawReads; repeat' (first | rfl | split | simp)

@[simp] theorem complete_outer (c : ResultCode) (p : Part) : outer (complete c p) = outer p := by
  unfold complete; repeat' (first | rfl | split | simp)

@[simp] theorem completeIf_outer (n : Nat) (c : ResultCode) (p : Part) :
    outer (completeIf n c p) = outer p := by
  unfold completeIf; repeat' (first | rfl | split | simp)

@[simp] theorem markCells_outer (p : Part) : outer (markCells p) = outer p := by
  unfold markCells; repeat' (first | rfl | split | simp)

@[simp] theorem setRow_outer (k : Condition) (r : ConditionRow) (p : Part) :
    outer (setRow k r p) = outer p := by
  unfold setRow; repeat' (first | rfl | split | simp)

@[simp] theorem deriveRestriction_outer (p : Part) : outer (deriveRestriction p) = outer p := by
  unfold deriveRestriction; repeat' (first | rfl | split | simp)

@[simp] theorem touchSlot_outer (n : Nat) (p : Part) : outer (touchSlot n p) = outer p := by
  unfold touchSlot; repeat' (first | rfl | split | simp)

@[simp] theorem markSlot_outer (n : Nat) (p : Part) : outer (markSlot n p) = outer p := by
  unfold markSlot; repeat' (first | rfl | split | simp)

@[simp] theorem markRecord_outer (n : Nat) (p : Part) : outer (markRecord n p) = outer p := by
  unfold markRecord; repeat' (first | rfl | split | simp)

@[simp] theorem bookMoney_outer (f : Money → Money) (p : Part) : outer (bookMoney f p) = outer p := by
  unfold bookMoney; repeat' (first | rfl | split | simp)

@[simp] theorem bookTypes_outer (f : TypeCounts → TypeCounts) (p : Part) :
    outer (bookTypes f p) = outer p := by
  unfold bookTypes; repeat' (first | rfl | split | simp)

@[simp] theorem countEvent_outer (e : CountEvent) (p : Part) : outer (countEvent e p) = outer p := by
  unfold countEvent; repeat' (first | rfl | split | simp)

@[simp] theorem enterClearing_outer (p : Part) : outer (enterClearing p) = outer p := by
  unfold enterClearing; repeat' (first | rfl | split | simp)

@[simp] theorem releaseLine_outer (o : Owner) (p : Part) : outer (releaseLine o p) = outer p := by
  unfold releaseLine; repeat' (first | rfl | split | simp)

@[simp] theorem currentSeen_outer (s : Polarity) (p : Part) : outer (currentSeen s p) = outer p := by
  unfold currentSeen; repeat' (first | rfl | split | simp)

@[simp] theorem grantSeize_outer (o : Owner) (n : List Nat) (p : Part) :
    outer (grantSeize o n p) = outer p := by
  unfold grantSeize; repeat' (first | rfl | split | simp)

@[simp] theorem askCustomerSeize_outer (n : List Nat) (p : Part) :
    outer (askCustomerSeize n p) = outer p := by
  unfold askCustomerSeize; repeat' (first | rfl | split | simp)

@[simp] theorem probeAsk_outer (p : Part) : outer (probeAsk p) = outer p := by
  unfold probeAsk; repeat' (first | rfl | split | simp)

@[simp] theorem reportAsk_outer (p : Part) : outer (reportAsk p) = outer p := by
  unfold reportAsk; repeat' (first | rfl | split | simp)

@[simp] theorem enterIdle_outer (p : Part) : outer (enterIdle p) = outer p := by
  unfold enterIdle; repeat' (first | rfl | split | simp)

@[simp] theorem endClearing_outer (p : Part) : outer (endClearing p) = outer p := by
  unfold endClearing; repeat' (first | rfl | split | simp)

@[simp] theorem cancelBackoff_outer (p : Part) : outer (cancelBackoff p) = outer p := by
  unfold cancelBackoff; repeat' (first | rfl | split | simp)

@[simp] theorem joinRecord_outer (k : ReportKind) (d s : Nat) (p : Part) :
    outer (joinRecord k d s p) = outer p := by
  unfold joinRecord; repeat' (first | rfl | split | simp)

@[simp] theorem countDropped_outer (p : Part) : outer (countDropped p) = outer p := by
  unfold countDropped; repeat' (first | rfl | split | simp)

@[simp] theorem newRecord_outer (k : ReportKind) (d : Nat) (p : Part) :
    outer (newRecord k d p) = outer p := by
  unfold newRecord; repeat' (first | rfl | split | simp)

@[simp] theorem changeRecord_outer (s : Nat) (f : ReportRecord → ReportRecord) (p : Part) :
    outer (changeRecord s f p) = outer p := by
  unfold changeRecord; repeat' (first | rfl | split | simp)

@[simp] theorem enqueueRaise_outer (k : Condition) (d : Nat) (b : Bool) (p : Part) :
    outer (enqueueRaise k d b p) = outer p := by
  unfold enqueueRaise; repeat' (first | rfl | split | simp)

@[simp] theorem raise_outer (k : Condition) (d : Nat) (p : Part) : outer (raise k d p) = outer p := by
  unfold raise; repeat' (first | rfl | split | simp)

@[simp] theorem clear_outer (k : Condition) (p : Part) : outer (clear k p) = outer p := by
  unfold clear; repeat' (first | rfl | split | simp)

@[simp] theorem raiseLineDown_outer (d : Nat) (p : Part) : outer (raiseLineDown d p) = outer p := by
  unfold raiseLineDown; repeat' (first | rfl | split | simp)

@[simp] theorem clearLineDown_outer (p : Part) : outer (clearLineDown p) = outer p := by
  unfold clearLineDown; repeat' (first | rfl | split | simp)

@[simp] theorem examineCredit_outer (p : Part) : outer (examineCredit p) = outer p := by
  unfold examineCredit; repeat' (first | rfl | split | simp)

@[simp] theorem reexamineCredit_outer (p : Part) : outer (reexamineCredit p) = outer p := by
  unfold reexamineCredit; repeat' (first | rfl | split | simp)

@[simp] theorem sendCharge_outer (a : Nat) (p : Part) : outer (sendCharge a p) = outer p := by
  unfold sendCharge; repeat' (first | rfl | split | simp)

@[simp] theorem enterWaiting_outer (p : Part) : outer (enterWaiting p) = outer p := by
  unfold enterWaiting; repeat' (first | rfl | split | simp)

@[simp] theorem enterHeld_outer (t : Tick) (b : Nat) (p : Part) : outer (enterHeld t b p) = outer p := by
  unfold enterHeld; repeat' (first | rfl | split | simp)

@[simp] theorem runStep_outer (i : Total) (t : Tick) (b c : Nat) (p : Part) :
    outer (runStep i t b c p) = outer p := by
  unfold runStep; repeat' (first | rfl | split | simp)

@[simp] theorem takePassedEnd_outer (p : Part) : outer (takePassedEnd p) = outer p := by
  unfold takePassedEnd; repeat' (first | rfl | split | simp)

@[simp] theorem beginDueStep_outer (t : Tick) (b : Nat) (p : Part) :
    outer (beginDueStep t b p) = outer p := by
  unfold beginDueStep; repeat' (first | rfl | split | simp)

@[simp] theorem stepDue_outer (t : Tick) (b : Nat) (p : Part) : outer (stepDue t b p) = outer p := by
  unfold stepDue; repeat' (first | rfl | split | simp)

@[simp] theorem endStep_outer (p : Part) : outer (endStep p) = outer p := by
  unfold endStep; repeat' (first | rfl | split | simp)

@[simp] theorem reportPaid_outer (p : Part) : outer (reportPaid p) = outer p := by
  unfold reportPaid; repeat' (first | rfl | split | simp)

@[simp] theorem beginAnswerStep_outer (p : Part) : outer (beginAnswerStep p) = outer p := by
  unfold beginAnswerStep; repeat' (first | rfl | split | simp)

@[simp] theorem judgeBand_outer (p : Part) : outer (judgeBand p) = outer p := by
  unfold judgeBand; repeat' (first | rfl | split | simp)

@[simp] theorem stopCharging_outer (p : Part) : outer (stopCharging p) = outer p := by
  unfold stopCharging; repeat' (first | rfl | split | simp)

@[simp] theorem appendRecord_outer (r : RingRecord) (p : Part) : outer (appendRecord r p) = outer p := by
  unfold appendRecord; repeat' (first | rfl | split | simp)

@[simp] theorem takeConsumerIndex_outer (v : Nat) (p : Part) : outer (takeConsumerIndex v p) = outer p := by
  unfold takeConsumerIndex; repeat' (first | rfl | split | simp)

@[simp] theorem setCall_outer (c : CallState) (p : Part) : outer (setCall c p) = outer p := by
  unfold setCall; repeat' (first | rfl | split | simp)

@[simp] theorem clearDigits_outer (p : Part) : outer (clearDigits p) = outer p := by
  unfold clearDigits; repeat' (first | rfl | split | simp)

@[simp] theorem enterCollecting_outer (p : Part) : outer (enterCollecting p) = outer p := by
  unfold enterCollecting; repeat' (first | rfl | split | simp)

@[simp] theorem creditFollows_outer (n : Nat) (p : Part) : outer (creditFollows n p) = outer p := by
  unfold creditFollows; repeat' (first | rfl | split | simp)

@[simp] theorem bookCollect_outer (c : Coin) (p : Part) : outer (bookCollect c p) = outer p := by
  unfold bookCollect; repeat' (first | rfl | split | simp)

@[simp] theorem bookRefund_outer (c : Coin) (p : Part) : outer (bookRefund c p) = outer p := by
  unfold bookRefund; repeat' (first | rfl | split | simp)

@[simp] theorem bookSuspense_outer (c : Coin) (p : Part) : outer (bookSuspense c p) = outer p := by
  unfold bookSuspense; repeat' (first | rfl | split | simp)

@[simp] theorem bookCharge_outer (a : Nat) (p : Part) : outer (bookCharge a p) = outer p := by
  unfold bookCharge; repeat' (first | rfl | split | simp)

@[simp] theorem bookForfeit_outer (p : Part) : outer (bookForfeit p) = outer p := by
  unfold bookForfeit; repeat' (first | rfl | split | simp)

@[simp] theorem judgeVault_outer (p : Part) : outer (judgeVault p) = outer p := by
  unfold judgeVault; repeat' (first | rfl | split | simp)

@[simp] theorem judgeCapacity_outer (p : Part) : outer (judgeCapacity p) = outer p := by
  unfold judgeCapacity; repeat' (first | rfl | split | simp)

@[simp] theorem takeCapacity_outer (p : Part) : outer (takeCapacity p) = outer p := by
  unfold takeCapacity; repeat' (first | rfl | split | simp)

@[simp] theorem endCycle_outer (g : GateState) (p : Part) : outer (endCycle g p) = outer p := by
  unfold endCycle; dsimp only; split
  · exact completeIf_outer _ _ _
  · rfl

@[simp] theorem railChange_outer (f : Part → Part) (hf : ∀ q, outer (f q) = outer q) (p : Part) :
    outer (railChange f p) = outer p := by
  unfold railChange; repeat' (first | rfl | split | simp [hf])

@[simp] theorem owedChange_outer (f : Part → Part) (hf : ∀ q, outer (f q) = outer q) (p : Part) :
    outer (owedChange f p) = outer p := by
  unfold owedChange; repeat' (first | rfl | split | simp [hf])

@[simp] theorem beginCycle_outer (g : GateState) (p : Part) : outer (beginCycle g p) = outer p := by
  unfold beginCycle
  rw [railChange_outer]
  intro q; rfl

@[simp] theorem settle_outer (p : Part) : outer (settle p) = outer p := by
  unfold settle
  dsimp only
  rw [owedChange_outer]
  · split
    · rfl
    · exact railChange_outer _ bookForfeit_outer p
  · intro q; rfl

@[simp] theorem hangUpSettlement_outer (p : Part) : outer (hangUpSettlement p) = outer p := by
  unfold hangUpSettlement; repeat' (first | rfl | split | simp)

@[simp] theorem settleIfDue_outer (p : Part) : outer (settleIfDue p) = outer p := by
  unfold settleIfDue; repeat' (first | rfl | split | simp)

@[simp] theorem unlockFor_outer (c : PlacedCall) (p : Part) : outer (unlockFor c p) = outer p := by
  unfold unlockFor; repeat' (first | rfl | split | simp)

@[simp] theorem recordCall_outer (c : PlacedCall) (e : EndingMark) (n : Nat) (p : Part) :
    outer (recordCall c e n p) = outer p := by
  unfold recordCall; repeat' (first | rfl | split | simp)

@[simp] theorem leaveCall_outer (p : Part) : outer (leaveCall p) = outer p := by
  unfold leaveCall; repeat' (first | rfl | split | simp)

@[simp] theorem completeEnding_outer (p : Part) : outer (completeEnding p) = outer p := by
  unfold completeEnding; repeat' (first | rfl | split | simp)

@[simp] theorem endCall_outer (o : CallOutcome) (p : Part) : outer (endCall o p) = outer p := by
  unfold endCall; repeat' (first | rfl | split | simp)

@[simp] theorem stepStarted_outer (a : Nat) (p : Part) : outer (stepStarted a p) = outer p := by
  unfold stepStarted; repeat' (first | rfl | split | simp)

@[simp] theorem enterGrace_outer (a : Nat) (p : Part) : outer (enterGrace a p) = outer p := by
  unfold enterGrace; repeat' (first | rfl | split | simp)

@[simp] theorem answerCharged_outer (a : Nat) (p : Part) : outer (answerCharged a p) = outer p := by
  unfold answerCharged; repeat' (first | rfl | split | simp)

@[simp] theorem answerShort_outer (a : Nat) (p : Part) : outer (answerShort a p) = outer p := by
  unfold answerShort
  dsimp only
  split
  · exact completeEnding_outer _
  · exact (enterGrace_outer _ _).trans (examineCredit_outer _)
  · split
    · exact (endCall_outer _ _).trans (examineCredit_outer _)
    · split
      · exact (sendCharge_outer _ _).trans (examineCredit_outer _)
      · exact examineCredit_outer _
  all_goals rfl

@[simp] theorem deduct_outer (a : Nat) (p : Part) : outer (deduct a p) = outer p := by
  exact (answerCharged_outer _ _).trans (railChange_outer _ (bookCharge_outer a) p)

@[simp] theorem takeUpCharge_outer (a : Nat) (p : Part) : outer (takeUpCharge a p) = outer p := by
  unfold takeUpCharge; repeat' (first | rfl | split | simp)

@[simp] theorem beginRefund_outer (p : Part) : outer (beginRefund p) = outer p := by
  unfold beginRefund; repeat' (first | rfl | split | simp)

@[simp] theorem gateTurn_outer (p : Part) : outer ((gateTurn p).1) = outer p := by
  unfold gateTurn; repeat' (first | rfl | split | simp)

@[simp] theorem gateTurns_outer : ∀ (n : Nat) (p : Part), outer (gateTurns n p) = outer p
  | 0, _ => rfl
  | n + 1, p => by
    have h := gateTurn_outer p
    unfold gateTurns
    dsimp only
    split
    · rw [gateTurns_outer n, h]
    · exact h

@[simp] theorem gateWork_outer (p : Part) : outer (gateWork p) = outer p := by
  unfold gateWork; repeat' (first | rfl | split | simp)

@[simp] theorem takeLineOutcome_outer (o : LineOutcome) (p : Part) :
    outer (takeLineOutcome o p) = outer p := by
  unfold takeLineOutcome; repeat' (first | rfl | split | simp)

@[simp] theorem takeAnswered_outer (p : Part) : outer (takeAnswered p) = outer p := by
  unfold takeAnswered; repeat' (first | rfl | split | simp)

@[simp] theorem releaseCall_outer (p : Part) : outer (releaseCall p) = outer p := by
  unfold releaseCall; repeat' (first | rfl | split | simp)

@[simp] theorem endGrace_outer (p : Part) : outer (endGrace p) = outer p := by
  unfold endGrace; repeat' (first | rfl | split | simp)

@[simp] theorem judgeFlashes_outer (p : Part) : outer (judgeFlashes p) = outer p := by
  unfold judgeFlashes; repeat' (first | rfl | split | simp)

@[simp] theorem restartAbuse_outer (p : Part) : outer (restartAbuse p) = outer p := by
  unfold restartAbuse; repeat' (first | rfl | split | simp)

@[simp] theorem takeFlash_outer (p : Part) : outer (takeFlash p) = outer p := by
  unfold takeFlash; repeat' (first | rfl | split | simp)

@[simp] theorem takeLift_outer (p : Part) : outer (takeLift p) = outer p := by
  unfold takeLift; repeat' (first | rfl | split | simp)

@[simp] theorem stopScan_outer (p : Part) : outer (stopScan p) = outer p := by
  unfold stopScan; repeat' (first | rfl | split | simp)

@[simp] theorem beginScan_outer (p : Part) : outer (beginScan p) = outer p := by
  unfold beginScan; repeat' (first | rfl | split | simp)

@[simp] theorem beginVerify_outer (p : Part) : outer (beginVerify p) = outer p := by
  unfold beginVerify; repeat' (first | rfl | split | simp)

@[simp] theorem refuseDial_outer (c : ResultCode) (p : Part) : outer (refuseDial c p) = outer p := by
  unfold refuseDial; repeat' (first | rfl | split | simp)

@[simp] theorem placeCall_outer (c : CallClass) (i : Nat) (e : Option Nat) (p : Part) :
    outer (placeCall c i e p) = outer p := by
  unfold placeCall; repeat' (first | rfl | split | simp)

@[simp] theorem judgeRating_outer (r : Rating) (p : Part) : outer (judgeRating r p) = outer p := by
  unfold judgeRating; repeat' (first | rfl | split | simp)

@[simp] theorem applyVerdict_outer (f : Option Nat) (p : Part) : outer (applyVerdict f p) = outer p := by
  unfold applyVerdict
  split
  · exact raise_outer _ _ p
  · exact clear_outer _ p

@[simp] theorem scanResult_outer (f : Option Nat) (n : List Nat) (b : Option (Nat × TariffEntry)) (p : Part) :
    outer (scanResult f n b p).2 = outer p := by
  unfold scanResult; repeat' (first | rfl | split | simp)

@[simp] theorem completeScan_outer (f : Option Nat) (p : Part) : outer (completeScan f p) = outer p := by
  unfold completeScan; repeat' (first | rfl | split | simp)

@[simp] theorem takeHeader_outer (c k : Word) (p : Part) : outer (takeHeader c k p) = outer p := by
  unfold takeHeader; repeat' (first | rfl | split | simp)

@[simp] theorem takeEntry_outer (i : Nat) (ws : List Word) (p : Part) :
    outer (takeEntry i ws p) = outer p := by
  unfold takeEntry; repeat' (first | rfl | split | simp)

@[simp] theorem beginLookup_outer (n : List Nat) (p : Part) : outer (beginLookup n p) = outer p := by
  unfold beginLookup; repeat' (first | rfl | split | simp)

theorem answerAtTaking_outer {n : List Nat} {p q : Part} {r : Rating} (h : answerAtTaking n p = some (r, q)) :
    outer q = outer p := by
  unfold answerAtTaking at h
  split at h
  · cases h; rfl
  · split at h <;> cases h; rfl

@[simp] theorem lookup_outer (n : List Nat) (p : Part) : outer (lookup n p) = outer p := by
  unfold lookup
  split
  · rename_i h; simp [answerAtTaking_outer h]
  · exact beginLookup_outer n p

@[simp] theorem abandonLookup_outer (p : Part) : outer (abandonLookup p) = outer p := by
  unfold abandonLookup; repeat' (first | rfl | split | simp)

@[simp] theorem scanFailsBack_outer (p : Part) : outer (scanFailsBack p) = outer p := by
  unfold scanFailsBack; repeat' (first | rfl | split | simp)

@[simp] theorem tariffNotice_outer (p : Part) : outer (tariffNotice p) = outer p := by
  unfold tariffNotice; repeat' (first | rfl | split | simp)

@[simp] theorem dialCall_outer (p : Part) : outer (dialCall p) = outer p := by
  unfold dialCall; repeat' (first | rfl | split | simp)

@[simp] theorem takeHangUp_outer (p : Part) : outer (takeHangUp p) = outer p := by
  unfold takeHangUp; repeat' (first | rfl | split | simp)

@[simp] theorem appendDigit_outer (d : Nat) (p : Part) : outer (appendDigit d p) = outer p := by
  unfold appendDigit; repeat' (first | rfl | split | simp)

@[simp] theorem eraseDigit_outer (p : Part) : outer (eraseDigit p) = outer p := by
  unfold eraseDigit; repeat' (first | rfl | split | simp)

@[simp] theorem collectDigit_outer (v : Nat) (p : Part) : outer (collectDigit v p) = outer p := by
  unfold collectDigit; repeat' (first | rfl | split | simp)

@[simp] theorem startTone_outer (s : Nat) (r : List Nat) (p : Part) : outer (startTone s r p) = outer p := by
  unfold startTone; repeat' (first | rfl | split | simp)

@[simp] theorem pauseLoss_outer (p : Part) : outer (pauseLoss p) = outer p := by
  unfold pauseLoss; repeat' (first | rfl | split | simp)

@[simp] theorem startBreak_outer (s t : Nat) (r : List Nat) (p : Part) :
    outer (startBreak s t r p) = outer p := by
  exact (show outer (pauseLoss p) = outer p from pauseLoss_outer p)

@[simp] theorem startDigit_outer (d : Nat) (r : List Nat) (p : Part) :
    outer (startDigit d r p) = outer p := by
  unfold startDigit; repeat' (first | rfl | split | simp)

@[simp] theorem sendFrame_outer (r : ReportRecord) (p : Part) : outer (sendFrame r p) = outer p := by
  unfold sendFrame; repeat' (first | rfl | split | simp)

@[simp] theorem requeueSending_outer (p : Part) : outer (requeueSending p) = outer p := by
  unfold requeueSending; repeat' (first | rfl | split | simp)

@[simp] theorem reportFailure_outer (p : Part) : outer (reportFailure p) = outer p := by
  unfold reportFailure; repeat' (first | rfl | split | simp)

@[simp] theorem closeReport_outer (c : Option Bool) (p : Part) : outer (closeReport c p) = outer p := by
  unfold closeReport; repeat' (first | rfl | split | simp)

@[simp] theorem finishReport_outer (p : Part) : outer (finishReport p) = outer p := by
  unfold finishReport; repeat' (first | rfl | split | simp)

@[simp] theorem chooseRecord_outer (p : Part) : outer (chooseRecord p) = outer p := by
  unfold chooseRecord; repeat' (first | rfl | split | simp)

@[simp] theorem reportAnswered_outer (p : Part) : outer (reportAnswered p) = outer p := by
  unfold reportAnswered; repeat' (first | rfl | split | simp)

@[simp] theorem acceptRecord_outer (r : ReportRecord) (p : Part) : outer (acceptRecord r p) = outer p := by
  unfold acceptRecord; repeat' (first | rfl | split | simp)

@[simp] theorem frameAccepted_outer (p : Part) : outer (frameAccepted p) = outer p := by
  unfold frameAccepted; repeat' (first | rfl | split | simp)

@[simp] theorem frameNotAccepted_outer (p : Part) : outer (frameNotAccepted p) = outer p := by
  unfold frameNotAccepted; repeat' (first | rfl | split | simp)

@[simp] theorem reportOutcome_outer (o : LineOutcome) (p : Part) : outer (reportOutcome o p) = outer p := by
  unfold reportOutcome; repeat' (first | rfl | split | simp)

@[simp] theorem reportLifted_outer (p : Part) : outer (reportLifted p) = outer p := by
  unfold reportLifted; repeat' (first | rfl | split | simp)

@[simp] theorem probeEnded_outer (p : Part) : outer (probeEnded p) = outer p := by
  unfold probeEnded; repeat' (first | rfl | split | simp)

@[simp] theorem countFailedSeize_outer (d : Nat) (p : Part) : outer (countFailedSeize d p) = outer p := by
  unfold countFailedSeize; repeat' (first | rfl | split | simp)

@[simp] theorem seizeFailure_outer (w : Owner) (o : LineOutcome) (p : Part) :
    outer (seizeFailure w o p) = outer p := by
  unfold seizeFailure; repeat' (first | rfl | split | simp)

@[simp] theorem handOutcome_outer (w : Owner) (o : LineOutcome) (p : Part) :
    outer (handOutcome w o p) = outer p := by
  unfold handOutcome; repeat' (first | rfl | split | simp)

@[simp] theorem lineOutcome_outer (o : LineOutcome) (p : Part) : outer (lineOutcome o p) = outer p := by
  unfold lineOutcome; repeat' (first | rfl | split | simp)

@[simp] theorem liftLine_outer (p : Part) : outer (liftLine p) = outer p := by
  unfold liftLine; repeat' (first | rfl | split | simp)

@[simp] theorem enterAwaitAnswer_outer (p : Part) : outer (enterAwaitAnswer p) = outer p := by
  unfold enterAwaitAnswer; repeat' (first | rfl | split | simp)

@[simp] theorem dialToneFound_outer (s : Nat) (p : Part) : outer (dialToneFound s p) = outer p := by
  unfold dialToneFound
  dsimp only
  split
  · exact ((probeEnded_outer _).trans (enterClearing_outer _)).trans (clearLineDown_outer _)
  · split
    · exact ((enterAwaitAnswer_outer _).trans (markS_outer _ _)).trans (clearLineDown_outer _)
    · exact ((startDigit_outer _ _ _).trans (markS_outer _ _)).trans (clearLineDown_outer _)

@[simp] theorem endSweep_outer (p : Part) : outer (endSweep p) = outer p := by
  unfold endSweep; repeat' (first | rfl | split | simp)

@[simp] theorem searchDwell_outer (f : Nat) (p : Part) : outer (searchDwell f p) = outer p := by
  unfold searchDwell; repeat' (first | rfl | split | simp)

@[simp] theorem progressDwell_outer (f : Nat) (p : Part) : outer (progressDwell f p) = outer p := by
  unfold progressDwell; repeat' (first | rfl | split | simp)

@[simp] theorem answerCall_outer (p : Part) : outer (answerCall p) = outer p := by
  unfold answerCall; repeat' (first | rfl | split | simp)

@[simp] theorem endPause_outer (p : Part) : outer (endPause p) = outer p := by
  unfold endPause; repeat' (first | rfl | split | simp)

@[simp] theorem followReversal_outer (p : Part) : outer (followReversal p) = outer p := by
  unfold followReversal; repeat' (first | rfl | split | simp)

@[simp] theorem followClear_outer (p : Part) : outer (followClear p) = outer p := by
  unfold followClear; repeat' (first | rfl | split | simp)

@[simp] theorem resumeLoss_outer (p : Part) : outer (resumeLoss p) = outer p := by
  unfold resumeLoss; repeat' (first | rfl | split | simp)

@[simp] theorem followLoss_outer (p : Part) : outer (followLoss p) = outer p := by
  unfold followLoss; repeat' (first | rfl | split | simp)

@[simp] theorem sendInCall_outer (p : Part) : outer (sendInCall p) = outer p := by
  unfold sendInCall; repeat' (first | rfl | split | simp)

@[simp] theorem endSending_outer (p : Part) : outer (endSending p) = outer p := by
  unfold endSending; repeat' (first | rfl | split | simp)

@[simp] theorem endTone_outer (p : Part) : outer (endTone p) = outer p := by
  unfold endTone; repeat' (first | rfl | split | simp)

@[simp] theorem endGap_outer (p : Part) : outer (endGap p) = outer p := by
  unfold endGap; repeat' (first | rfl | split | simp)

@[simp] theorem startMake_outer (n : Nat) (p : Part) : outer (startMake n p) = outer p := by
  unfold startMake; repeat' (first | rfl | split | simp)

@[simp] theorem endBreak_outer (p : Part) : outer (endBreak p) = outer p := by
  unfold endBreak; repeat' (first | rfl | split | simp)

@[simp] theorem endMake_outer (p : Part) : outer (endMake p) = outer p := by
  unfold endMake; repeat' (first | rfl | split | simp)

@[simp] theorem takeInCall_outer (d : Nat) (p : Part) : outer (takeInCall d p) = outer p := by
  unfold takeInCall; repeat' (first | rfl | split | simp)

@[simp] theorem takeDialWord_outer (v : Nat) (p : Part) : outer (takeDialWord v p) = outer p := by
  unfold takeDialWord; repeat' (first | rfl | split | simp)

@[simp] theorem receiveSymbol_outer (s : Nat) (p : Part) : outer (receiveSymbol s p) = outer p := by
  unfold receiveSymbol handResult
  (repeat' split)
  · exact (frameAccepted_outer _).trans (markS_outer _ _)
  · exact (frameNotAccepted_outer _).trans (markS_outer _ _)
  · rfl
  · rfl

@[simp] theorem hookDown_outer (p : Part) : outer (hookDown p) = outer p := by
  unfold hookDown; repeat' (first | rfl | split | simp)

@[simp] theorem hookUp_outer (p : Part) : outer (hookUp p) = outer p := by
  unfold hookUp; repeat' (first | rfl | split | simp)

@[simp] theorem scrubTurn_outer (p : Part) : outer (scrubTurn p) = outer p := by
  unfold scrubTurn; repeat' (first | rfl | split | simp)

@[simp] theorem setTimeCommand_outer (p : Part) : outer (setTimeCommand p) = outer p := by
  unfold setTimeCommand; repeat' (first | rfl | split | simp)

@[simp] theorem setAttentionCommand_outer (p : Part) : outer (setAttentionCommand p) = outer p := by
  unfold setAttentionCommand; repeat' (first | rfl | split | simp)

@[simp] theorem mapDumpCommand_outer (p : Part) : outer (mapDumpCommand p) = outer p := by
  unfold mapDumpCommand; repeat' (first | rfl | split | simp)

@[simp] theorem clearAccountFault_outer (p : Part) : outer (clearAccountFault p) = outer p := by
  have h : ∀ (ns : List Nat) (q : Part), outer (ns.foldl (fun q n => markRecord n q) q) = outer q := by
    intro ns; induction ns with
    | nil => intro q; rfl
    | cons n ns ih => intro q; rw [List.foldl_cons, ih, markRecord_outer]
  unfold clearAccountFault
  dsimp only
  split
  · rw [complete_outer, clear_outer, h]; rfl
  · rw [clear_outer, h]; rfl

@[simp] theorem shiftCollections_outer (c : Collection) (p : Part) :
    outer (shiftCollections c p) = outer p := by
  unfold shiftCollections; repeat' (first | rfl | split | simp)

@[simp] theorem zeroVault_outer (p : Part) : outer (zeroVault p) = outer p := by
  unfold zeroVault; repeat' (first | rfl | split | simp)

@[simp] theorem awaitClearance_outer (p : Part) : outer (awaitClearance p) = outer p := by
  unfold awaitClearance; repeat' (first | rfl | split | simp)

@[simp] theorem clearVault_outer (p : Part) : outer (clearVault p) = outer p := by
  unfold clearVault; repeat' (first | rfl | split | simp)

@[simp] theorem vaultClearedCommand_outer (p : Part) : outer (vaultClearedCommand p) = outer p := by
  unfold vaultClearedCommand; repeat' (first | rfl | split | simp)

@[simp] theorem clearJam_outer (p : Part) : outer (clearJam p) = outer p := by
  unfold clearJam
  dsimp only
  split
  · rw [gateWork_outer, complete_outer, railChange_outer]
    · exact clear_outer _ _
    · intro q; rfl
  · rw [complete_outer, clear_outer]
  all_goals exact clear_outer _ _

@[simp] theorem clearServiced_outer (k : Condition) (p : Part) : outer (clearServiced k p) = outer p := by
  unfold clearServiced; repeat' (first | rfl | split | simp)

@[simp] theorem clearConditionCommand_outer (p : Part) : outer (clearConditionCommand p) = outer p := by
  unfold clearConditionCommand; repeat' (first | rfl | split | simp)

@[simp] theorem reloadCommand_outer (p : Part) : outer (reloadCommand p) = outer p := by
  unfold reloadCommand; repeat' (first | rfl | split | simp)

@[simp] theorem reportNowCommand_outer (p : Part) : outer (reportNowCommand p) = outer p := by
  unfold reportNowCommand; repeat' (first | rfl | split | simp)

@[simp] theorem testReportCommand_outer (p : Part) : outer (testReportCommand p) = outer p := by
  unfold testReportCommand; repeat' (first | rfl | split | simp)

@[simp] theorem judgeCommand_outer (c : Nat) (p : Part) : outer (judgeCommand c p) = outer p := by
  unfold judgeCommand; repeat' (first | rfl | split | simp)

@[simp] theorem takeCommand_outer (c : Nat) (p : Part) : outer (takeCommand c p) = outer p := by
  unfold takeCommand; repeat' (first | rfl | split | simp)
end Sys2Proof.Machine
end

