-- ==== Sys2Proof/Laws/State.lean ====
section
/-!
SUPPORT. One lemma per field for the updates that every unit makes: marking a group dirty, setting a cause, judging
the attention line, completing a command, requesting a read, putting a condition row.
-/

namespace Sys2Proof.Machine

@[simp] theorem mark_tick (g : Group) (p : Part) : (mark g p).tick = p.tick := rfl
@[simp] theorem mark_started (g : Group) (p : Part) : (mark g p).started = p.started := rfl
@[simp] theorem mark_free (g : Group) (p : Part) : (mark g p).free = p.free := rfl
@[simp] theorem mark_mem (g : Group) (p : Part) : (mark g p).mem = p.mem := rfl
@[simp] theorem mark_pins (g : Group) (p : Part) : (mark g p).pins = p.pins := rfl
@[simp] theorem mark_samplers (g : Group) (p : Part) : (mark g p).samplers = p.samplers := rfl
@[simp] theorem mark_cu (g : Group) (p : Part) : (mark g p).cu = p.cu := rfl
@[simp] theorem mark_rlu (g : Group) (p : Part) : (mark g p).rlu = p.rlu := rfl
@[simp] theorem mark_cau (g : Group) (p : Part) : (mark g p).cau = p.cau := rfl
@[simp] theorem mark_rtu (g : Group) (p : Part) : (mark g p).rtu = p.rtu := rfl
@[simp] theorem mark_lu (g : Group) (p : Part) : (mark g p).lu = p.lu := rfl
@[simp] theorem mark_cc (g : Group) (p : Part) : (mark g p).cc = p.cc := rfl
@[simp] theorem mark_cru (g : Group) (p : Part) : (mark g p).cru = p.cru := rfl
@[simp] theorem mark_bpu_windows (g : Group) (p : Part) : (mark g p).bpu.windows = p.bpu.windows := rfl
@[simp] theorem mark_bpu_arg1 (g : Group) (p : Part) : (mark g p).bpu.arg1 = p.bpu.arg1 := rfl
@[simp] theorem mark_bpu_arg2 (g : Group) (p : Part) : (mark g p).bpu.arg2 = p.bpu.arg2 := rfl
@[simp] theorem mark_bpu_arg3 (g : Group) (p : Part) : (mark g p).bpu.arg3 = p.bpu.arg3 := rfl
@[simp] theorem mark_bpu_arg4 (g : Group) (p : Part) : (mark g p).bpu.arg4 = p.bpu.arg4 := rfl
@[simp] theorem mark_bpu_profileChanged (g : Group) (p : Part) :
    (mark g p).bpu.profileChanged = p.bpu.profileChanged := rfl
@[simp] theorem mark_bpu_refused (g : Group) (p : Part) : (mark g p).bpu.refused = p.bpu.refused := rfl
@[simp] theorem mark_bpu_capture (g : Group) (p : Part) : (mark g p).bpu.capture = p.bpu.capture := rfl
@[simp] theorem mark_bpu_dirty (g : Group) (p : Part) : (mark g p).bpu.dirty = insertGroup g p.bpu.dirty := rfl
@[simp] theorem mark_bpu_waiting (g : Group) (p : Part) : (mark g p).bpu.waiting = p.bpu.waiting := rfl
@[simp] theorem mark_bpu_aside (g : Group) (p : Part) : (mark g p).bpu.aside = p.bpu.aside := rfl
@[simp] theorem mark_bpu_starvation (g : Group) (p : Part) : (mark g p).bpu.starvation = p.bpu.starvation := rfl
@[simp] theorem mark_bpu_port (g : Group) (p : Part) : (mark g p).bpu.port = p.bpu.port := rfl
@[simp] theorem mark_bpu_hostQueue (g : Group) (p : Part) : (mark g p).bpu.hostQueue = p.bpu.hostQueue := rfl
@[simp] theorem mark_bpu_readData (g : Group) (p : Part) : (mark g p).bpu.readData = p.bpu.readData := rfl
@[simp] theorem mark_bpu_inFlight (g : Group) (p : Part) : (mark g p).bpu.inFlight = p.bpu.inFlight := rfl
@[simp] theorem mark_bpu_result (g : Group) (p : Part) : (mark g p).bpu.result = p.bpu.result := rfl
@[simp] theorem mark_bpu_number (g : Group) (p : Part) : (mark g p).bpu.number = p.bpu.number := rfl
@[simp] theorem mark_bpu_causes (g : Group) (p : Part) : (mark g p).bpu.causes = p.bpu.causes := rfl
@[simp] theorem mark_bpu_enable (g : Group) (p : Part) : (mark g p).bpu.enable = p.bpu.enable := rfl
@[simp] theorem mark_bpu_attention (g : Group) (p : Part) : (mark g p).bpu.attention = p.bpu.attention := rfl
@[simp] theorem mark_bpu_load (g : Group) (p : Part) : (mark g p).bpu.load = p.bpu.load := rfl
@[simp] theorem mark_bpu_profileWords (g : Group) (p : Part) : (mark g p).bpu.profileWords = p.bpu.profileWords := rfl

@[simp] theorem markS_tick (k : Nat) (p : Part) : (markS k p).tick = p.tick := rfl
@[simp] theorem markS_started (k : Nat) (p : Part) : (markS k p).started = p.started := rfl
@[simp] theorem markS_free (k : Nat) (p : Part) : (markS k p).free = p.free := rfl
@[simp] theorem markS_mem (k : Nat) (p : Part) : (markS k p).mem = p.mem := rfl
@[simp] theorem markS_pins (k : Nat) (p : Part) : (markS k p).pins = p.pins := rfl
@[simp] theorem markS_samplers (k : Nat) (p : Part) : (markS k p).samplers = p.samplers := rfl
@[simp] theorem markS_cu (k : Nat) (p : Part) : (markS k p).cu = p.cu := rfl
@[simp] theorem markS_rlu (k : Nat) (p : Part) : (markS k p).rlu = p.rlu := rfl
@[simp] theorem markS_cau (k : Nat) (p : Part) : (markS k p).cau = p.cau := rfl
@[simp] theorem markS_rtu (k : Nat) (p : Part) : (markS k p).rtu = p.rtu := rfl
@[simp] theorem markS_lu (k : Nat) (p : Part) : (markS k p).lu = p.lu := rfl
@[simp] theorem markS_cc (k : Nat) (p : Part) : (markS k p).cc = p.cc := rfl
@[simp] theorem markS_cru (k : Nat) (p : Part) : (markS k p).cru = p.cru := rfl
@[simp] theorem markS_bpu_windows (k : Nat) (p : Part) : (markS k p).bpu.windows = p.bpu.windows := rfl
@[simp] theorem markS_bpu_arg1 (k : Nat) (p : Part) : (markS k p).bpu.arg1 = p.bpu.arg1 := rfl
@[simp] theorem markS_bpu_arg2 (k : Nat) (p : Part) : (markS k p).bpu.arg2 = p.bpu.arg2 := rfl
@[simp] theorem markS_bpu_arg3 (k : Nat) (p : Part) : (markS k p).bpu.arg3 = p.bpu.arg3 := rfl
@[simp] theorem markS_bpu_arg4 (k : Nat) (p : Part) : (markS k p).bpu.arg4 = p.bpu.arg4 := rfl
@[simp] theorem markS_bpu_profileChanged (k : Nat) (p : Part) :
    (markS k p).bpu.profileChanged = p.bpu.profileChanged := rfl
@[simp] theorem markS_bpu_refused (k : Nat) (p : Part) : (markS k p).bpu.refused = p.bpu.refused := rfl
@[simp] theorem markS_bpu_capture (k : Nat) (p : Part) : (markS k p).bpu.capture = p.bpu.capture := rfl
@[simp] theorem markS_bpu_dirty (k : Nat) (p : Part) :
    (markS k p).bpu.dirty = insertGroup (.status k) p.bpu.dirty := rfl
@[simp] theorem markS_bpu_waiting (k : Nat) (p : Part) : (markS k p).bpu.waiting = p.bpu.waiting := rfl
@[simp] theorem markS_bpu_aside (k : Nat) (p : Part) : (markS k p).bpu.aside = p.bpu.aside := rfl
@[simp] theorem markS_bpu_starvation (k : Nat) (p : Part) : (markS k p).bpu.starvation = p.bpu.starvation := rfl
@[simp] theorem markS_bpu_port (k : Nat) (p : Part) : (markS k p).bpu.port = p.bpu.port := rfl
@[simp] theorem markS_bpu_hostQueue (k : Nat) (p : Part) : (markS k p).bpu.hostQueue = p.bpu.hostQueue := rfl
@[simp] theorem markS_bpu_readData (k : Nat) (p : Part) : (markS k p).bpu.readData = p.bpu.readData := rfl
@[simp] theorem markS_bpu_inFlight (k : Nat) (p : Part) : (markS k p).bpu.inFlight = p.bpu.inFlight := rfl
@[simp] theorem markS_bpu_result (k : Nat) (p : Part) : (markS k p).bpu.result = p.bpu.result := rfl
@[simp] theorem markS_bpu_number (k : Nat) (p : Part) : (markS k p).bpu.number = p.bpu.number := rfl
@[simp] theorem markS_bpu_causes (k : Nat) (p : Part) : (markS k p).bpu.causes = p.bpu.causes := rfl
@[simp] theorem markS_bpu_enable (k : Nat) (p : Part) : (markS k p).bpu.enable = p.bpu.enable := rfl
@[simp] theorem markS_bpu_attention (k : Nat) (p : Part) : (markS k p).bpu.attention = p.bpu.attention := rfl
@[simp] theorem markS_bpu_load (k : Nat) (p : Part) : (markS k p).bpu.load = p.bpu.load := rfl
@[simp] theorem markS_bpu_profileWords (k : Nat) (p : Part) : (markS k p).bpu.profileWords = p.bpu.profileWords := rfl

@[simp] theorem judgeLine_tick (p : Part) : (judgeLine p).tick = p.tick := rfl
@[simp] theorem judgeLine_started (p : Part) : (judgeLine p).started = p.started := rfl
@[simp] theorem judgeLine_free (p : Part) : (judgeLine p).free = p.free := rfl
@[simp] theorem judgeLine_mem (p : Part) : (judgeLine p).mem = p.mem := rfl
@[simp] theorem judgeLine_pins (p : Part) : (judgeLine p).pins = p.pins := rfl
@[simp] theorem judgeLine_samplers (p : Part) : (judgeLine p).samplers = p.samplers := rfl
@[simp] theorem judgeLine_cu (p : Part) : (judgeLine p).cu = p.cu := rfl
@[simp] theorem judgeLine_rlu (p : Part) : (judgeLine p).rlu = p.rlu := rfl
@[simp] theorem judgeLine_cau (p : Part) : (judgeLine p).cau = p.cau := rfl
@[simp] theorem judgeLine_rtu (p : Part) : (judgeLine p).rtu = p.rtu := rfl
@[simp] theorem judgeLine_lu (p : Part) : (judgeLine p).lu = p.lu := rfl
@[simp] theorem judgeLine_cc (p : Part) : (judgeLine p).cc = p.cc := rfl
@[simp] theorem judgeLine_cru (p : Part) : (judgeLine p).cru = p.cru := rfl
@[simp] theorem judgeLine_bpu_windows (p : Part) : (judgeLine p).bpu.windows = p.bpu.windows := rfl
@[simp] theorem judgeLine_bpu_arg1 (p : Part) : (judgeLine p).bpu.arg1 = p.bpu.arg1 := rfl
@[simp] theorem judgeLine_bpu_arg2 (p : Part) : (judgeLine p).bpu.arg2 = p.bpu.arg2 := rfl
@[simp] theorem judgeLine_bpu_arg3 (p : Part) : (judgeLine p).bpu.arg3 = p.bpu.arg3 := rfl
@[simp] theorem judgeLine_bpu_arg4 (p : Part) : (judgeLine p).bpu.arg4 = p.bpu.arg4 := rfl
@[simp] theorem judgeLine_bpu_profileChanged (p : Part) :
    (judgeLine p).bpu.profileChanged = p.bpu.profileChanged := rfl
@[simp] theorem judgeLine_bpu_refused (p : Part) : (judgeLine p).bpu.refused = p.bpu.refused := rfl
@[simp] theorem judgeLine_bpu_capture (p : Part) : (judgeLine p).bpu.capture = p.bpu.capture := rfl
@[simp] theorem judgeLine_bpu_dirty (p : Part) : (judgeLine p).bpu.dirty = p.bpu.dirty := rfl
@[simp] theorem judgeLine_bpu_waiting (p : Part) : (judgeLine p).bpu.waiting = p.bpu.waiting := rfl
@[simp] theorem judgeLine_bpu_aside (p : Part) : (judgeLine p).bpu.aside = p.bpu.aside := rfl
@[simp] theorem judgeLine_bpu_starvation (p : Part) : (judgeLine p).bpu.starvation = p.bpu.starvation := rfl
@[simp] theorem judgeLine_bpu_port (p : Part) : (judgeLine p).bpu.port = p.bpu.port := rfl
@[simp] theorem judgeLine_bpu_hostQueue (p : Part) : (judgeLine p).bpu.hostQueue = p.bpu.hostQueue := rfl
@[simp] theorem judgeLine_bpu_readData (p : Part) : (judgeLine p).bpu.readData = p.bpu.readData := rfl
@[simp] theorem judgeLine_bpu_inFlight (p : Part) : (judgeLine p).bpu.inFlight = p.bpu.inFlight := rfl
@[simp] theorem judgeLine_bpu_result (p : Part) : (judgeLine p).bpu.result = p.bpu.result := rfl
@[simp] theorem judgeLine_bpu_number (p : Part) : (judgeLine p).bpu.number = p.bpu.number := rfl
@[simp] theorem judgeLine_bpu_causes (p : Part) : (judgeLine p).bpu.causes = p.bpu.causes := rfl
@[simp] theorem judgeLine_bpu_enable (p : Part) : (judgeLine p).bpu.enable = p.bpu.enable := rfl
@[simp] theorem judgeLine_bpu_attention (p : Part) :
    (judgeLine p).bpu.attention = lineFor p.bpu.causes p.bpu.enable := rfl
@[simp] theorem judgeLine_bpu_load (p : Part) : (judgeLine p).bpu.load = p.bpu.load := rfl
@[simp] theorem judgeLine_bpu_profileWords (p : Part) : (judgeLine p).bpu.profileWords = p.bpu.profileWords := rfl

@[simp] theorem setCause_tick (c : Cause) (p : Part) : (setCause c p).tick = p.tick := rfl
@[simp] theorem setCause_started (c : Cause) (p : Part) : (setCause c p).started = p.started := rfl
@[simp] theorem setCause_free (c : Cause) (p : Part) : (setCause c p).free = p.free := rfl
@[simp] theorem setCause_mem (c : Cause) (p : Part) : (setCause c p).mem = p.mem := rfl
@[simp] theorem setCause_pins (c : Cause) (p : Part) : (setCause c p).pins = p.pins := rfl
@[simp] theorem setCause_samplers (c : Cause) (p : Part) : (setCause c p).samplers = p.samplers := rfl
@[simp] theorem setCause_cu (c : Cause) (p : Part) : (setCause c p).cu = p.cu := rfl
@[simp] theorem setCause_rlu (c : Cause) (p : Part) : (setCause c p).rlu = p.rlu := rfl
@[simp] theorem setCause_cau (c : Cause) (p : Part) : (setCause c p).cau = p.cau := rfl
@[simp] theorem setCause_rtu (c : Cause) (p : Part) : (setCause c p).rtu = p.rtu := rfl
@[simp] theorem setCause_lu (c : Cause) (p : Part) : (setCause c p).lu = p.lu := rfl
@[simp] theorem setCause_cc (c : Cause) (p : Part) : (setCause c p).cc = p.cc := rfl
@[simp] theorem setCause_cru (c : Cause) (p : Part) : (setCause c p).cru = p.cru := rfl
@[simp] theorem setCause_bpu_windows (c : Cause) (p : Part) : (setCause c p).bpu.windows = p.bpu.windows := rfl
@[simp] theorem setCause_bpu_arg1 (c : Cause) (p : Part) : (setCause c p).bpu.arg1 = p.bpu.arg1 := rfl
@[simp] theorem setCause_bpu_arg2 (c : Cause) (p : Part) : (setCause c p).bpu.arg2 = p.bpu.arg2 := rfl
@[simp] theorem setCause_bpu_arg3 (c : Cause) (p : Part) : (setCause c p).bpu.arg3 = p.bpu.arg3 := rfl
@[simp] theorem setCause_bpu_arg4 (c : Cause) (p : Part) : (setCause c p).bpu.arg4 = p.bpu.arg4 := rfl
@[simp] theorem setCause_bpu_profileChanged (c : Cause) (p : Part) :
    (setCause c p).bpu.profileChanged = p.bpu.profileChanged := rfl
@[simp] theorem setCause_bpu_refused (c : Cause) (p : Part) : (setCause c p).bpu.refused = p.bpu.refused := rfl
@[simp] theorem setCause_bpu_capture (c : Cause) (p : Part) : (setCause c p).bpu.capture = p.bpu.capture := rfl
@[simp] theorem setCause_bpu_dirty (c : Cause) (p : Part) :
    (setCause c p).bpu.dirty = insertGroup (.status 0) p.bpu.dirty := rfl
@[simp] theorem setCause_bpu_waiting (c : Cause) (p : Part) : (setCause c p).bpu.waiting = p.bpu.waiting := rfl
@[simp] theorem setCause_bpu_aside (c : Cause) (p : Part) : (setCause c p).bpu.aside = p.bpu.aside := rfl
@[simp] theorem setCause_bpu_starvation (c : Cause) (p : Part) :
    (setCause c p).bpu.starvation = p.bpu.starvation := rfl
@[simp] theorem setCause_bpu_port (c : Cause) (p : Part) : (setCause c p).bpu.port = p.bpu.port := rfl
@[simp] theorem setCause_bpu_hostQueue (c : Cause) (p : Part) : (setCause c p).bpu.hostQueue = p.bpu.hostQueue := rfl
@[simp] theorem setCause_bpu_readData (c : Cause) (p : Part) : (setCause c p).bpu.readData = p.bpu.readData := rfl
@[simp] theorem setCause_bpu_inFlight (c : Cause) (p : Part) : (setCause c p).bpu.inFlight = p.bpu.inFlight := rfl
@[simp] theorem setCause_bpu_result (c : Cause) (p : Part) : (setCause c p).bpu.result = p.bpu.result := rfl
@[simp] theorem setCause_bpu_number (c : Cause) (p : Part) : (setCause c p).bpu.number = p.bpu.number := rfl
@[simp] theorem setCause_bpu_causes (c : Cause) (p : Part) :
    (setCause c p).bpu.causes = p.bpu.causes ||| causeBit c := rfl
@[simp] theorem setCause_bpu_enable (c : Cause) (p : Part) : (setCause c p).bpu.enable = p.bpu.enable := rfl
@[simp] theorem setCause_bpu_attention (c : Cause) (p : Part) :
    (setCause c p).bpu.attention = lineFor (p.bpu.causes ||| causeBit c) p.bpu.enable := rfl
@[simp] theorem setCause_bpu_load (c : Cause) (p : Part) : (setCause c p).bpu.load = p.bpu.load := rfl
@[simp] theorem setCause_bpu_profileWords (c : Cause) (p : Part) :
    (setCause c p).bpu.profileWords = p.bpu.profileWords := rfl

@[simp] theorem complete_tick (c : ResultCode) (p : Part) : (complete c p).tick = p.tick := rfl
@[simp] theorem complete_started (c : ResultCode) (p : Part) : (complete c p).started = p.started := rfl
@[simp] theorem complete_free (c : ResultCode) (p : Part) : (complete c p).free = p.free := rfl
@[simp] theorem complete_mem (c : ResultCode) (p : Part) : (complete c p).mem = p.mem := rfl
@[simp] theorem complete_pins (c : ResultCode) (p : Part) : (complete c p).pins = p.pins := rfl
@[simp] theorem complete_samplers (c : ResultCode) (p : Part) : (complete c p).samplers = p.samplers := rfl
@[simp] theorem complete_cu (c : ResultCode) (p : Part) : (complete c p).cu = p.cu := rfl
@[simp] theorem complete_rlu (c : ResultCode) (p : Part) : (complete c p).rlu = p.rlu := rfl
@[simp] theorem complete_cau (c : ResultCode) (p : Part) : (complete c p).cau = p.cau := rfl
@[simp] theorem complete_rtu (c : ResultCode) (p : Part) : (complete c p).rtu = p.rtu := rfl
@[simp] theorem complete_lu (c : ResultCode) (p : Part) : (complete c p).lu = p.lu := rfl
@[simp] theorem complete_cc (c : ResultCode) (p : Part) : (complete c p).cc = p.cc := rfl
@[simp] theorem complete_cru (c : ResultCode) (p : Part) : (complete c p).cru = p.cru := rfl
@[simp] theorem complete_bpu_windows (c : ResultCode) (p : Part) : (complete c p).bpu.windows = p.bpu.windows := rfl
@[simp] theorem complete_bpu_arg1 (c : ResultCode) (p : Part) : (complete c p).bpu.arg1 = p.bpu.arg1 := rfl
@[simp] theorem complete_bpu_arg2 (c : ResultCode) (p : Part) : (complete c p).bpu.arg2 = p.bpu.arg2 := rfl
@[simp] theorem complete_bpu_arg3 (c : ResultCode) (p : Part) : (complete c p).bpu.arg3 = p.bpu.arg3 := rfl
@[simp] theorem complete_bpu_arg4 (c : ResultCode) (p : Part) : (complete c p).bpu.arg4 = p.bpu.arg4 := rfl
@[simp] theorem complete_bpu_profileChanged (c : ResultCode) (p : Part) :
    (complete c p).bpu.profileChanged = p.bpu.profileChanged := rfl
@[simp] theorem complete_bpu_refused (c : ResultCode) (p : Part) : (complete c p).bpu.refused = p.bpu.refused := rfl
@[simp] theorem complete_bpu_capture (c : ResultCode) (p : Part) : (complete c p).bpu.capture = p.bpu.capture := rfl
@[simp] theorem complete_bpu_dirty (c : ResultCode) (p : Part) :
    (complete c p).bpu.dirty = insertGroup .result p.bpu.dirty := rfl
@[simp] theorem complete_bpu_waiting (c : ResultCode) (p : Part) : (complete c p).bpu.waiting = p.bpu.waiting := rfl
@[simp] theorem complete_bpu_aside (c : ResultCode) (p : Part) : (complete c p).bpu.aside = p.bpu.aside := rfl
@[simp] theorem complete_bpu_starvation (c : ResultCode) (p : Part) :
    (complete c p).bpu.starvation = p.bpu.starvation := rfl
@[simp] theorem complete_bpu_port (c : ResultCode) (p : Part) : (complete c p).bpu.port = p.bpu.port := rfl
@[simp] theorem complete_bpu_hostQueue (c : ResultCode) (p : Part) :
    (complete c p).bpu.hostQueue = p.bpu.hostQueue := rfl
@[simp] theorem complete_bpu_readData (c : ResultCode) (p : Part) :
    (complete c p).bpu.readData = p.bpu.readData := rfl
@[simp] theorem complete_bpu_inFlight (c : ResultCode) (p : Part) :
    (complete c p).bpu.inFlight = p.bpu.inFlight := rfl
@[simp] theorem complete_bpu_result (c : ResultCode) (p : Part) : (complete c p).bpu.result = c := rfl
@[simp] theorem complete_bpu_number (c : ResultCode) (p : Part) : (complete c p).bpu.number = p.bpu.number := rfl
@[simp] theorem complete_bpu_causes (c : ResultCode) (p : Part) : (complete c p).bpu.causes = p.bpu.causes := rfl
@[simp] theorem complete_bpu_enable (c : ResultCode) (p : Part) : (complete c p).bpu.enable = p.bpu.enable := rfl
@[simp] theorem complete_bpu_attention (c : ResultCode) (p : Part) :
    (complete c p).bpu.attention = p.bpu.attention := rfl
@[simp] theorem complete_bpu_load (c : ResultCode) (p : Part) : (complete c p).bpu.load = p.bpu.load := rfl
@[simp] theorem complete_bpu_profileWords (c : ResultCode) (p : Part) :
    (complete c p).bpu.profileWords = p.bpu.profileWords := rfl

@[simp] theorem requestRead_tick (r : ReadPurpose) (p : Part) : (requestRead r p).tick = p.tick := rfl
@[simp] theorem requestRead_started (r : ReadPurpose) (p : Part) : (requestRead r p).started = p.started := rfl
@[simp] theorem requestRead_free (r : ReadPurpose) (p : Part) : (requestRead r p).free = p.free := rfl
@[simp] theorem requestRead_mem (r : ReadPurpose) (p : Part) : (requestRead r p).mem = p.mem := rfl
@[simp] theorem requestRead_pins (r : ReadPurpose) (p : Part) : (requestRead r p).pins = p.pins := rfl
@[simp] theorem requestRead_samplers (r : ReadPurpose) (p : Part) : (requestRead r p).samplers = p.samplers := rfl
@[simp] theorem requestRead_cu (r : ReadPurpose) (p : Part) : (requestRead r p).cu = p.cu := rfl
@[simp] theorem requestRead_rlu (r : ReadPurpose) (p : Part) : (requestRead r p).rlu = p.rlu := rfl
@[simp] theorem requestRead_cau (r : ReadPurpose) (p : Part) : (requestRead r p).cau = p.cau := rfl
@[simp] theorem requestRead_rtu (r : ReadPurpose) (p : Part) : (requestRead r p).rtu = p.rtu := rfl
@[simp] theorem requestRead_lu (r : ReadPurpose) (p : Part) : (requestRead r p).lu = p.lu := rfl
@[simp] theorem requestRead_cc (r : ReadPurpose) (p : Part) : (requestRead r p).cc = p.cc := rfl
@[simp] theorem requestRead_cru (r : ReadPurpose) (p : Part) : (requestRead r p).cru = p.cru := rfl
@[simp] theorem requestRead_bpu_windows (r : ReadPurpose) (p : Part) :
    (requestRead r p).bpu.windows = p.bpu.windows := rfl
@[simp] theorem requestRead_bpu_arg1 (r : ReadPurpose) (p : Part) : (requestRead r p).bpu.arg1 = p.bpu.arg1 := rfl
@[simp] theorem requestRead_bpu_arg2 (r : ReadPurpose) (p : Part) : (requestRead r p).bpu.arg2 = p.bpu.arg2 := rfl
@[simp] theorem requestRead_bpu_arg3 (r : ReadPurpose) (p : Part) : (requestRead r p).bpu.arg3 = p.bpu.arg3 := rfl
@[simp] theorem requestRead_bpu_arg4 (r : ReadPurpose) (p : Part) : (requestRead r p).bpu.arg4 = p.bpu.arg4 := rfl
@[simp] theorem requestRead_bpu_profileChanged (r : ReadPurpose) (p : Part) :
    (requestRead r p).bpu.profileChanged = p.bpu.profileChanged := rfl
@[simp] theorem requestRead_bpu_refused (r : ReadPurpose) (p : Part) :
    (requestRead r p).bpu.refused = p.bpu.refused := rfl
@[simp] theorem requestRead_bpu_capture (r : ReadPurpose) (p : Part) :
    (requestRead r p).bpu.capture = p.bpu.capture := rfl
@[simp] theorem requestRead_bpu_dirty (r : ReadPurpose) (p : Part) : (requestRead r p).bpu.dirty = p.bpu.dirty := rfl
@[simp] theorem requestRead_bpu_waiting (r : ReadPurpose) (p : Part) :
    (requestRead r p).bpu.waiting = p.bpu.waiting ++ [{ purpose := r, limit := none }] := rfl
@[simp] theorem requestRead_bpu_aside (r : ReadPurpose) (p : Part) : (requestRead r p).bpu.aside = p.bpu.aside := rfl
@[simp] theorem requestRead_bpu_starvation (r : ReadPurpose) (p : Part) :
    (requestRead r p).bpu.starvation = p.bpu.starvation := rfl
@[simp] theorem requestRead_bpu_port (r : ReadPurpose) (p : Part) : (requestRead r p).bpu.port = p.bpu.port := rfl
@[simp] theorem requestRead_bpu_hostQueue (r : ReadPurpose) (p : Part) :
    (requestRead r p).bpu.hostQueue = p.bpu.hostQueue := rfl
@[simp] theorem requestRead_bpu_readData (r : ReadPurpose) (p : Part) :
    (requestRead r p).bpu.readData = p.bpu.readData := rfl
@[simp] theorem requestRead_bpu_inFlight (r : ReadPurpose) (p : Part) :
    (requestRead r p).bpu.inFlight = p.bpu.inFlight := rfl
@[simp] theorem requestRead_bpu_result (r : ReadPurpose) (p : Part) :
    (requestRead r p).bpu.result = p.bpu.result := rfl
@[simp] theorem requestRead_bpu_number (r : ReadPurpose) (p : Part) :
    (requestRead r p).bpu.number = p.bpu.number := rfl
@[simp] theorem requestRead_bpu_causes (r : ReadPurpose) (p : Part) :
    (requestRead r p).bpu.causes = p.bpu.causes := rfl
@[simp] theorem requestRead_bpu_enable (r : ReadPurpose) (p : Part) :
    (requestRead r p).bpu.enable = p.bpu.enable := rfl
@[simp] theorem requestRead_bpu_attention (r : ReadPurpose) (p : Part) :
    (requestRead r p).bpu.attention = p.bpu.attention := rfl
@[simp] theorem requestRead_bpu_load (r : ReadPurpose) (p : Part) : (requestRead r p).bpu.load = p.bpu.load := rfl
@[simp] theorem requestRead_bpu_profileWords (r : ReadPurpose) (p : Part) :
    (requestRead r p).bpu.profileWords = p.bpu.profileWords := rfl

@[simp] theorem setRow_tick (k : Condition) (r : ConditionRow) (p : Part) : (setRow k r p).tick = p.tick := rfl
@[simp] theorem setRow_started (k : Condition) (r : ConditionRow) (p : Part) :
    (setRow k r p).started = p.started := rfl
@[simp] theorem setRow_free (k : Condition) (r : ConditionRow) (p : Part) : (setRow k r p).free = p.free := rfl
@[simp] theorem setRow_mem (k : Condition) (r : ConditionRow) (p : Part) : (setRow k r p).mem = p.mem := rfl
@[simp] theorem setRow_pins (k : Condition) (r : ConditionRow) (p : Part) : (setRow k r p).pins = p.pins := rfl
@[simp] theorem setRow_samplers (k : Condition) (r : ConditionRow) (p : Part) :
    (setRow k r p).samplers = p.samplers := rfl
@[simp] theorem setRow_bpu (k : Condition) (r : ConditionRow) (p : Part) : (setRow k r p).bpu = p.bpu := rfl
@[simp] theorem setRow_cu (k : Condition) (r : ConditionRow) (p : Part) : (setRow k r p).cu = p.cu := rfl
@[simp] theorem setRow_rlu (k : Condition) (r : ConditionRow) (p : Part) : (setRow k r p).rlu = p.rlu := rfl
@[simp] theorem setRow_cau (k : Condition) (r : ConditionRow) (p : Part) : (setRow k r p).cau = p.cau := rfl
@[simp] theorem setRow_rtu (k : Condition) (r : ConditionRow) (p : Part) : (setRow k r p).rtu = p.rtu := rfl
@[simp] theorem setRow_lu (k : Condition) (r : ConditionRow) (p : Part) : (setRow k r p).lu = p.lu := rfl
@[simp] theorem setRow_cc (k : Condition) (r : ConditionRow) (p : Part) : (setRow k r p).cc = p.cc := rfl
@[simp] theorem setRow_cru_rows (k : Condition) (r : ConditionRow) (p : Part) :
    (setRow k r p).cru.rows = p.cru.rows.set (k.code - 1) r := rfl
@[simp] theorem setRow_cru_door (k : Condition) (r : ConditionRow) (p : Part) :
    (setRow k r p).cru.door = p.cru.door := rfl
@[simp] theorem setRow_cru_key (k : Condition) (r : ConditionRow) (p : Part) :
    (setRow k r p).cru.key = p.cru.key := rfl
@[simp] theorem setRow_cru_doorMark (k : Condition) (r : ConditionRow) (p : Part) :
    (setRow k r p).cru.doorMark = p.cru.doorMark := rfl
@[simp] theorem setRow_cru_restriction (k : Condition) (r : ConditionRow) (p : Part) :
    (setRow k r p).cru.restriction = p.cru.restriction := rfl
@[simp] theorem setRow_cru_pulses (k : Condition) (r : ConditionRow) (p : Part) :
    (setRow k r p).cru.pulses = p.cru.pulses := rfl
@[simp] theorem setRow_cru_shockQuiet (k : Condition) (r : ConditionRow) (p : Part) :
    (setRow k r p).cru.shockQuiet = p.cru.shockQuiet := rfl
@[simp] theorem setRow_cru_queue (k : Condition) (r : ConditionRow) (p : Part) :
    (setRow k r p).cru.queue = p.cru.queue := rfl
@[simp] theorem setRow_cru_sequence (k : Condition) (r : ConditionRow) (p : Part) :
    (setRow k r p).cru.sequence = p.cru.sequence := rfl
@[simp] theorem setRow_cru_dropped (k : Condition) (r : ConditionRow) (p : Part) :
    (setRow k r p).cru.dropped = p.cru.dropped := rfl
@[simp] theorem setRow_cru_report (k : Condition) (r : ConditionRow) (p : Part) :
    (setRow k r p).cru.report = p.cru.report := rfl
@[simp] theorem setRow_cru_failures (k : Condition) (r : ConditionRow) (p : Part) :
    (setRow k r p).cru.failures = p.cru.failures := rfl
@[simp] theorem setRow_cru_backoff (k : Condition) (r : ConditionRow) (p : Part) :
    (setRow k r p).cru.backoff = p.cru.backoff := rfl
@[simp] theorem setRow_cru_hookQuiet (k : Condition) (r : ConditionRow) (p : Part) :
    (setRow k r p).cru.hookQuiet = p.cru.hookQuiet := rfl
@[simp] theorem setRow_cru_quietReached (k : Condition) (r : ConditionRow) (p : Part) :
    (setRow k r p).cru.quietReached = p.cru.quietReached := rfl
@[simp] theorem setRow_cru_number (k : Condition) (r : ConditionRow) (p : Part) :
    (setRow k r p).cru.number = p.cru.number := rfl
@[simp] theorem setRow_cru_identity (k : Condition) (r : ConditionRow) (p : Part) :
    (setRow k r p).cru.identity = p.cru.identity := rfl

/-! ## Marking: a group that is marked is dirty, and stays so at another mark -/

theorem mem_insertGroup_self (g : Group) (l : List Group) : g ∈ insertGroup g l := by
  induction l with
  | nil => simp [insertGroup]
  | cons h t ih =>
    unfold insertGroup
    split
    · simp_all
    · split <;> simp_all

theorem mem_insertGroup_of_mem {g k : Group} {l : List Group} (h : k ∈ l) : k ∈ insertGroup g l := by
  induction l with
  | nil => simp at h
  | cons a t ih =>
    unfold insertGroup
    rcases List.mem_cons.1 h with rfl | h
    · split
      · simp
      · split <;> simp
    · have := ih h
      split
      · simp [h]
      · split <;> simp [h, this]

end Sys2Proof.Machine
end

