-- ==== Sys2Proof/Laws/Conditions.lean ====
section
/-!
SUPPORT. What a raise and a clear can do (R149, R150), and what they leave alone. `inner` gathers the units and
registers that no raise and no clear reaches: a raise touches the condition table, the report queue, the restriction,
the causes and the dirty set, and may have a report call asked for. `sensors` gathers what the report queue leaves
alone.
-/

set_option linter.unusedTactic false
set_option linter.unreachableTactic false

namespace Sys2Proof.Machine

/-- What no raise and no clear reaches. -/
def inner (p : Part) :=
  (p.cu, p.rlu, p.cau, p.rtu, p.cc, p.free, p.bpu.waiting, p.bpu.aside, p.bpu.port, p.bpu.inFlight, p.bpu.result,
    p.bpu.number, p.bpu.enable, p.bpu.load, p.bpu.profileWords, p.bpu.profileChanged)

@[simp] theorem mark_inner (g : Group) (p : Part) : inner (mark g p) = inner p := by
  unfold mark; repeat' (first | rfl | split | simp)

@[simp] theorem markS_inner (k : Nat) (p : Part) : inner (markS k p) = inner p := by
  unfold markS; repeat' (first | rfl | split | simp)

@[simp] theorem judgeLine_inner (p : Part) : inner (judgeLine p) = inner p := by
  unfold judgeLine; repeat' (first | rfl | split | simp)

@[simp] theorem setCause_inner (c : Cause) (p : Part) : inner (setCause c p) = inner p := by
  unfold setCause; repeat' (first | rfl | split | simp)

@[simp] theorem enterClearing_inner (p : Part) : inner (enterClearing p) = inner p := by
  unfold enterClearing; repeat' (first | rfl | split | simp)

@[simp] theorem currentSeen_inner (s : Polarity) (p : Part) : inner (currentSeen s p) = inner p := by
  unfold currentSeen; repeat' (first | rfl | split | simp)

@[simp] theorem grantSeize_inner (o : Owner) (n : List Nat) (p : Part) : inner (grantSeize o n p) = inner p := by
  unfold grantSeize; repeat' (first | rfl | split | simp)

@[simp] theorem probeAsk_inner (p : Part) : inner (probeAsk p) = inner p := by
  unfold probeAsk; repeat' (first | rfl | split | simp)

@[simp] theorem reportAsk_inner (p : Part) : inner (reportAsk p) = inner p := by
  unfold reportAsk; repeat' (first | rfl | split | simp)

@[simp] theorem cancelBackoff_inner (p : Part) : inner (cancelBackoff p) = inner p := by
  unfold cancelBackoff; repeat' (first | rfl | split | simp)

@[simp] theorem joinRecord_inner (k : ReportKind) (d s : Nat) (p : Part) : inner (joinRecord k d s p) = inner p := by
  unfold joinRecord; repeat' (first | rfl | split | simp)

@[simp] theorem countDropped_inner (p : Part) : inner (countDropped p) = inner p := by
  unfold countDropped; repeat' (first | rfl | split | simp)

@[simp] theorem newRecord_inner (k : ReportKind) (d : Nat) (p : Part) : inner (newRecord k d p) = inner p := by
  unfold newRecord; repeat' (first | rfl | split | simp)

@[simp] theorem changeRecord_inner (s : Nat) (f : ReportRecord → ReportRecord) (p : Part) : inner (changeRecord s f p) = inner p := by
  unfold changeRecord; repeat' (first | rfl | split | simp)

@[simp] theorem enqueueRaise_inner (k : Condition) (d : Nat) (b : Bool) (p : Part) : inner (enqueueRaise k d b p) = inner p := by
  unfold enqueueRaise; repeat' (first | rfl | split | simp)

@[simp] theorem setRow_inner (k : Condition) (r : ConditionRow) (p : Part) : inner (setRow k r p) = inner p := by
  unfold setRow; repeat' (first | rfl | split | simp)

@[simp] theorem deriveRestriction_inner (p : Part) : inner (deriveRestriction p) = inner p := by
  unfold deriveRestriction; repeat' (first | rfl | split | simp)

@[simp] theorem raise_inner (k : Condition) (d : Nat) (p : Part) : inner (raise k d p) = inner p := by
  unfold raise; repeat' (first | rfl | split | simp)

@[simp] theorem clear_inner (k : Condition) (p : Part) : inner (clear k p) = inner p := by
  unfold clear; repeat' (first | rfl | split | simp)

/-- What the report queue and the line's grants leave alone. -/
def sensors (p : Part) :=
  (p.cru.rows, p.cru.key, p.cru.door, p.cru.doorMark, p.cru.restriction, p.cru.pulses, p.cru.shockQuiet,
    p.cru.hookQuiet, p.cru.quietReached, p.cru.number, p.cru.identity, p.cru.failures)

@[simp] theorem mark_sensors (g : Group) (p : Part) : sensors (mark g p) = sensors p := by
  unfold mark; repeat' (first | rfl | split | simp)

@[simp] theorem markS_sensors (k : Nat) (p : Part) : sensors (markS k p) = sensors p := by
  unfold markS; repeat' (first | rfl | split | simp)

@[simp] theorem judgeLine_sensors (p : Part) : sensors (judgeLine p) = sensors p := by
  unfold judgeLine; repeat' (first | rfl | split | simp)

@[simp] theorem setCause_sensors (c : Cause) (p : Part) : sensors (setCause c p) = sensors p := by
  unfold setCause; repeat' (first | rfl | split | simp)

@[simp] theorem enterClearing_sensors (p : Part) : sensors (enterClearing p) = sensors p := by
  unfold enterClearing; repeat' (first | rfl | split | simp)

@[simp] theorem currentSeen_sensors (s : Polarity) (p : Part) : sensors (currentSeen s p) = sensors p := by
  unfold currentSeen; repeat' (first | rfl | split | simp)

@[simp] theorem grantSeize_sensors (o : Owner) (n : List Nat) (p : Part) : sensors (grantSeize o n p) = sensors p := by
  unfold grantSeize; repeat' (first | rfl | split | simp)

@[simp] theorem probeAsk_sensors (p : Part) : sensors (probeAsk p) = sensors p := by
  unfold probeAsk; repeat' (first | rfl | split | simp)

@[simp] theorem reportAsk_sensors (p : Part) : sensors (reportAsk p) = sensors p := by
  unfold reportAsk; repeat' (first | rfl | split | simp)

@[simp] theorem cancelBackoff_sensors (p : Part) : sensors (cancelBackoff p) = sensors p := by
  unfold cancelBackoff; repeat' (first | rfl | split | simp)

@[simp] theorem joinRecord_sensors (k : ReportKind) (d s : Nat) (p : Part) : sensors (joinRecord k d s p) = sensors p := by
  unfold joinRecord; repeat' (first | rfl | split | simp)

@[simp] theorem countDropped_sensors (p : Part) : sensors (countDropped p) = sensors p := by
  unfold countDropped; repeat' (first | rfl | split | simp)

@[simp] theorem newRecord_sensors (k : ReportKind) (d : Nat) (p : Part) : sensors (newRecord k d p) = sensors p := by
  unfold newRecord; repeat' (first | rfl | split | simp)

@[simp] theorem changeRecord_sensors (s : Nat) (f : ReportRecord → ReportRecord) (p : Part) : sensors (changeRecord s f p) = sensors p := by
  unfold changeRecord; repeat' (first | rfl | split | simp)

@[simp] theorem enqueueRaise_sensors (k : Condition) (d : Nat) (b : Bool) (p : Part) : sensors (enqueueRaise k d b p) = sensors p := by
  unfold enqueueRaise; repeat' (first | rfl | split | simp)

theorem inner_cu {p q : Part} (h : inner q = inner p) : q.cu = p.cu := by
  simp only [inner, Prod.mk.injEq] at h; exact h.1
theorem inner_rlu {p q : Part} (h : inner q = inner p) : q.rlu = p.rlu := by
  simp only [inner, Prod.mk.injEq] at h; exact h.2.1
theorem inner_cau {p q : Part} (h : inner q = inner p) : q.cau = p.cau := by
  simp only [inner, Prod.mk.injEq] at h; exact h.2.2.1
theorem inner_rtu {p q : Part} (h : inner q = inner p) : q.rtu = p.rtu := by
  simp only [inner, Prod.mk.injEq] at h; exact h.2.2.2.1
theorem inner_cc {p q : Part} (h : inner q = inner p) : q.cc = p.cc := by
  simp only [inner, Prod.mk.injEq] at h; exact h.2.2.2.2.1
theorem sensors_rows {p q : Part} (h : sensors q = sensors p) : q.cru.rows = p.cru.rows := by
  simp only [sensors, Prod.mk.injEq] at h; exact h.1
theorem sensors_key {p q : Part} (h : sensors q = sensors p) : q.cru.key = p.cru.key := by
  simp only [sensors, Prod.mk.injEq] at h; exact h.2.1
theorem sensors_restriction {p q : Part} (h : sensors q = sensors p) : q.cru.restriction = p.cru.restriction := by
  simp only [sensors, Prod.mk.injEq] at h; exact h.2.2.2.2.1

theorem deriveRestriction_rows (p : Part) : (deriveRestriction p).cru.rows = p.cru.rows := by
  unfold deriveRestriction; split <;> rfl

theorem deriveRestriction_key (p : Part) : (deriveRestriction p).cru.key = p.cru.key := by
  unfold deriveRestriction; split <;> rfl

/-- The condition table after a raise. -/
theorem raise_rows (k : Condition) (d : Nat) (p : Part) :
    (raise k d p).cru.rows = p.cru.rows.set (k.code - 1) (raisedRow p.rtu.clock d (rowOf k p)) := by
  unfold raise
  dsimp only
  split
  · rw [setCause_cru, markS_cru, deriveRestriction_rows, setRow_cru_rows]
  · rw [sensors_rows (enqueueRaise_sensors _ _ _ _), setCause_cru, markS_cru, deriveRestriction_rows, setRow_cru_rows]

/-- The condition table after a clear. -/
theorem clear_rows (k : Condition) (p : Part) :
    (clear k p).cru.rows = if isActive k p then p.cru.rows.set (k.code - 1) { rowOf k p with active := false }
      else p.cru.rows := by
  unfold clear
  split
  · rw [setCause_cru, markS_cru, deriveRestriction_rows, setRow_cru_rows]
  · rfl

/-- The derived restriction rests on the rows and the key alone. -/
theorem derivedRestriction_congr {p q : Part} (hr : q.cru.rows = p.cru.rows) (hk : q.cru.key = p.cru.key) :
    derivedRestriction q = derivedRestriction p := by
  have h : ∀ ks, highest q ks = highest p ks := by
    intro ks
    induction ks with
    | nil => rfl
    | cons k ks ih => unfold highest isActive rowOf; rw [hr, ih]
  unfold derivedRestriction serviceMode
  rw [hk, h]

/-- After a derivation the restriction is the derived one. -/
theorem deriveRestriction_holds (p : Part) :
    (deriveRestriction p).cru.restriction = derivedRestriction (deriveRestriction p) := by
  rw [derivedRestriction_congr (deriveRestriction_rows p) (deriveRestriction_key p)]
  unfold deriveRestriction
  split
  · exact Eq.symm ‹_›
  · rw [setCause_cru, markS_cru]

/-! ## What a raise leaves alone, unit by unit -/

theorem raise_cau (k : Condition) (d : Nat) (p : Part) : (raise k d p).cau = p.cau := inner_cau (raise_inner k d p)
theorem raise_rlu (k : Condition) (d : Nat) (p : Part) : (raise k d p).rlu = p.rlu := inner_rlu (raise_inner k d p)
theorem raise_cc (k : Condition) (d : Nat) (p : Part) : (raise k d p).cc = p.cc := inner_cc (raise_inner k d p)
theorem raise_rtu (k : Condition) (d : Nat) (p : Part) : (raise k d p).rtu = p.rtu := inner_rtu (raise_inner k d p)
theorem raise_mem (k : Condition) (d : Nat) (p : Part) : (raise k d p).mem = p.mem := outer_mem (raise_outer k d p)
theorem raise_tick (k : Condition) (d : Nat) (p : Part) : (raise k d p).tick = p.tick := outer_tick (raise_outer k d p)

/-! ## What a raise makes of the CRU -/

@[simp] theorem grantSeize_cru (o : Owner) (n : List Nat) (p : Part) : (grantSeize o n p).cru = p.cru := by
  unfold grantSeize; dsimp only; split <;> rfl

theorem reportAsk_cru_congr {p q : Part} (hc : p.cru = q.cru) (hl : p.lu = q.lu) (ho : p.cc.off = q.cc.off) :
    (reportAsk p).cru = (reportAsk q).cru := by
  have hr : reportReady p = reportReady q := by
    simp only [reportReady, lineFree, isActive, rowOf, hc, hl, ho]
  unfold reportAsk
  rw [hc, hr]
  split
  · split <;> simp [grantSeize_cru, hc]
  · exact hc

/-- What a raise reads: the CRU, the wall clock, the line and the hook. -/
def raiseView (p : Part) := (p.cru, p.rtu.clock, p.lu, p.cc.off)

theorem joinRecord_cru_congr {p q : Part} (h : raiseView p = raiseView q) (k : ReportKind) (d s : Nat) :
    (joinRecord k d s p).cru = (joinRecord k d s q).cru := by
  simp only [raiseView, Prod.mk.injEq] at h
  obtain ⟨hc, ht, hl, ho⟩ := h
  unfold joinRecord cancelBackoff
  dsimp only
  apply reportAsk_cru_congr
  all_goals (repeat' split) <;> simp_all

theorem newRecord_cru_congr {p q : Part} (h : raiseView p = raiseView q) (k : ReportKind) (d : Nat) :
    (newRecord k d p).cru = (newRecord k d q).cru := by
  have h' := h
  simp only [raiseView, Prod.mk.injEq] at h'
  obtain ⟨hc, ht, hl, ho⟩ := h'
  unfold newRecord
  rw [hc]
  split
  · exact joinRecord_cru_congr h _ _ _
  · split
    · split
      · exact joinRecord_cru_congr (by simp [raiseView, countDropped, *]) _ _ _
      · simp [countDropped, hc]
    · simp [countDropped, hc]

/-- What a raise makes of the CRU rests on what it reads alone. -/
theorem raise_cru_congr {p q : Part} (h : raiseView p = raiseView q) (k : Condition) (d : Nat) :
    (raise k d p).cru = (raise k d q).cru := by
  have h' := h
  simp only [raiseView, Prod.mk.injEq] at h'
  obtain ⟨hc, ht, hl, ho⟩ := h'
  have hrow : rowOf k p = rowOf k q := by simp [rowOf, hc]
  have hset : ∀ r, raiseView (deriveRestriction (setRow k r p)) = raiseView (deriveRestriction (setRow k r q)) := by
    intro r
    have hd : derivedRestriction (setRow k r p) = derivedRestriction (setRow k r q) :=
      derivedRestriction_congr (by simp [hc]) (by simp [hc])
    unfold deriveRestriction
    rw [hd, show (setRow k r p).cru.restriction = (setRow k r q).cru.restriction by simp [hc]]
    have hs : (setRow k r p).cru = (setRow k r q).cru := by simp [setRow, hc]
    split <;> simp [raiseView, hs, ht, hl, ho]
  have hq : raiseView (setCause .condition (markS 7
        (deriveRestriction (setRow k (raisedRow p.rtu.clock d (rowOf k p)) p))))
      = raiseView (setCause .condition (markS 7
        (deriveRestriction (setRow k (raisedRow q.rtu.clock d (rowOf k q)) q)))) := by
    rw [ht, hrow]
    have := hset (raisedRow q.rtu.clock d (rowOf k q))
    simpa [raiseView] using this
  unfold raise
  dsimp only
  rw [show isActive k p = isActive k q by simp [isActive, hrow]]
  generalize setCause .condition (markS 7
    (deriveRestriction (setRow k (raisedRow p.rtu.clock d (rowOf k p)) p))) = a at *
  generalize setCause .condition (markS 7
    (deriveRestriction (setRow k (raisedRow q.rtu.clock d (rowOf k q)) q))) = b at *
  have hq' := hq
  simp only [raiseView, Prod.mk.injEq] at hq'
  obtain ⟨hc', ht', hl', ho'⟩ := hq'
  split
  · exact hc'
  · unfold enqueueRaise
    rw [hc']
    split
    · simp [changeRecord, hc', ht']
    · split
      · exact newRecord_cru_congr hq _ _
      · exact hc'

/-- After a raise the condition is active with its detail. -/
theorem raise_active {k : Condition} {d : Nat} {p q : Part} (h : q.cru = (raise k d p).cru)
    (hl : p.cru.rows.length = 14) : isActive k q = true ∧ (rowOf k q).detail = d := by
  have : rowOf k q = raisedRow p.rtu.clock d (rowOf k p) := by
    conv_lhs => unfold rowOf
    rw [h, raise_rows, List.getD_eq_getElem?_getD, List.getElem?_set_self]
    · rfl
    · rw [hl]; cases k <;> decide
  unfold isActive
  rw [this]
  exact ⟨rfl, rfl⟩

/-! ## What a raise keeps of what is published -/

/-- No bit of a cause other than LOW_CREDIT is LOW_CREDIT's. -/
theorem setCause_lowCredit {c : Cause} (h : c ≠ .lowCredit) (p : Part) :
    (setCause c p).bpu.causes.getLsbD 2 = p.bpu.causes.getLsbD 2 := by
  have : (causeBit c).getLsbD 2 = false := by cases c <;> first | decide | exact absurd rfl h
  show (p.bpu.causes ||| causeBit c).getLsbD 2 = _
  rw [BitVec.getLsbD_or, this, Bool.or_false]

/-- The LOW_CREDIT cause and a line in use are as before. -/
structure RaiseKept (p q : Part) : Prop where
  low : q.bpu.causes.getLsbD 2 = p.bpu.causes.getLsbD 2
  lu : p.lu.line ≠ .idle → q.lu = p.lu

theorem RaiseKept.refl (p : Part) : RaiseKept p p := ⟨rfl, fun _ => rfl⟩

theorem RaiseKept.trans {p q r : Part} (h : RaiseKept p q) (k : RaiseKept q r) : RaiseKept p r :=
  ⟨k.low.trans h.low, fun hl => (k.lu (by rw [h.lu hl]; exact hl)).trans (h.lu hl)⟩

theorem setCause_raiseKept {c : Cause} (h : c ≠ .lowCredit) (p : Part) : RaiseKept p (setCause c p) :=
  ⟨setCause_lowCredit h p, fun _ => rfl⟩

theorem markS_raiseKept (n : Nat) (p : Part) : RaiseKept p (markS n p) := ⟨rfl, fun _ => rfl⟩

/-- A report call is granted on an open line only. -/
theorem reportAsk_raiseKept (p : Part) : RaiseKept p (reportAsk p) := by
  unfold reportAsk
  split
  · split
    · rename_i h
      constructor
      · unfold grantSeize; dsimp only; split <;> rfl
      · intro hl; simp [reportReady, lineFree, hl] at h
    · exact .refl _
  · exact .refl _

theorem joinRecord_raiseKept (k : ReportKind) (d s : Nat) (p : Part) : RaiseKept p (joinRecord k d s p) := by
  unfold joinRecord
  refine RaiseKept.trans ?_ (reportAsk_raiseKept _)
  dsimp only
  split
  · unfold cancelBackoff; split <;> (constructor <;> simp)
  · constructor <;> simp

theorem newRecord_raiseKept (k : ReportKind) (d : Nat) (p : Part) : RaiseKept p (newRecord k d p) := by
  unfold newRecord
  split
  · exact joinRecord_raiseKept _ _ _ _
  · split
    · split
      · refine RaiseKept.trans ?_ (joinRecord_raiseKept _ _ _ _)
        constructor <;> simp [countDropped]
      · constructor <;> simp [countDropped]
    · constructor <;> simp [countDropped]

theorem enqueueRaise_raiseKept (k : Condition) (d : Nat) (b : Bool) (p : Part) :
    RaiseKept p (enqueueRaise k d b p) := by
  unfold enqueueRaise
  split
  · constructor <;> simp [changeRecord]
  · split
    · exact newRecord_raiseKept _ _ _
    · exact .refl _

theorem deriveRestriction_raiseKept (p : Part) : RaiseKept p (deriveRestriction p) := by
  unfold deriveRestriction
  split
  · exact .refl _
  · refine RaiseKept.trans ?_ (setCause_raiseKept (c := .service) (by decide) _)
    constructor <;> simp

/-- A raise sets no LOW_CREDIT and leaves a line that is in use alone. -/
theorem raise_kept (k : Condition) (d : Nat) (p : Part) : RaiseKept p (raise k d p) := by
  have h : RaiseKept p (setRow k (raisedRow p.rtu.clock d (rowOf k p)) p) := by constructor <;> simp [setRow]
  have h := h.trans (deriveRestriction_raiseKept _)
  have h := h.trans (markS_raiseKept 7 _)
  have h := h.trans (setCause_raiseKept (c := .condition) (by decide) _)
  unfold raise
  dsimp only
  split
  · exact h
  · exact h.trans (enqueueRaise_raiseKept _ _ _ _)

end Sys2Proof.Machine
end

