-- ==== Sys2Proof/Laws/Gate.lean ====
section
/-!
SUPPORT. The gate's position (R20), its work when there is none and its turns (R31), and an expiry that is due: the
facts that most claims about an event begin with.
-/

namespace Sys2Proof.Machine

/-! ## The gate's position (R20) -/

@[simp] theorem positionIn_hold : positionIn .hold = .hold := rfl
@[simp] theorem positionIn_vaulting : positionIn .vaulting = .toVault := rfl
@[simp] theorem positionIn_refunding : positionIn .refunding = .toReturn := rfl
@[simp] theorem positionIn_fault : positionIn .fault = .hold := rfl

/-- The gate stands at TO_VAULT exactly in a collect cycle. -/
theorem gatePosition_toVault_iff {p : Part} : gatePosition p = .toVault ↔ p.rlu.gate = .vaulting := by
  unfold gatePosition
  cases p.rlu.gate <;> simp

/-- The gate stands at TO_RETURN exactly in a refund cycle. -/
theorem gatePosition_toReturn_iff {p : Part} : gatePosition p = .toReturn ↔ p.rlu.gate = .refunding := by
  unfold gatePosition
  cases p.rlu.gate <;> simp

/-! ## The gate at rest -/

/-- With no charge, no refund and no pending refund a turn of the gate's work changes nothing. -/
theorem gateTurn_rest {p : Part} (h : gateRests p) : gateTurn p = (p, false) := by
  obtain ⟨hc, hr, hp⟩ := h
  unfold gateTurn
  split
  · rfl
  · cases hg : p.rlu.gate <;> simp [hc, hr, hp]

/-- At a moment at which serving the gate changes nothing, neither does one turn. -/
theorem gateTurn_still {p : Part} (h : gateStill p) : gateTurn p = (p, false) := by
  obtain h | h | h | ⟨hg, hc⟩ := h
  · exact gateTurn_rest h
  all_goals unfold gateTurn; split <;> simp [*]

theorem gateTurns_succ (n : Nat) (p : Part) :
    gateTurns (n + 1) p = if (gateTurn p).2 then gateTurns n (gateTurn p).1 else (gateTurn p).1 := rfl

/-- A turn after which more work may follow at once. -/
theorem gateTurns_more {n : Nat} {p q : Part} (h : gateTurn p = (q, true)) : gateTurns (n + 1) p = gateTurns n q := by
  rw [gateTurns_succ, h]; rfl

/-- A turn after which none follows. -/
theorem gateTurns_last {n : Nat} {p q : Part} (h : gateTurn p = (q, false)) : gateTurns (n + 1) p = q := by
  rw [gateTurns_succ, h]; rfl

/-- The gate's work is at least one turn. -/
theorem gateWork_turns (p : Part) : gateWork p = gateTurns (2 * p.rlu.banked + 17 + 3) p := rfl

/-- With no work, with a cycle in progress, and in FAULT with no charge, serving the gate changes nothing. -/
theorem gateWork_still {p : Part} (h : gateStill p) : gateWork p = p :=
  (gateWork_turns p).trans (gateTurns_last (gateTurn_still h))

/-- With no charge, no refund and no pending refund, serving the gate changes nothing. -/
theorem gateWork_rest {p : Part} (h : gateRests p) : gateWork p = p := gateWork_still (.inl h)

/-- A charge in flight waits for the cycle in progress. -/
theorem still_of_chargeInFlight {p : Part} (h : chargeInFlight p) : gateStill p := by
  obtain ⟨_, h | h⟩ := h
  · exact .inr (.inl h)
  · exact .inr (.inr (.inl h))

/-- A timer that has reached its limit does not move the tick. -/
theorem onExpiry_due {t : Option Timer} {f : Part → Part} {p : Part} (h : due t p) : onExpiry t f p = f p := by
  obtain ⟨u, rfl, hu⟩ := h
  simp [onExpiry, advanceTo, hu]

/-- A timer that does not run has no expiry. -/
theorem onExpiry_none (f : Part → Part) (p : Part) : onExpiry none f p = p := rfl

end Sys2Proof.Machine
end

