-- ==== Sys2Proof/Laws/Rail.lean ====
section
/-!
SUPPORT. What a change to the rail, to banked credit or to the gate does and leaves alone (R19, R42): one lemma per unit
or field for the bookings and for the publication that follows them, so that no later proof unfolds one; the end of a
cycle (R21) and the end of the start-up dump (R37).
-/

namespace Sys2Proof.Machine

/-! ## Marking a record (R42) -/

@[simp] theorem markRecord_tick (n : Nat) (p : Part) :
    (markRecord n p).tick = p.tick := by unfold markRecord; split <;> rfl
@[simp] theorem markRecord_mem (n : Nat) (p : Part) :
    (markRecord n p).mem = p.mem := by unfold markRecord; split <;> rfl
@[simp] theorem markRecord_pins (n : Nat) (p : Part) :
    (markRecord n p).pins = p.pins := by unfold markRecord; split <;> rfl
@[simp] theorem markRecord_cu (n : Nat) (p : Part) : (markRecord n p).cu = p.cu := by unfold markRecord; split <;> rfl
@[simp] theorem markRecord_rtu (n : Nat) (p : Part) :
    (markRecord n p).rtu = p.rtu := by unfold markRecord; split <;> rfl
@[simp] theorem markRecord_lu (n : Nat) (p : Part) : (markRecord n p).lu = p.lu := by unfold markRecord; split <;> rfl
@[simp] theorem markRecord_cru (n : Nat) (p : Part) :
    (markRecord n p).cru = p.cru := by unfold markRecord; split <;> rfl
@[simp] theorem markRecord_rlu (n : Nat) (p : Part) :
    (markRecord n p).rlu = p.rlu := by unfold markRecord; split <;> rfl
@[simp] theorem markRecord_cc (n : Nat) (p : Part) : (markRecord n p).cc = p.cc := by unfold markRecord; split <;> rfl
@[simp] theorem markRecord_bpu_port (n : Nat) (p : Part) :
    (markRecord n p).bpu.port = p.bpu.port := by unfold markRecord; split <;> rfl
@[simp] theorem markRecord_bpu_inFlight (n : Nat) (p : Part) :
    (markRecord n p).bpu.inFlight = p.bpu.inFlight := by unfold markRecord; split <;> rfl
@[simp] theorem markRecord_bpu_result (n : Nat) (p : Part) :
    (markRecord n p).bpu.result = p.bpu.result := by unfold markRecord; split <;> rfl
@[simp] theorem markRecord_bpu_causes (n : Nat) (p : Part) :
    (markRecord n p).bpu.causes = p.bpu.causes := by unfold markRecord; split <;> rfl
@[simp] theorem markRecord_bpu_load (n : Nat) (p : Part) :
    (markRecord n p).bpu.load = p.bpu.load := by unfold markRecord; split <;> rfl
@[simp] theorem markRecord_cau_header (n : Nat) (p : Part) :
    (markRecord n p).cau.header = p.cau.header := by unfold markRecord; split <;> rfl
@[simp] theorem markRecord_cau_money (n : Nat) (p : Part) :
    (markRecord n p).cau.money = p.cau.money := by unfold markRecord; split <;> rfl
@[simp] theorem markRecord_cau_types (n : Nat) (p : Part) :
    (markRecord n p).cau.types = p.cau.types := by unfold markRecord; split <;> rfl
@[simp] theorem markRecord_cau_calls (n : Nat) (p : Part) :
    (markRecord n p).cau.calls = p.cau.calls := by unfold markRecord; split <;> rfl
@[simp] theorem markRecord_cau_last (n : Nat) (p : Part) :
    (markRecord n p).cau.last = p.cau.last := by unfold markRecord; split <;> rfl
@[simp] theorem markRecord_cau_faulted (n : Nat) (p : Part) :
    (markRecord n p).cau.faulted = p.cau.faulted := by unfold markRecord; split <;> rfl
@[simp] theorem markRecord_cau_strikes (n : Nat) (p : Part) :
    (markRecord n p).cau.strikes = p.cau.strikes := by unfold markRecord; split <;> rfl
@[simp] theorem markRecord_cau_mismatches (n : Nat) (p : Part) :
    (markRecord n p).cau.mismatches = p.cau.mismatches := by unfold markRecord; split <;> rfl
@[simp] theorem markRecord_cau_position (n : Nat) (p : Part) :
    (markRecord n p).cau.position = p.cau.position := by unfold markRecord; split <;> rfl
@[simp] theorem markRecord_cau_pass (n : Nat) (p : Part) :
    (markRecord n p).cau.pass = p.cau.pass := by unfold markRecord; split <;> rfl
@[simp] theorem markRecord_cau_scrub (n : Nat) (p : Part) :
    (markRecord n p).cau.scrub = p.cau.scrub := by unfold markRecord; split <;> rfl
@[simp] theorem markRecord_cau_load (n : Nat) (p : Part) :
    (markRecord n p).cau.load = p.cau.load := by unfold markRecord; split <;> rfl
@[simp] theorem markRecord_cau_early (n : Nat) (p : Part) :
    (markRecord n p).cau.early = p.cau.early := by unfold markRecord; split <;> rfl
@[simp] theorem markRecord_cau_capacity (n : Nat) (p : Part) :
    (markRecord n p).cau.capacity = p.cau.capacity := by unfold markRecord; split <;> rfl
@[simp] theorem markRecord_cau_vc (n : Nat) (p : Part) :
    (markRecord n p).cau.vc = p.cau.vc := by unfold markRecord; split <;> rfl
@[simp] theorem markRecord_cau_relocations (n : Nat) (p : Part) :
    (markRecord n p).cau.relocations = p.cau.relocations := by unfold markRecord; split <;> rfl
@[simp] theorem markRecord_cau_clearance (n : Nat) (p : Part) :
    (markRecord n p).cau.clearance = p.cau.clearance := by unfold markRecord; split <;> rfl
@[simp] theorem markRecord_cau_clearing (n : Nat) (p : Part) :
    (markRecord n p).cau.clearing = p.cau.clearing := by unfold markRecord; split <;> rfl

/-! ## Booking money and counts (R42) -/

@[simp] theorem bookMoney_tick (f : Money → Money) (p : Part) : (bookMoney f p).tick = p.tick := by simp [bookMoney]
@[simp] theorem bookMoney_mem (f : Money → Money) (p : Part) : (bookMoney f p).mem = p.mem := by simp [bookMoney]
@[simp] theorem bookMoney_pins (f : Money → Money) (p : Part) : (bookMoney f p).pins = p.pins := by simp [bookMoney]
@[simp] theorem bookMoney_cu (f : Money → Money) (p : Part) : (bookMoney f p).cu = p.cu := by simp [bookMoney]
@[simp] theorem bookMoney_rtu (f : Money → Money) (p : Part) : (bookMoney f p).rtu = p.rtu := by simp [bookMoney]
@[simp] theorem bookMoney_lu (f : Money → Money) (p : Part) : (bookMoney f p).lu = p.lu := by simp [bookMoney]
@[simp] theorem bookMoney_cru (f : Money → Money) (p : Part) : (bookMoney f p).cru = p.cru := by simp [bookMoney]
@[simp] theorem bookMoney_rlu (f : Money → Money) (p : Part) : (bookMoney f p).rlu = p.rlu := by simp [bookMoney]
@[simp] theorem bookMoney_cc (f : Money → Money) (p : Part) : (bookMoney f p).cc = p.cc := by simp [bookMoney]
@[simp] theorem bookMoney_bpu_port (f : Money → Money) (p : Part) :
    (bookMoney f p).bpu.port = p.bpu.port := by simp [bookMoney]
@[simp] theorem bookMoney_bpu_inFlight (f : Money → Money) (p : Part) :
    (bookMoney f p).bpu.inFlight = p.bpu.inFlight := by simp [bookMoney]
@[simp] theorem bookMoney_bpu_result (f : Money → Money) (p : Part) :
    (bookMoney f p).bpu.result = p.bpu.result := by simp [bookMoney]
@[simp] theorem bookMoney_bpu_causes (f : Money → Money) (p : Part) :
    (bookMoney f p).bpu.causes = p.bpu.causes := by simp [bookMoney]
@[simp] theorem bookMoney_bpu_load (f : Money → Money) (p : Part) :
    (bookMoney f p).bpu.load = p.bpu.load := by simp [bookMoney]
@[simp] theorem bookMoney_cau_header (f : Money → Money) (p : Part) :
    (bookMoney f p).cau.header = p.cau.header := by simp [bookMoney]
@[simp] theorem bookMoney_cau_types (f : Money → Money) (p : Part) :
    (bookMoney f p).cau.types = p.cau.types := by simp [bookMoney]
@[simp] theorem bookMoney_cau_calls (f : Money → Money) (p : Part) :
    (bookMoney f p).cau.calls = p.cau.calls := by simp [bookMoney]
@[simp] theorem bookMoney_cau_last (f : Money → Money) (p : Part) :
    (bookMoney f p).cau.last = p.cau.last := by simp [bookMoney]
@[simp] theorem bookMoney_cau_faulted (f : Money → Money) (p : Part) :
    (bookMoney f p).cau.faulted = p.cau.faulted := by simp [bookMoney]
@[simp] theorem bookMoney_cau_strikes (f : Money → Money) (p : Part) :
    (bookMoney f p).cau.strikes = p.cau.strikes := by simp [bookMoney]
@[simp] theorem bookMoney_cau_mismatches (f : Money → Money) (p : Part) :
    (bookMoney f p).cau.mismatches = p.cau.mismatches := by simp [bookMoney]
@[simp] theorem bookMoney_cau_position (f : Money → Money) (p : Part) :
    (bookMoney f p).cau.position = p.cau.position := by simp [bookMoney]
@[simp] theorem bookMoney_cau_pass (f : Money → Money) (p : Part) :
    (bookMoney f p).cau.pass = p.cau.pass := by simp [bookMoney]
@[simp] theorem bookMoney_cau_scrub (f : Money → Money) (p : Part) :
    (bookMoney f p).cau.scrub = p.cau.scrub := by simp [bookMoney]
@[simp] theorem bookMoney_cau_load (f : Money → Money) (p : Part) :
    (bookMoney f p).cau.load = p.cau.load := by simp [bookMoney]
@[simp] theorem bookMoney_cau_early (f : Money → Money) (p : Part) :
    (bookMoney f p).cau.early = p.cau.early := by simp [bookMoney]
@[simp] theorem bookMoney_cau_capacity (f : Money → Money) (p : Part) :
    (bookMoney f p).cau.capacity = p.cau.capacity := by simp [bookMoney]
@[simp] theorem bookMoney_cau_vc (f : Money → Money) (p : Part) :
    (bookMoney f p).cau.vc = p.cau.vc := by simp [bookMoney]
@[simp] theorem bookMoney_cau_relocations (f : Money → Money) (p : Part) :
    (bookMoney f p).cau.relocations = p.cau.relocations := by simp [bookMoney]
@[simp] theorem bookMoney_cau_clearance (f : Money → Money) (p : Part) :
    (bookMoney f p).cau.clearance = p.cau.clearance := by simp [bookMoney]
@[simp] theorem bookMoney_cau_clearing (f : Money → Money) (p : Part) :
    (bookMoney f p).cau.clearing = p.cau.clearing := by simp [bookMoney]
@[simp] theorem bookMoney_cau_money (f : Money → Money) (p : Part) :
    (bookMoney f p).cau.money = f p.cau.money := by simp [bookMoney]

@[simp] theorem bookTypes_tick (f : TypeCounts → TypeCounts) (p : Part) :
    (bookTypes f p).tick = p.tick := by simp [bookTypes]
@[simp] theorem bookTypes_mem (f : TypeCounts → TypeCounts) (p : Part) :
    (bookTypes f p).mem = p.mem := by simp [bookTypes]
@[simp] theorem bookTypes_pins (f : TypeCounts → TypeCounts) (p : Part) :
    (bookTypes f p).pins = p.pins := by simp [bookTypes]
@[simp] theorem bookTypes_cu (f : TypeCounts → TypeCounts) (p : Part) : (bookTypes f p).cu = p.cu := by simp [bookTypes]
@[simp] theorem bookTypes_rtu (f : TypeCounts → TypeCounts) (p : Part) :
    (bookTypes f p).rtu = p.rtu := by simp [bookTypes]
@[simp] theorem bookTypes_lu (f : TypeCounts → TypeCounts) (p : Part) : (bookTypes f p).lu = p.lu := by simp [bookTypes]
@[simp] theorem bookTypes_cru (f : TypeCounts → TypeCounts) (p : Part) :
    (bookTypes f p).cru = p.cru := by simp [bookTypes]
@[simp] theorem bookTypes_rlu (f : TypeCounts → TypeCounts) (p : Part) :
    (bookTypes f p).rlu = p.rlu := by simp [bookTypes]
@[simp] theorem bookTypes_cc (f : TypeCounts → TypeCounts) (p : Part) : (bookTypes f p).cc = p.cc := by simp [bookTypes]
@[simp] theorem bookTypes_bpu_port (f : TypeCounts → TypeCounts) (p : Part) :
    (bookTypes f p).bpu.port = p.bpu.port := by simp [bookTypes]
@[simp] theorem bookTypes_bpu_inFlight (f : TypeCounts → TypeCounts) (p : Part) :
    (bookTypes f p).bpu.inFlight = p.bpu.inFlight := by simp [bookTypes]
@[simp] theorem bookTypes_bpu_result (f : TypeCounts → TypeCounts) (p : Part) :
    (bookTypes f p).bpu.result = p.bpu.result := by simp [bookTypes]
@[simp] theorem bookTypes_bpu_causes (f : TypeCounts → TypeCounts) (p : Part) :
    (bookTypes f p).bpu.causes = p.bpu.causes := by simp [bookTypes]
@[simp] theorem bookTypes_bpu_load (f : TypeCounts → TypeCounts) (p : Part) :
    (bookTypes f p).bpu.load = p.bpu.load := by simp [bookTypes]
@[simp] theorem bookTypes_cau_header (f : TypeCounts → TypeCounts) (p : Part) :
    (bookTypes f p).cau.header = p.cau.header := by simp [bookTypes]
@[simp] theorem bookTypes_cau_money (f : TypeCounts → TypeCounts) (p : Part) :
    (bookTypes f p).cau.money = p.cau.money := by simp [bookTypes]
@[simp] theorem bookTypes_cau_calls (f : TypeCounts → TypeCounts) (p : Part) :
    (bookTypes f p).cau.calls = p.cau.calls := by simp [bookTypes]
@[simp] theorem bookTypes_cau_last (f : TypeCounts → TypeCounts) (p : Part) :
    (bookTypes f p).cau.last = p.cau.last := by simp [bookTypes]
@[simp] theorem bookTypes_cau_faulted (f : TypeCounts → TypeCounts) (p : Part) :
    (bookTypes f p).cau.faulted = p.cau.faulted := by simp [bookTypes]
@[simp] theorem bookTypes_cau_strikes (f : TypeCounts → TypeCounts) (p : Part) :
    (bookTypes f p).cau.strikes = p.cau.strikes := by simp [bookTypes]
@[simp] theorem bookTypes_cau_mismatches (f : TypeCounts → TypeCounts) (p : Part) :
    (bookTypes f p).cau.mismatches = p.cau.mismatches := by simp [bookTypes]
@[simp] theorem bookTypes_cau_position (f : TypeCounts → TypeCounts) (p : Part) :
    (bookTypes f p).cau.position = p.cau.position := by simp [bookTypes]
@[simp] theorem bookTypes_cau_pass (f : TypeCounts → TypeCounts) (p : Part) :
    (bookTypes f p).cau.pass = p.cau.pass := by simp [bookTypes]
@[simp] theorem bookTypes_cau_scrub (f : TypeCounts → TypeCounts) (p : Part) :
    (bookTypes f p).cau.scrub = p.cau.scrub := by simp [bookTypes]
@[simp] theorem bookTypes_cau_load (f : TypeCounts → TypeCounts) (p : Part) :
    (bookTypes f p).cau.load = p.cau.load := by simp [bookTypes]
@[simp] theorem bookTypes_cau_early (f : TypeCounts → TypeCounts) (p : Part) :
    (bookTypes f p).cau.early = p.cau.early := by simp [bookTypes]
@[simp] theorem bookTypes_cau_capacity (f : TypeCounts → TypeCounts) (p : Part) :
    (bookTypes f p).cau.capacity = p.cau.capacity := by simp [bookTypes]
@[simp] theorem bookTypes_cau_vc (f : TypeCounts → TypeCounts) (p : Part) :
    (bookTypes f p).cau.vc = p.cau.vc := by simp [bookTypes]
@[simp] theorem bookTypes_cau_relocations (f : TypeCounts → TypeCounts) (p : Part) :
    (bookTypes f p).cau.relocations = p.cau.relocations := by simp [bookTypes]
@[simp] theorem bookTypes_cau_clearance (f : TypeCounts → TypeCounts) (p : Part) :
    (bookTypes f p).cau.clearance = p.cau.clearance := by simp [bookTypes]
@[simp] theorem bookTypes_cau_clearing (f : TypeCounts → TypeCounts) (p : Part) :
    (bookTypes f p).cau.clearing = p.cau.clearing := by simp [bookTypes]
@[simp] theorem bookTypes_cau_types (f : TypeCounts → TypeCounts) (p : Part) :
    (bookTypes f p).cau.types = f p.cau.types := by simp [bookTypes]

/-! ## Examining low credit (R106): only the flag, its cause and the marks change -/

@[simp] theorem examineCredit_tick (p : Part) :
    (examineCredit p).tick = p.tick := by unfold examineCredit; repeat' (first | rfl | split)
@[simp] theorem examineCredit_mem (p : Part) :
    (examineCredit p).mem = p.mem := by unfold examineCredit; repeat' (first | rfl | split)
@[simp] theorem examineCredit_pins (p : Part) :
    (examineCredit p).pins = p.pins := by unfold examineCredit; repeat' (first | rfl | split)
@[simp] theorem examineCredit_cu (p : Part) :
    (examineCredit p).cu = p.cu := by unfold examineCredit; repeat' (first | rfl | split)
@[simp] theorem examineCredit_rtu (p : Part) :
    (examineCredit p).rtu = p.rtu := by unfold examineCredit; repeat' (first | rfl | split)
@[simp] theorem examineCredit_lu (p : Part) :
    (examineCredit p).lu = p.lu := by unfold examineCredit; repeat' (first | rfl | split)
@[simp] theorem examineCredit_cru (p : Part) :
    (examineCredit p).cru = p.cru := by unfold examineCredit; repeat' (first | rfl | split)
@[simp] theorem examineCredit_rlu (p : Part) :
    (examineCredit p).rlu = p.rlu := by unfold examineCredit; repeat' (first | rfl | split)
@[simp] theorem examineCredit_bpu_port (p : Part) :
    (examineCredit p).bpu.port = p.bpu.port := by unfold examineCredit; repeat' (first | rfl | split)
@[simp] theorem examineCredit_bpu_inFlight (p : Part) :
    (examineCredit p).bpu.inFlight = p.bpu.inFlight := by unfold examineCredit; repeat' (first | rfl | split)
@[simp] theorem examineCredit_bpu_result (p : Part) :
    (examineCredit p).bpu.result = p.bpu.result := by unfold examineCredit; repeat' (first | rfl | split)
@[simp] theorem examineCredit_bpu_load (p : Part) :
    (examineCredit p).bpu.load = p.bpu.load := by unfold examineCredit; repeat' (first | rfl | split)
@[simp] theorem examineCredit_cau (p : Part) :
    (examineCredit p).cau = p.cau := by unfold examineCredit; repeat' (first | rfl | split)

@[simp] theorem creditFollows_tick (n : Nat) (p : Part) :
    (creditFollows n p).tick = p.tick := by unfold creditFollows reexamineCredit; dsimp only; split <;> split <;> simp
@[simp] theorem creditFollows_mem (n : Nat) (p : Part) :
    (creditFollows n p).mem = p.mem := by unfold creditFollows reexamineCredit; dsimp only; split <;> split <;> simp
@[simp] theorem creditFollows_pins (n : Nat) (p : Part) :
    (creditFollows n p).pins = p.pins := by unfold creditFollows reexamineCredit; dsimp only; split <;> split <;> simp
@[simp] theorem creditFollows_cu (n : Nat) (p : Part) :
    (creditFollows n p).cu = p.cu := by unfold creditFollows reexamineCredit; dsimp only; split <;> split <;> simp
@[simp] theorem creditFollows_rtu (n : Nat) (p : Part) :
    (creditFollows n p).rtu = p.rtu := by unfold creditFollows reexamineCredit; dsimp only; split <;> split <;> simp
@[simp] theorem creditFollows_lu (n : Nat) (p : Part) :
    (creditFollows n p).lu = p.lu := by unfold creditFollows reexamineCredit; dsimp only; split <;> split <;> simp
@[simp] theorem creditFollows_cru (n : Nat) (p : Part) :
    (creditFollows n p).cru = p.cru := by unfold creditFollows reexamineCredit; dsimp only; split <;> split <;> simp
@[simp] theorem creditFollows_rlu (n : Nat) (p : Part) :
    (creditFollows n p).rlu = p.rlu := by unfold creditFollows reexamineCredit; dsimp only; split <;> split <;> simp
@[simp] theorem creditFollows_bpu_port (n : Nat) (p : Part) :
    (creditFollows n p).bpu.port = p.bpu.port := by
    unfold creditFollows reexamineCredit; dsimp only; split <;> split <;> simp
@[simp] theorem creditFollows_bpu_inFlight (n : Nat) (p : Part) :
    (creditFollows n p).bpu.inFlight = p.bpu.inFlight := by
    unfold creditFollows reexamineCredit; dsimp only; split <;> split <;> simp
@[simp] theorem creditFollows_bpu_result (n : Nat) (p : Part) :
    (creditFollows n p).bpu.result = p.bpu.result := by
    unfold creditFollows reexamineCredit; dsimp only; split <;> split <;> simp
@[simp] theorem creditFollows_bpu_load (n : Nat) (p : Part) :
    (creditFollows n p).bpu.load = p.bpu.load := by
    unfold creditFollows reexamineCredit; dsimp only; split <;> split <;> simp
@[simp] theorem creditFollows_cau (n : Nat) (p : Part) :
    (creditFollows n p).cau = p.cau := by unfold creditFollows reexamineCredit; dsimp only; split <;> split <;> simp

/-! ## A change to the rail, to banked credit or to the gate (R19) -/

@[simp] theorem railChange_tick (f : Part → Part) (p : Part) :
    (railChange f p).tick = (f p).tick := by simp [railChange]
@[simp] theorem railChange_mem (f : Part → Part) (p : Part) : (railChange f p).mem = (f p).mem := by simp [railChange]
@[simp] theorem railChange_pins (f : Part → Part) (p : Part) :
    (railChange f p).pins = (f p).pins := by simp [railChange]
@[simp] theorem railChange_cu (f : Part → Part) (p : Part) : (railChange f p).cu = (f p).cu := by simp [railChange]
@[simp] theorem railChange_rtu (f : Part → Part) (p : Part) : (railChange f p).rtu = (f p).rtu := by simp [railChange]
@[simp] theorem railChange_lu (f : Part → Part) (p : Part) : (railChange f p).lu = (f p).lu := by simp [railChange]
@[simp] theorem railChange_cru (f : Part → Part) (p : Part) : (railChange f p).cru = (f p).cru := by simp [railChange]
@[simp] theorem railChange_rlu (f : Part → Part) (p : Part) : (railChange f p).rlu = (f p).rlu := by simp [railChange]
@[simp] theorem railChange_cau (f : Part → Part) (p : Part) : (railChange f p).cau = (f p).cau := by simp [railChange]
@[simp] theorem railChange_bpu_port (f : Part → Part) (p : Part) :
    (railChange f p).bpu.port = (f p).bpu.port := by simp [railChange]
@[simp] theorem railChange_bpu_inFlight (f : Part → Part) (p : Part) :
    (railChange f p).bpu.inFlight = (f p).bpu.inFlight := by simp [railChange]
@[simp] theorem railChange_bpu_result (f : Part → Part) (p : Part) :
    (railChange f p).bpu.result = (f p).bpu.result := by simp [railChange]
@[simp] theorem railChange_bpu_load (f : Part → Part) (p : Part) :
    (railChange f p).bpu.load = (f p).bpu.load := by simp [railChange]

/-! ## Another change to the credit on hand -/

@[simp] theorem owedChange_rlu (f : Part → Part) (p : Part) : (owedChange f p).rlu = (f p).rlu := by
  unfold owedChange; dsimp only; split <;> simp
@[simp] theorem owedChange_cau (f : Part → Part) (p : Part) : (owedChange f p).cau = (f p).cau := by
  unfold owedChange; dsimp only; split <;> simp

/-! ## The hook position is none of the RLU's business -/

@[simp] theorem examineCredit_off (p : Part) : (examineCredit p).cc.off = p.cc.off := by
  unfold examineCredit; repeat' (first | rfl | split)
@[simp] theorem railChange_off (f : Part → Part) (p : Part) : (railChange f p).cc.off = (f p).cc.off := by
  unfold railChange creditFollows reexamineCredit; dsimp only; split <;> split <;> simp

/-! ## The end of a cycle and of the dump -/

/-- The end of a cycle with no CLEAR_CONDITION waiting for it moves the gate and stops the confirm limit. -/
theorem endCycle_plain {g : GateState} {p : Part} (h : p.rlu.clearWaits = false) :
    endCycle g p = { p with rlu.gate := g, rlu.cycle := none } := by
  unfold endCycle; dsimp only; rw [h]; simp

/-- The end of the dump with no gate work moves its state alone. -/
theorem endDump_still {p : Part} (h : gateStill p) :
    (endDump p).rlu = { p.rlu with dump := .ended } ∧ (endDump p).cau = p.cau ∧ (endDump p).cru = p.cru
      ∧ (endDump p).mem = p.mem := by
  unfold endDump
  rw [gateWork_still]
  · simp
  · simpa [gateStill, gateRests] using h

end Sys2Proof.Machine
end

