-- ==== Sys2Proof/Laws/Ending.lean ====
section
/-!
SUPPORT. The ending of a call (R105, R141, R142): what an ending event does while the charge is in flight, and what the
completion does, its settlement, its record and its counts said once.
-/

namespace Sys2Proof.Machine

/-! ## What the settlement leaves alone -/

/-- Everything but the money, the rail and what is published of them is as before, and LOW_CREDIT is not set. -/
structure CallKept (p q : Part) : Prop where
  cc : q.cc = p.cc
  rtu : q.rtu = p.rtu
  lu : q.lu = p.lu
  cru : q.cru = p.cru
  mem : q.mem = p.mem
  tick : q.tick = p.tick
  low : q.bpu.causes.getLsbD 2 = p.bpu.causes.getLsbD 2
  result : q.bpu.result = p.bpu.result
  inFlight : q.bpu.inFlight = p.bpu.inFlight

theorem CallKept.refl (p : Part) : CallKept p p := ⟨rfl, rfl, rfl, rfl, rfl, rfl, rfl, rfl, rfl⟩

theorem CallKept.trans {p q r : Part} (h : CallKept p q) (k : CallKept q r) : CallKept p r :=
  ⟨k.cc.trans h.cc, k.rtu.trans h.rtu, k.lu.trans h.lu, k.cru.trans h.cru, k.mem.trans h.mem, k.tick.trans h.tick,
    k.low.trans h.low, k.result.trans h.result, k.inFlight.trans h.inFlight⟩

theorem markS_callKept (n : Nat) (p : Part) : CallKept p (markS n p) := by constructor <;> rfl

/-- With the step timing IDLE the credit on hand is not examined. -/
theorem examineCredit_idle {p : Part} (h : p.rtu.timing.state = .idle) : examineCredit p = p := by
  unfold examineCredit isCharging; simp [h]

theorem creditFollows_callKept (n : Nat) {p : Part} (h : p.rtu.timing.state = .idle) :
    CallKept p (creditFollows n p) := by
  unfold creditFollows reexamineCredit
  dsimp only
  split
  · rw [examineCredit_idle h, ite_self]
    exact .refl _
  · rw [examineCredit_idle (by simpa using h), ite_self]
    exact markS_callKept _ _

theorem setCause_callKept {c : Cause} (h : c ≠ .lowCredit) (p : Part) : CallKept p (setCause c p) :=
  ⟨rfl, rfl, rfl, rfl, rfl, rfl, setCause_lowCredit h p, rfl, rfl⟩

/-- A change to the rail with the step timing IDLE. -/
theorem railChange_callKept {f : Part → Part} {p : Part} (hf : CallKept p (f p)) (h : p.rtu.timing.state = .idle) :
    CallKept p (railChange f p) := by
  have k : CallKept p (setCause .credit (markS 1 (f p))) :=
    (hf.trans (markS_callKept _ _)).trans (setCause_callKept (by decide) _)
  exact k.trans (creditFollows_callKept _ (by rw [k.rtu]; exact h))

theorem owedChange_callKept {f : Part → Part} {p : Part} (hf : CallKept p (f p)) (h : p.rtu.timing.state = .idle) :
    CallKept p (owedChange f p) := by
  unfold owedChange
  dsimp only
  split
  · exact hf
  · have k := hf.trans (markS_callKept 1 _)
    exact k.trans (creditFollows_callKept _ (by rw [k.rtu]; exact h))

/-- A cycle that begins with the step timing IDLE. -/
theorem beginCycle_callKept (g : GateState) {p : Part} (h : p.rtu.timing.state = .idle) :
    CallKept p (beginCycle g p) :=
  railChange_callKept (by constructor <;> rfl) h

/-- A settlement with the step timing IDLE (R32): banked credit is forfeited and the refund is pending. -/
theorem settle_idle {p : Part} (h : p.rtu.timing.state = .idle) :
    CallKept p (settle p)
      ∧ (settle p).rlu = { p.rlu with banked := 0, pendingRefund := true, settlementDue := false }
      ∧ (settle p).cau.calls = p.cau.calls ∧ (settle p).cau.load = p.cau.load
      ∧ (settle p).cau.money = { p.cau.money with
          forfeited := p.cau.money.forfeited + BitVec.ofNat 32 p.rlu.banked
          banked := p.cau.money.banked - p.rlu.banked } := by
  have hb : CallKept p (if p.rlu.banked = 0 then p else railChange bookForfeit p) := by
    split
    · exact CallKept.refl _
    · apply railChange_callKept _ h
      constructor <;> simp [bookForfeit]
  unfold settle
  dsimp only
  set q := (if p.rlu.banked = 0 then p else railChange bookForfeit p) with hq
  have q1 : q.rlu = { p.rlu with banked := 0 } := by
    rw [hq]; split
    · rename_i h0; rw [← h0]
    · simp [bookForfeit]
  have q2 : q.cau.calls = p.cau.calls ∧ q.cau.load = p.cau.load := by
    rw [hq]; split
    · exact ⟨rfl, rfl⟩
    · simp [bookForfeit]
  have q3 : q.cau.money = { p.cau.money with
      forfeited := p.cau.money.forfeited + BitVec.ofNat 32 p.rlu.banked
      banked := p.cau.money.banked - p.rlu.banked } := by
    rw [hq]; split
    · rename_i h0; simp [h0]
    · simp [bookForfeit, addTo]
  refine ⟨hb.trans (owedChange_callKept ?_ (by rw [hb.rtu]; exact h)), ?_, ?_, ?_, ?_⟩
  · constructor <;> rfl
  · simp [q1]
  · simp [q2]
  · simp [q2]
  · simp [q3]

/-- A count event after the account start load. -/
theorem countEvent_ended {e : CountEvent} {p : Part} (h : p.cau.load = .ended) :
    countEvent e p = markRecord 3 { p with cau.calls := addCounts e p.cau.calls } := by
  unfold countEvent isLoaded; rw [h]; rfl

/-! ## What the record and the end of the call leave alone -/

/-- Everything but the call, the record ring, the call counts and what is published is as before, and LOW_CREDIT is not
set. -/
structure MoneyKept (p q : Part) : Prop where
  rtu : q.rtu = p.rtu
  lu : q.lu = p.lu
  rlu : q.rlu = p.rlu
  cru : q.cru = p.cru
  mem : q.mem = p.mem
  tick : q.tick = p.tick
  money : q.cau.money = p.cau.money
  low : q.bpu.causes.getLsbD 2 = p.bpu.causes.getLsbD 2
  result : q.bpu.result = p.bpu.result
  inFlight : q.bpu.inFlight = p.bpu.inFlight

theorem MoneyKept.refl (p : Part) : MoneyKept p p := ⟨rfl, rfl, rfl, rfl, rfl, rfl, rfl, rfl, rfl, rfl⟩

theorem MoneyKept.trans {p q r : Part} (h : MoneyKept p q) (k : MoneyKept q r) : MoneyKept p r :=
  ⟨k.rtu.trans h.rtu, k.lu.trans h.lu, k.rlu.trans h.rlu, k.cru.trans h.cru, k.mem.trans h.mem, k.tick.trans h.tick,
    k.money.trans h.money, k.low.trans h.low, k.result.trans h.result, k.inFlight.trans h.inFlight⟩

theorem setCause_moneyKept {c : Cause} (h : c ≠ .lowCredit) (p : Part) : MoneyKept p (setCause c p) :=
  ⟨rfl, rfl, rfl, rfl, rfl, rfl, rfl, setCause_lowCredit h p, rfl, rfl⟩

theorem setCall_moneyKept (c : CallState) (p : Part) : MoneyKept p (setCall c p) := by
  unfold setCall; split
  · exact .refl _
  · refine MoneyKept.trans (q := markS 0 { p with cc.call := c }) ?_ (setCause_moneyKept (c := .call) (by decide) _)
    constructor <;> rfl

theorem appendRecord_moneyKept (r : RingRecord) (p : Part) : MoneyKept p (appendRecord r p) := by
  unfold appendRecord; split
  · refine MoneyKept.trans ?_ (setCause_moneyKept (c := .record) (by decide) _)
    constructor <;> rfl
  · refine MoneyKept.trans ?_ (setCause_moneyKept (c := .record) (by decide) _)
    constructor <;> rfl

theorem recordCall_moneyKept {c : PlacedCall} {e : EndingMark} {n : Nat} {p : Part} (h : p.cau.load = .ended) :
    MoneyKept p (recordCall c e n p) := by
  unfold recordCall
  refine MoneyKept.trans (appendRecord_moneyKept (.call (callRecord c e n p)) p) ?_
  have : (appendRecord (.call (callRecord c e n p)) p).cau.load = .ended := by
    unfold appendRecord; split <;> simpa using h
  rw [countEvent_ended this]
  constructor <;> simp

/-- The record joins the ring, or is counted as lost, and CALL COUNTS rise (R142, R144). -/
theorem recordCall_ended {c : PlacedCall} {e : EndingMark} {n : Nat} {p : Part} (h : p.cau.load = .ended) :
    let q := recordCall c e n p
    let r := callRecord c e n p
    q.cc.off = p.cc.off ∧ q.cc.call = p.cc.call ∧ q.cc.low = p.cc.low ∧ q.cc.steps = p.cc.steps
    ∧ q.cc.charged = p.cc.charged
    ∧ (p.cc.heldCount < 64 → (p.cc.producer, RingRecord.call r) ∈ q.cc.records
        ∧ q.cc.producer = (p.cc.producer + 1) % 64 ∧ q.cc.heldCount = p.cc.heldCount + 1 ∧ q.cc.lost = p.cc.lost)
    ∧ (64 ≤ p.cc.heldCount → q.cc.records = p.cc.records ∧ q.cc.heldCount = p.cc.heldCount
        ∧ q.cc.lost = min 65535 (p.cc.lost + 1))
    ∧ q.cau.calls =
      { p.cau.calls with
        attempts := p.cau.calls.attempts + 1
        answered := if c.answer.isSome then p.cau.calls.answered + 1 else p.cau.calls.answered
        free := if c.cls = .freeClass then p.cau.calls.free + 1 else p.cau.calls.free
        cut := if r.outcome = .creditExhausted then p.cau.calls.cut + 1 else p.cau.calls.cut } := by
  dsimp only
  unfold recordCall
  set r := callRecord c e n p with hr
  have ho : r.outcome = e.outcome := rfl
  have : (appendRecord (.call r) p).cau = p.cau := by unfold appendRecord; split <;> rfl
  rw [countEvent_ended (by rw [this]; exact h)]
  simp only [markRecord_cc, markRecord_cau_calls, this]
  refine ⟨?_, ?_, ?_, ?_, ?_, ?_, ?_, ?_⟩
  iterate 5 (unfold appendRecord; split <;> rfl)
  · intro hh; unfold appendRecord; rw [if_pos hh]; simp
  · intro hh; unfold appendRecord; rw [if_neg (by omega)]; simp [satAdd]
  · simp only [addCounts, addTo, flagBit, ho]
    cases c.answer <;> cases c.cls <;> cases e.outcome <;> simp

/-- The call is left in IDLE, or in COLLECTING with an empty digit list with the handset off its hook (R142). -/
theorem leaveCall_ending {p : Part} (hcall : p.cc.call = .ending) :
    let q := leaveCall p
    MoneyKept p q ∧ q.cau = p.cau ∧ q.cc.call = (if p.cc.off then .collecting else .idle) ∧ q.cc.placed = none
    ∧ (p.cc.off = true → q.cc.digits = [] ∧ q.cc.ignored = 0) ∧ q.cc.records = p.cc.records
    ∧ q.cc.producer = p.cc.producer ∧ q.cc.heldCount = p.cc.heldCount ∧ q.cc.lost = p.cc.lost ∧ q.cc.low = p.cc.low
    ∧ q.cc.steps = p.cc.steps ∧ q.cc.charged = p.cc.charged := by
  dsimp only
  refine ⟨?_, ?_⟩
  · unfold leaveCall; dsimp only; split
    · unfold enterCollecting
      refine MoneyKept.trans ?_ (setCall_moneyKept _ _)
      unfold clearDigits; split <;> constructor <;> rfl
    · refine MoneyKept.trans (q := { p with cc.placed := none }) ?_ (setCall_moneyKept _ _)
      constructor <;> rfl
  · unfold leaveCall; dsimp only
    cases hoff : p.cc.off
    · simp [setCall, hcall]
    · simp only [if_true]
      unfold enterCollecting clearDigits; dsimp only
      split <;> simp_all [setCall]

/-- What unlocking a call's entry does to the cache (R88, R89). -/
theorem cacheUnlocked_of {c : PlacedCall} {p q r : Part} (h : (unlockFor c r).rtu.cache = q.rtu.cache)
    (hr : r.rtu = p.rtu) : cacheUnlocked c p q := by
  unfold cacheUnlocked
  rw [← h]
  constructor
  · intro hc; unfold unlockFor; rw [hc]; exact congrArg _ hr
  · intro i e hc hi
    unfold unlockFor; rw [hc]; dsimp only; rw [hr]
    have hlt : i < p.rtu.cache.length := (List.getElem?_eq_some_iff.1 hi).1
    have hg : p.rtu.cache.getD i CacheEntry.invalid = e := by simp [List.getD_eq_getElem?_getD, hi]
    unfold unlockEntry invalidateEntry; dsimp only; rw [hg]
    refine ⟨?_, ?_, ?_, ?_⟩
    · split <;> (try split) <;> simp
    · intro hs; simp [hs, hlt]
    · intro hs hv; simp [hs, hv, hlt]
    · intro j x hj hx
      have : ¬ i = j := fun h => hj h.symm
      cases e.stale <;> cases e.valid <;> simp [this, hx]

/-- The completion of an ending that waited (R142, R144): the record and the counts, the settlement where a hang-up has
been taken, the line, and a RELEASE in flight. -/
theorem completeEnding_closed {c : PlacedCall} {e : EndingMark} {p : Part} (hp : p.cc.placed = some c)
    (he : c.ending = some e) (hcall : p.cc.call = .ending) (hi : p.rtu.timing.state = .idle)
    (hl : p.cau.load = .ended) :
    let q := completeEnding p
    let settles := p.rlu.settlementDue
    callClosed { recordKept e c p with toRefund := coinsToRefund p } c p q
    ∧ q.cc.low = p.cc.low ∧ q.cc.steps = p.cc.steps ∧ q.cc.charged = p.cc.charged ∧ q.cru = p.cru
    ∧ q.bpu.causes.getLsbD 2 = p.bpu.causes.getLsbD 2
    ∧ (p.bpu.inFlight = some 2 → p.bpu.result = .pending → q.bpu.result = .done)
    ∧ (p.lu.owner = .customer → q.lu.line = .clearing ∧ q.lu.owner = .none)
    ∧ q.rlu = (if settles then { p.rlu with banked := 0, pendingRefund := true, settlementDue := false } else p.rlu)
    ∧ q.cau.money = { p.cau.money with
        forfeited := p.cau.money.forfeited + BitVec.ofNat 32 (if settles then p.rlu.banked else 0)
        banked := p.cau.money.banked - (if settles then p.rlu.banked else 0) } := by
  dsimp only
  unfold completeEnding
  rw [hp]; dsimp only; rw [he]; dsimp only [Option.getD_some]
  set q0 := releaseLine .customer p with hq0
  have a0 : q0.cc = p.cc ∧ q0.rtu = p.rtu ∧ q0.cau = p.cau ∧ q0.rlu = p.rlu ∧ q0.cru = p.cru ∧ q0.mem = p.mem
      ∧ q0.tick = p.tick ∧ q0.bpu.causes = p.bpu.causes ∧ q0.bpu.result = p.bpu.result
      ∧ q0.bpu.inFlight = p.bpu.inFlight ∧ q0.lu.waitingSeize = none
      ∧ (p.lu.owner = .customer → q0.lu.line = .clearing ∧ q0.lu.owner = .none) := by
    rw [hq0]; unfold releaseLine; dsimp only
    rw [if_pos rfl]
    by_cases hown : p.lu.owner = .customer
    · rw [if_pos ⟨hown, by decide⟩]
      exact ⟨rfl, rfl, rfl, rfl, rfl, rfl, rfl, rfl, rfl, rfl, rfl, fun _ => ⟨rfl, rfl⟩⟩
    · rw [if_neg (fun h => hown h.1)]
      exact ⟨rfl, rfl, rfl, rfl, rfl, rfl, rfl, rfl, rfl, rfl, rfl, fun h => absurd h hown⟩
  obtain ⟨c1, c2, c3, c4, c5, c6, c7, c8, c9, c10, c11, c12⟩ := a0
  have hn : coinsToRefund q0 = coinsToRefund p := by unfold coinsToRefund; rw [c4]
  rw [hn]
  clear_value q0
  set q1 := settleIfDue q0 with hq1
  have s0 : CallKept q0 q1 ∧ q1.cau.calls = q0.cau.calls ∧ q1.cau.load = q0.cau.load
    ∧ q1.rlu = (if p.rlu.settlementDue then
        { p.rlu with banked := 0, pendingRefund := true, settlementDue := false } else p.rlu)
    ∧ q1.cau.money = { p.cau.money with
         forfeited := p.cau.money.forfeited + BitVec.ofNat 32 (if p.rlu.settlementDue then p.rlu.banked else 0)
         banked := p.cau.money.banked - (if p.rlu.settlementDue then p.rlu.banked else 0) } := by
    rw [hq1]; unfold settleIfDue; rw [c4]
    cases hs : p.rlu.settlementDue
    · simp [CallKept.refl, c3, c4]
    · obtain ⟨b1, b2, b3, b4, b5⟩ := @settle_idle q0 (by rw [c2]; exact hi)
      simp only [if_true]
      refine ⟨b1, b3, b4, ?_, ?_⟩
      · rw [b2, c4]
      · rw [b5, c3, c4]
  obtain ⟨b0, b1, b2, b3, b4⟩ := s0
  clear_value q1
  set q2 := unlockFor c q1 with hq2
  have u : q2.cc = q1.cc ∧ q2.cau = q1.cau ∧ q2.rlu = q1.rlu ∧ q2.lu = q1.lu ∧ q2.cru = q1.cru ∧ q2.mem = q1.mem
      ∧ q2.tick = q1.tick ∧ q2.bpu = q1.bpu ∧ q2.rtu.timing = q1.rtu.timing := by
    rw [hq2]; unfold unlockFor; split <;> simp
  obtain ⟨u1, u2, u3, u4, u5, u6, u7, u8, u9⟩ := u
  have hl2 : q2.cau.load = .ended := by rw [u2, b2, c3, hl]
  have n3 := @recordCall_moneyKept c e (coinsToRefund p) q2 hl2
  have f3 := @recordCall_ended c e (coinsToRefund p) q2 hl2
  dsimp only at f3
  set q3 := recordCall c e (coinsToRefund p) q2 with hq3
  have hcc : q2.cc = p.cc := by rw [u1, b0.cc, c1]
  have hrec : callRecord c e (coinsToRefund p) q2 = { recordKept e c p with toRefund := coinsToRefund p } := by
    unfold callRecord recordKept recordNow; rw [hcc]; rfl
  rw [hrec, hcc, u2, b1, c3] at f3
  obtain ⟨g1, g2, g3, g4, g5, g6, g7, g8⟩ := f3
  obtain ⟨l0, l1, l2, l3, l4, l5, l6, l7, l8, l9, l10, l11⟩ := @leaveCall_ending q3 (by rw [g2, hcall])
  set q4 := leaveCall q3 with hq4
  have nn := n3.trans l0
  have fin : ∃ x : Bpu, completeIf 2 .done q4 = { q4 with bpu := x } ∧ x.causes = q4.bpu.causes
     ∧ (q4.bpu.inFlight = some 2 → q4.bpu.result = .pending → x.result = .done) := by
    unfold completeIf awaits complete mark
    split
    · exact ⟨_, rfl, rfl, fun _ _ => rfl⟩
    · refine ⟨_, rfl, rfl, fun h1 h2 => ?_⟩
      simp_all
  obtain ⟨x, hx, x1, x2⟩ := fin
  rw [hx]
  dsimp only
  refine ⟨⟨?_, l3, ?_, ?_, ?_, ?_, ?_, ?_, ?_, ?_, ?_⟩, ?_, ?_, ?_, ?_, ?_, ?_, ?_, ?_, ?_⟩
  · rw [show ({ q4 with bpu := x } : Part).cc = q4.cc from rfl, l2, g1]
  · rw [g1] at l4; exact l4
  · show q4.rtu.timing.state = _
    rw [nn.rtu, u9, b0.rtu, c2, hi]
  · intro h; rw [show ({ q4 with bpu := x } : Part).cc = q4.cc from rfl, l5, l6, l7, l8]; exact g6 h
  · intro h; rw [show ({ q4 with bpu := x } : Part).cc = q4.cc from rfl, l5, l7, l8]; exact g7 h
  · show q4.cau.calls = _; rw [l1]; exact g8
  · refine cacheUnlocked_of (r := q1) ?_ ?_
    · show _ = q4.rtu.cache; rw [nn.rtu]
    · rw [b0.rtu, c2]
  · show q4.lu.waitingSeize = none; rw [nn.lu, u4, b0.lu, c11]
  · show q4.mem = _; rw [nn.mem, u6, b0.mem, c6]
  · show q4.tick = _; rw [nn.tick, u7, b0.tick, c7]
  · rw [l9, g3]
  · rw [l10, g4]
  · rw [l11, g5]
  · rw [nn.cru, u5, b0.cru, c5]
  · rw [x1, nn.low, u8, b0.low, c8]
  · intro h1 h2; apply x2
    · rw [nn.inFlight, u8, b0.inFlight, c10, h1]
    · rw [nn.result, u8, b0.result, c9, h2]
  · intro h; rw [nn.lu, u4, b0.lu]; exact c12 h
  · rw [nn.rlu, u3, b3]
  · rw [nn.money, u2, b4]

/-! ## An ending event while the charge is in flight -/

theorem isPlaced_of_callHeld {c : PlacedCall} {p : Part} (h : callHeld c p) : isPlaced p = true := by
  obtain ⟨_, h | h | h⟩ := h <;> simp [isPlaced, h]

/-- An ending event with a charge in flight (R105, R141): the call is in ENDING, and nothing else has moved. -/
theorem endCall_inFlight {o : CallOutcome} {c : PlacedCall} {p : Part} (hh : callHeld c p)
    (hc : p.rlu.charge.isSome = true) :
    callEnding o c p (endCall o p) ∧ (endCall o p).rlu = p.rlu ∧ (endCall o p).lu = p.lu
      ∧ (endCall o p).bpu.result = p.bpu.result ∧ (endCall o p).bpu.inFlight = p.bpu.inFlight := by
  obtain ⟨hp, hcall⟩ := hh
  have hne : ¬ p.cc.call = .ending := by rcases hcall with h | h | h <;> simp [h]
  unfold endCall callEnding stopCharging setCall isCharging
  dsimp only
  by_cases hi : p.rtu.timing.state = .idle
  · have : (p.rtu.timing.state != .idle) = false := by simp [hi]
    simp [hp, hi, hne, hc, mem_insertGroup_self]
    rw [← hi]
  · simp [hp, hi, hne, hc, mem_insertGroup_self]
    have m := fun g k l => @mem_insertGroup_of_mem g k l
    exact ⟨m _ _ _ (m _ _ _ (m _ _ _ (mem_insertGroup_self _ _))), m _ _ _ (m _ _ _ (mem_insertGroup_self _ _))⟩

/-- The gate's work after such an event is none. -/
theorem gateWork_ending {o : CallOutcome} {c : PlacedCall} {p : Part} (hh : callHeld c p) (hc : chargeInFlight p) :
    gateWork (endCall o p) = endCall o p := by
  apply gateWork_still
  have : chargeInFlight (endCall o p) := by
    unfold chargeInFlight
    rw [(endCall_inFlight hh hc.1).2.1]
    exact hc
  exact still_of_chargeInFlight this

end Sys2Proof.Machine
end

