-- ==== Sys2Proof/Laws/Windows.lean ====
section
/-!
SUPPORT. Well-placed windows share no address (R57), so that a word of a window is found in that window and in no
other.
-/

namespace Sys2Proof.Machine

/-- The bases of the window kinds. -/
def baseOfBases (b : Bases) : WindowKind → Nat
  | .profile => 0x20000 | .tariff => b.tariff | .mailbox => b.mailbox | .status => b.status
  | .account => b.account | .callRing => b.callRing | .reportRing => b.reportRing | .mapDump => b.mapDump

theorem baseOfKind_installed {b : Bases} {p : Part} (h : p.bpu.windows = some b) (k : WindowKind) :
    baseOfKind k p = some (baseOfBases b k) := by
  cases k <;> simp [baseOfKind, baseOfBases, h]

/-- Two windows of a well-placed set are apart. -/
theorem windows_apart {b : Bases} (hb : wellPlaced b = true) {k l : WindowKind} (h : k ≠ l) :
    baseOfBases b k + windowLength k ≤ baseOfBases b l ∨ baseOfBases b l + windowLength l ≤ baseOfBases b k := by
  simp only [wellPlaced, windowSpans, allApart, apart, List.all_cons, List.all_nil, Bool.and_true, Bool.and_eq_true,
    Bool.or_eq_true, decide_eq_true_eq, beq_iff_eq] at hb
  casesm* _ ∧ _
  cases k <;> cases l <;> simp only [baseOfBases, windowLength] <;>
    first | exact absurd rfl h | assumption | exact Or.symm (by assumption)

/-- A word of a well-placed window lies in that window. -/
theorem windowAt_installed {b : Bases} {p : Part} (h : p.bpu.windows = some b) (hb : wellPlaced b = true)
    {k : WindowKind} {o : Nat} (ho : o < windowLength k) : windowAt (baseOfBases b k + o) p = some (k, o) := by
  have hi : ∀ (l : WindowKind) (a : Nat), offsetIn l a p =
      if baseOfBases b l ≤ a ∧ a < baseOfBases b l + windowLength l then some (a - baseOfBases b l) else none := by
    intro l a; simp [offsetIn, baseOfKind_installed h]
  have hs : offsetIn k (baseOfBases b k + o) p = some o := by
    rw [hi, if_pos (by omega)]; simp
  have hn : ∀ l, l ≠ k → offsetIn l (baseOfBases b k + o) p = none := by
    intro l hl
    have := windows_apart hb hl
    rw [hi, if_neg (by omega)]
  unfold windowAt windowKinds
  cases k <;> simp [hn, hs]

/-- An address outside every well-placed window lies in no window. -/
theorem windowAt_none {b : Bases} {p : Part} (h : p.bpu.windows = some b) {a : Nat}
    (ha : ∀ k, a < baseOfBases b k ∨ baseOfBases b k + windowLength k ≤ a) : windowAt a p = none := by
  have hi : ∀ (l : WindowKind), offsetIn l a p = none := by
    intro l
    have := ha l
    simp [offsetIn, baseOfKind_installed h]; omega
  simp [windowAt, windowKinds, hi]

end Sys2Proof.Machine
end

