-- ==== Sys2Proof/Laws/HostAccess.lean ====
section
/-!
SUPPORT. What a host access does when it arrives at a port that is free for it (R56, R68), and when it is held or
suppressed: the lemmas that the claims about host writes rest on.
-/

namespace Sys2Proof.Machine

/-- With no host access waiting there is nothing to serve. -/
theorem serveRounds_idle {p : Part} (h : p.bpu.hostQueue = []) : ∀ n, serveRounds n p = p
  | 0 => rfl
  | n + 1 => by simp only [serveRounds, h]

theorem tariffNotice_hostQueue (p : Part) : (tariffNotice p).bpu.hostQueue = p.bpu.hostQueue :=
  outer_hostQueue (tariffNotice_outer p)

theorem mailboxEffect_hostQueue (o : Nat) (d : Word) (p : Part) :
    (mailboxEffect o d p).bpu.hostQueue = p.bpu.hostQueue := by
  unfold mailboxEffect
  split <;> first
    | rfl
    | exact outer_hostQueue (takeCommand_outer _ _)
    | exact outer_hostQueue (takeDialWord_outer _ _)
    | exact outer_hostQueue (takeConsumerIndex_outer _ _)

theorem writeEffect_hostQueue (a : Nat) (d : Word) (p : Part) :
    (writeEffect a d p).bpu.hostQueue = p.bpu.hostQueue := by
  unfold writeEffect
  split
  · exact mailboxEffect_hostQueue _ _ _
  · rfl
  · exact tariffNotice_hostQueue _
  all_goals rfl

theorem readEffect_hostQueue (a : Nat) (p : Part) : (readEffect a p).bpu.hostQueue = p.bpu.hostQueue := by
  unfold readEffect unlockCapture
  dsimp only
  (repeat' split) <;> rfl

theorem offerCapture_hostQueue (a : Nat) (d : Word) (k : WindowKind) (p : Part) :
    (offerCapture a d k p).bpu.hostQueue = p.bpu.hostQueue := by
  unfold offerCapture
  split <;> rfl

theorem suppressWrite_hostQueue (a : Nat) (d : Word) (k : WindowKind) (o : Nat) (p : Part) :
    (suppressWrite a d k o p).bpu.hostQueue = p.bpu.hostQueue := by
  unfold suppressWrite
  dsimp only
  split
  · rw [outer_hostQueue (raise_outer _ _ _), offerCapture_hostQueue]; rfl
  · rw [offerCapture_hostQueue]; rfl

/-- The window an address lies in is found from the window table alone. -/
theorem windowAt_congr {p q : Part} (h : q.bpu.windows = p.bpu.windows) (a : Nat) : windowAt a q = windowAt a p := by
  have hb : ∀ k, baseOfKind k q = baseOfKind k p := by intro k; cases k <;> simp only [baseOfKind, h]
  have ho : ∀ k, offsetIn k a q = offsetIn k a p := by intro k; simp only [offsetIn, hb]
  simp only [windowAt, ho]

theorem takeAccess_hostQueue (a : HostAccess) (p : Part) : (takeAccess a p).bpu.hostQueue = p.bpu.hostQueue := by
  unfold takeAccess
  split <;> split
  · rw [writeEffect_hostQueue]; rfl
  · rfl
  · exact readEffect_hostQueue _ _
  · rfl

/-- A part with no host access waiting is itself with its host queue emptied. -/
theorem emptied_queue {p : Part} (h : p.bpu.hostQueue = []) : { p with bpu.hostQueue := [] } = p := by rw [← h]

/-- One round: the access presented is granted the free port. -/
theorem serveRounds_taken {q : Part} {a : HostAccess} (n : Nat) (h : q.bpu.hostQueue = [a]) (hh : isHeld a q = false)
    (hu : takeUnported a { q with bpu.hostQueue := [] } = none) (hp : q.bpu.port = none)
    (hs : q.bpu.starvation < 64) : serveRounds (n + 1) q = serveRounds n (takeAccess a { q with
      bpu.hostQueue := [], bpu.starvation := if workReady q then q.bpu.starvation + 1 else q.bpu.starvation }) := by
  have hs' : decide (64 ≤ q.bpu.starvation) = false := decide_eq_false (by omega)
  rw [serveRounds, h]
  dsimp only
  rw [hh, hu, hp, hs']
  rfl

/-- One round: the access presented is taken without the port. -/
theorem serveRounds_unported {q r : Part} {a : HostAccess} (n : Nat) (h : q.bpu.hostQueue = [a])
    (hh : isHeld a q = false) (hu : takeUnported a { q with bpu.hostQueue := [] } = some r) :
    serveRounds (n + 1) q = serveRounds n r := by
  rw [serveRounds, h]
  dsimp only
  rw [hh, hu]
  rfl

/-- An access that needs the port, arriving while no other waits and the port is free, is taken at once. -/
theorem hostAccess_taken {p : Part} {a : HostAccess} (hq : p.bpu.hostQueue = []) (hh : isHeld a p = false)
    (hu : takeUnported a p = none) (hp : p.bpu.port = none) (hs : p.bpu.starvation < 64) :
    hostAccess a p = takeAccess a (granted p) := by
  have hu' : takeUnported a { p with bpu.hostQueue := [] } = none := by rw [emptied_queue hq]; exact hu
  have hg : ({ p with
      bpu.hostQueue := ([] : List HostAccess)
      bpu.starvation := if workReady p then p.bpu.starvation + 1 else p.bpu.starvation } : Part) = granted p := by
    unfold granted; rw [← hq]
  unfold hostAccess serve
  rw [hq]
  refine (serveRounds_taken (q := { p with bpu.hostQueue := [] ++ [a] }) _ rfl (by cases a <;> exact hh) hu' hp hs).trans ?_
  refine Eq.trans (b := serveRounds 3 (takeAccess a (granted p))) (by rw [← hg]; rfl) ?_
  exact serveRounds_idle (by rw [takeAccess_hostQueue]; exact hq) _

/-- An access taken on its arrival, while no other waits, needs no port. -/
theorem hostAccess_unported {p q : Part} {a : HostAccess} (hq : p.bpu.hostQueue = []) (hh : isHeld a p = false)
    (hu : takeUnported a p = some q) (hn : q.bpu.hostQueue = []) : hostAccess a p = q := by
  have hu' : takeUnported a { p with bpu.hostQueue := [] } = some q := by rw [emptied_queue hq]; exact hu
  unfold hostAccess serve
  rw [hq]
  exact (serveRounds_unported (q := { p with bpu.hostQueue := [] ++ [a] }) _ rfl (by cases a <;> exact hh) hu').trans (serveRounds_idle hn _)

/-- A write that passes, arriving at a free port, stores its word and has its effect. -/
theorem hostAccess_pass {b : Bases} {p : Part} {t : Target} {a : Nat} {d : Word} (h : HostReady b p)
    (ha : addressOf t p = some a) (ht : treatmentAt a p = .pass) :
    hostAccess (.write t d) p = writeEffect a d (stored a d (granted p)) := by
  obtain ⟨-, -, hl, hq, hp, hs⟩ := h
  have ha' : addressOf t (granted p) = some a := by rw [← ha]; cases t <;> rfl
  rw [hostAccess_taken hq (by simpa [isHeld] using hl) (by simp only [takeUnported, ha, ht]) hp hs]
  simp only [takeAccess, ha', store, stored]

/-- A suppressed write is taken on its arrival. -/
theorem hostAccess_suppress {p : Part} {t : Target} {a : Nat} {d : Word} {k : WindowKind} {o : Nat}
    (hq : p.bpu.hostQueue = []) (hl : p.bpu.load ≠ some .start) (ha : addressOf t p = some a)
    (ht : treatmentAt a p = .suppress k o) : hostAccess (.write t d) p = suppressWrite a d k o p :=
  hostAccess_unported hq (by simpa [isHeld] using hl) (by simp only [takeUnported, ha, ht])
    (by rw [suppressWrite_hostQueue]; exact hq)

/-- A change-word write is interpreted on its arrival. -/
theorem hostAccess_interpret {p : Part} {t : Target} {a : Nat} {d : Word} (hq : p.bpu.hostQueue = [])
    (hl : p.bpu.load ≠ some .start) (ha : addressOf t p = some a) (ht : treatmentAt a p = .interpret) :
    hostAccess (.write t d) p = clearCauses d p :=
  hostAccess_unported hq (by simpa [isHeld] using hl) (by simp only [takeUnported, ha, ht])
    (by rw [← hq]; exact outer_hostQueue (clearCauses_outer _ _))

/-- A read, arriving at a free port, returns the word of the chip. -/
theorem hostAccess_read {p : Part} {t : Target} {a : Nat} (hq : p.bpu.hostQueue = []) (hp : p.bpu.port = none)
    (hs : p.bpu.starvation < 64) (ha : addressOf t p = some a) :
    hostAccess (.read t) p = readEffect a (granted p) := by
  have ha' : addressOf t (granted p) = some a := by rw [← ha]; cases t <;> rfl
  rw [hostAccess_taken hq rfl rfl hp hs]
  simp only [takeAccess, ha']

/-! ## Writes to the windows -/

theorem addressOf_window {b : Bases} {p : Part} (h : p.bpu.windows = some b) (k : WindowKind) (o : Nat) :
    addressOf (.window k o) p = some (baseOfBases b k + o) := by
  simp [addressOf, baseOfKind_installed h]

/-- The treatment of a write to a word of a window (R58 to R62). -/
def windowTreatment (busy : Bool) (o : Nat) : WindowKind → Treatment
  | .profile => .pass
  | .tariff => .pass
  | .mailbox => if o = 5 ∨ (o = 0 ∧ busy) then .suppress .mailbox o else .pass
  | .status => if o = 0 then .interpret else .suppress .status o
  | .account => .suppress .account o
  | .callRing => .suppress .callRing o
  | .reportRing => .suppress .reportRing o
  | .mapDump => .suppress .mapDump o

/-- The treatment of a word of a window is that of its kind and offset. -/
theorem treatmentAt_installed {b : Bases} {p : Part} (h : p.bpu.windows = some b) (hb : wellPlaced b = true)
    {k : WindowKind} {o : Nat} (ho : o < windowLength k) :
    treatmentAt (baseOfBases b k + o) p = windowTreatment p.bpu.inFlight.isSome o k := by
  unfold treatmentAt
  rw [windowAt_installed h hb ho]
  cases k <;> rfl

/-- A write to a word of a window that passes, arriving at a free port. -/
theorem hostAccess_window {b : Bases} {p : Part} {k : WindowKind} {o : Nat} {d : Word} (h : HostReady b p)
    (ht : treatmentAt (baseOfBases b k + o) p = .pass) :
    hostAccess (.write (.window k o) d) p =
      writeEffect (baseOfBases b k + o) d (stored (baseOfBases b k + o) d (granted p)) :=
  hostAccess_pass h (addressOf_window h.1 k o) ht

/-- A write to a mailbox word other than the result, arriving at a free port: the word's effect. -/
theorem hostAccess_mailbox {b : Bases} {p : Part} {o : Nat} {d : Word} (h : HostReady b p) (ho : o < 8) (h5 : o ≠ 5)
    (h0 : o ≠ 0 ∨ p.bpu.inFlight = none) :
    hostAccess (.write (.window .mailbox o) d) p =
      mailboxEffect o d (stored (b.mailbox + o) d (granted p)) := by
  rw [hostAccess_window h]
  · have hw : windowAt (baseOfBases b .mailbox + o) (stored (baseOfBases b .mailbox + o) d (granted p))
        = some (.mailbox, o) := windowAt_installed (k := .mailbox) h.1 h.2.1 ho
    unfold writeEffect
    rw [hw]
    rfl
  · rw [treatmentAt_installed h.1 h.2.1 ho]
    unfold windowTreatment
    rw [if_neg]
    rintro (rfl | ⟨rfl, hi⟩)
    · exact h5 rfl
    · rcases h0 with h0 | h0
      · exact h0 rfl
      · rw [h0] at hi; simp at hi

/-- A mailbox command, written while none is in flight and the port is free, is taken and judged (R175, R177). -/
theorem commandWrite_taken {b : Bases} {p : Part} {code : Word} (h : HostReady b p) (hi : p.bpu.inFlight = none) :
    commandWrite code p = judgeCommand code.toNat (mailboxTaken b code p) := by
  unfold commandWrite
  rw [hostAccess_mailbox h (by omega) (by omega) (Or.inr hi)]
  rfl

/-- A mailbox command written while one is in flight is suppressed (R58). -/
theorem commandWrite_suppressed {b : Bases} {p : Part} {code : Word} (hw : p.bpu.windows = some b)
    (hb : wellPlaced b = true) (hq : p.bpu.hostQueue = []) (hl : p.bpu.load ≠ some .start)
    (hi : p.bpu.inFlight.isSome) : commandWrite code p = suppressWrite b.mailbox code .mailbox 0 p := by
  unfold commandWrite
  have := treatmentAt_installed hw hb (k := .mailbox) (o := 0) (by decide)
  refine hostAccess_suppress hq hl (addressOf_window hw .mailbox 0) (this.trans ?_)
  simp [windowTreatment, hi]

end Sys2Proof.Machine
end

