-- ==== Sys2Proof/Laws/HostQueue.lean ====
section
/-!
SUPPORT. The end of the start profile load neither reads nor changes the accesses at the host bus port, so that a write
held there (R72) is taken after it, under the windows it has installed.
-/

namespace Sys2Proof.Machine

/-- The part with these accesses at the host bus port. -/
def withQueue (q : List HostAccess) (p : Part) : Part := { p with bpu.hostQueue := q }

theorem mark_withQueue (g : Group) (q : List HostAccess) (p : Part) :
    mark g (withQueue q p) = withQueue q (mark g p) := rfl

theorem markAll_withQueue (gs : List Group) (q : List HostAccess) (p : Part) :
    markAll gs (withQueue q p) = withQueue q (markAll gs p) := by
  induction gs generalizing p with
  | nil => rfl
  | cons g gs ih => exact ih (mark g p)

theorem setCause_withQueue (c : Cause) (q : List HostAccess) (p : Part) :
    setCause c (withQueue q p) = withQueue q (setCause c p) := rfl

theorem requestRead_withQueue (r : ReadPurpose) (q : List HostAccess) (p : Part) :
    requestRead r (withQueue q p) = withQueue q (requestRead r p) := rfl

theorem isActive_withQueue (k : Condition) (q : List HostAccess) (p : Part) :
    isActive k (withQueue q p) = isActive k p := rfl

theorem deriveRestriction_withQueue (q : List HostAccess) (p : Part) :
    deriveRestriction (withQueue q p) = withQueue q (deriveRestriction p) := by
  have h : derivedRestriction (withQueue q p) = derivedRestriction p := by
    unfold derivedRestriction
    rw [show serviceMode (withQueue q p) = serviceMode p from rfl]
    rw [show highest (withQueue q p) allConditions = highest p allConditions from rfl]
  unfold deriveRestriction
  rw [h]
  by_cases hd : derivedRestriction p = p.cru.restriction
  · rw [if_pos hd, if_pos (show derivedRestriction p = (withQueue q p).cru.restriction from hd)]
  · rw [if_neg hd, if_neg (show ¬ derivedRestriction p = (withQueue q p).cru.restriction from hd)]
    rfl

/-- PROFILE_BAD is never handed to the report queue (R149), so its raise stays with the condition table. -/
theorem raise_profileBad_withQueue (detail : Nat) (q : List HostAccess) (p : Part) :
    raise .profileBad detail (withQueue q p) = withQueue q (raise .profileBad detail p) := by
  unfold raise
  rw [if_pos rfl, if_pos rfl]
  have h : setRow .profileBad (raisedRow (withQueue q p).rtu.clock detail (rowOf .profileBad (withQueue q p)))
      (withQueue q p) = withQueue q (setRow .profileBad (raisedRow p.rtu.clock detail (rowOf .profileBad p)) p) := rfl
  rw [h, deriveRestriction_withQueue]
  rfl

theorem appendRecord_withQueue (r : RingRecord) (q : List HostAccess) (p : Part) :
    appendRecord r (withQueue q p) = withQueue q (appendRecord r p) := by
  unfold appendRecord
  by_cases h : p.cc.heldCount < 64
  · rw [if_pos h, if_pos (show (withQueue q p).cc.heldCount < 64 from h)]; rfl
  · rw [if_neg h, if_neg (show ¬ (withQueue q p).cc.heldCount < 64 from h)]; rfl

theorem beginVerify_withQueue (q : List HostAccess) (p : Part) :
    beginVerify (withQueue q p) = withQueue q (beginVerify p) := by
  unfold beginVerify
  by_cases h : p.rtu.verifyDue = true ∧ p.rtu.engine = .idle
  · rw [if_pos h, if_pos (show (withQueue q p).rtu.verifyDue = true ∧ (withQueue q p).rtu.engine = .idle from h)]; rfl
  · rw [if_neg h, if_neg (show ¬ ((withQueue q p).rtu.verifyDue = true ∧ (withQueue q p).rtu.engine = .idle) from h)]

theorem beginAccountLoad_withQueue (q : List HostAccess) (p : Part) :
    beginAccountLoad (withQueue q p) = withQueue q (beginAccountLoad p) := rfl

theorem beginFirstReads_withQueue (q : List HostAccess) (p : Part) :
    beginFirstReads (withQueue q p) = withQueue q (beginFirstReads p) := by
  let r : Part := { p with free := p.free + 1, rtu.verifyDue := true }
  change (if Config.accountReadFirst p.free then beginVerify (beginAccountLoad (withQueue q r))
      else beginAccountLoad (beginVerify (withQueue q r)))
    = withQueue q (if Config.accountReadFirst p.free then beginVerify (beginAccountLoad r)
      else beginAccountLoad (beginVerify r))
  split
  · rw [beginAccountLoad_withQueue, beginVerify_withQueue]
  · rw [beginVerify_withQueue, beginAccountLoad_withQueue]

theorem grantSeize_withQueue (owner : Owner) (number : List Nat) (q : List HostAccess) (p : Part) :
    grantSeize owner number (withQueue q p) = withQueue q (grantSeize owner number p) := by
  unfold grantSeize
  cases h : p.pins.loop <;> simp [h, withQueue, markS, mark, newTimer, currentSeen]

theorem probeAsk_withQueue (q : List HostAccess) (p : Part) :
    probeAsk (withQueue q p) = withQueue q (probeAsk p) := by
  unfold probeAsk
  rw [show lineFree (withQueue q p) = lineFree p from rfl, show (withQueue q p).lu.probeDue = p.lu.probeDue from rfl]
  split
  · exact grantSeize_withQueue .probe [] q { p with lu.probeDue := false }
  · rfl

theorem reportAsk_withQueue (q : List HostAccess) (p : Part) :
    reportAsk (withQueue q p) = withQueue q (reportAsk p) := by
  unfold reportAsk
  rw [show reportReady (withQueue q p) = reportReady p from rfl]
  change (match p.cru.number, p.cru.identity with
    | some number, some identity => _
    | _, _ => _) = _
  cases p.cru.number with
  | none => rfl
  | some number =>
    cases p.cru.identity with
    | none => rfl
    | some identity =>
      by_cases h : reportReady p = true
      · simp only [h, if_true]
        exact grantSeize_withQueue .report number q
          { p with cru.report := some { identity, sends := 0, accepted := 0 } }
      · simp only [h]; rfl

/-- The band judged anew while the timing is IDLE (R94, R107). -/
theorem judgeBand_withQueue {p : Part} (q : List HostAccess) (h : p.rtu.timing.state = .idle) :
    judgeBand (withQueue q p) = withQueue q (judgeBand p) := by
  unfold judgeBand
  rw [show bandNow (withQueue q p) = bandNow p from rfl, show (withQueue q p).rtu = p.rtu from rfl]
  split
  · rfl
  · simp only [h]; rfl

/-- Before the start-up dump has ended, the gate has no work of the other units (R31). -/
theorem gateWork_dump {p : Part} (h : p.rlu.dump ≠ .ended) : gateWork p = p := by
  unfold gateWork
  rw [show 2 * p.rlu.banked + 20 = (2 * p.rlu.banked + 19) + 1 from rfl, gateTurns]
  simp [gateTurn, h]

theorem beginVerify_rlu (p : Part) : (beginVerify p).rlu = p.rlu ∧ (beginVerify p).rtu.timing = p.rtu.timing := by
  unfold beginVerify
  by_cases h : p.rtu.verifyDue = true ∧ p.rtu.engine = .idle
  · rw [if_pos h]; exact ⟨rfl, rfl⟩
  · rw [if_neg h]; exact ⟨rfl, rfl⟩

/-- What the two first reads leave of the gate and of the step timing. -/
theorem beginFirstReads_rlu (p : Part) : (beginFirstReads p).rlu = p.rlu
    ∧ (beginFirstReads p).rtu.timing = p.rtu.timing := by
  let r : Part := { p with free := p.free + 1, rtu.verifyDue := true }
  have h : beginFirstReads p = (if Config.accountReadFirst p.free then beginVerify (beginAccountLoad r)
      else beginAccountLoad (beginVerify r)) := rfl
  rw [h]
  split
  · exact beginVerify_rlu (beginAccountLoad r)
  · exact beginVerify_rlu r

theorem appendRecord_rlu (r : RingRecord) (p : Part) : (appendRecord r p).rlu = p.rlu
    ∧ (appendRecord r p).rtu = p.rtu := by
  unfold appendRecord
  split <;> exact ⟨rfl, rfl⟩

theorem judgeBand_rlu {p : Part} (h : p.rtu.timing.state = .idle) : (judgeBand p).rlu = p.rlu := by
  unfold judgeBand
  split
  · rfl
  · simp only [h]; rfl

theorem markAll_rlu (gs : List Group) (p : Part) : (markAll gs p).rlu = p.rlu ∧ (markAll gs p).rtu = p.rtu := by
  induction gs generalizing p with
  | nil => exact ⟨rfl, rfl⟩
  | cons g gs ih => exact ih (mark g p)

theorem deriveRestriction_rlu (p : Part) : (deriveRestriction p).rlu = p.rlu ∧ (deriveRestriction p).rtu = p.rtu := by
  unfold deriveRestriction
  by_cases h : derivedRestriction p = p.cru.restriction
  · rw [if_pos h]; exact ⟨rfl, rfl⟩
  · rw [if_neg h]; exact ⟨rfl, rfl⟩

theorem setCause_markS_rlu (c : Cause) (k : Nat) (p : Part) : (setCause c (markS k p)).rlu = p.rlu
    ∧ (setCause c (markS k p)).rtu = p.rtu := ⟨rfl, rfl⟩

theorem setRow_rlu_rtu (k : Condition) (r : ConditionRow) (p : Part) : (setRow k r p).rlu = p.rlu
    ∧ (setRow k r p).rtu = p.rtu := ⟨rfl, rfl⟩

theorem raise_profileBad_rlu (detail : Nat) (p : Part) : (raise .profileBad detail p).rlu = p.rlu
    ∧ (raise .profileBad detail p).rtu = p.rtu := by
  have h : raise .profileBad detail p = setCause .condition (markS 7 (deriveRestriction
      (setRow .profileBad (raisedRow p.rtu.clock detail (rowOf .profileBad p)) p))) := by
    unfold raise; rw [if_pos rfl]
  have h1 := setCause_markS_rlu .condition 7 (deriveRestriction
    (setRow .profileBad (raisedRow p.rtu.clock detail (rowOf .profileBad p)) p))
  have h2 := deriveRestriction_rlu (setRow .profileBad (raisedRow p.rtu.clock detail (rowOf .profileBad p)) p)
  have h3 := setRow_rlu_rtu .profileBad (raisedRow p.rtu.clock detail (rowOf .profileBad p)) p
  rw [h]
  exact ⟨h1.1.trans (h2.1.trans h3.1), h1.2.trans (h2.2.trans h3.2)⟩

/-- The part with the outcome of the start load applied (R72). -/
def startOutcome (result : Except Nat Profile) (p : Part) : Part :=
  let p := { p with bpu.load := none, bpu.profileWords := [] }
  match result with
  | .ok f => applyProfile f { p with bpu.windows := some f.bases }
  | .error detail => raise .profileBad detail { p with bpu.windows := some builtInBases }

theorem startOutcome_withQueue (result : Except Nat Profile) (q : List HostAccess) (p : Part) :
    startOutcome result (withQueue q p) = withQueue q (startOutcome result p) := by
  cases result with
  | ok f => rfl
  | error detail =>
    exact raise_profileBad_withQueue detail q
      { p with bpu.load := none, bpu.profileWords := [], bpu.windows := some builtInBases }

theorem startOutcome_rlu (result : Except Nat Profile) (p : Part) : (startOutcome result p).rlu = p.rlu
    ∧ (startOutcome result p).rtu.timing = p.rtu.timing := by
  cases result with
  | ok f => exact ⟨rfl, rfl⟩
  | error detail =>
    have h := raise_profileBad_rlu detail
      { p with bpu.load := none, bpu.profileWords := [], bpu.windows := some builtInBases }
    exact ⟨h.1, congrArg (·.timing) h.2⟩

/-- The end of the start load neither reads nor changes what stands at the host bus port (R72). -/
theorem endStartLoad_withQueue (result : Except Nat Profile) {p : Part} (q : List HostAccess)
    (hd : p.rlu.dump = .waiting) (ht : p.rtu.timing.state = .idle) :
    endStartLoad result (withQueue q p) = withQueue q (endStartLoad result p) := by
  let o : Part := startOutcome result p
  let a : Part := appendRecord (.start o.started o.rtu.clock) (markPublication o)
  have ho := startOutcome_rlu result p
  have ha : a.rlu = p.rlu ∧ a.rtu.timing = p.rtu.timing := by
    have h1 := appendRecord_rlu (.start o.started o.rtu.clock) (markPublication o)
    have h2 := markAll_rlu ([.result] ++ (List.range 8).map Group.status ++ (List.range 8).map Group.report) o
    exact ⟨h1.1.trans (h2.1.trans ho.1), (congrArg (·.timing) (h1.2.trans h2.2)).trans ho.2⟩
  have hi : (beginFirstReads a).rtu.timing.state = .idle := by rw [(beginFirstReads_rlu a).2, ha.2]; exact ht
  have hg : (judgeBand (beginFirstReads a)).rlu.dump ≠ .ended := by
    rw [judgeBand_rlu hi, (beginFirstReads_rlu a).1, ha.1, hd]; decide
  change reportAsk (probeAsk (gateWork (judgeBand (beginFirstReads
      (appendRecord (.start (startOutcome result (withQueue q p)).started (startOutcome result (withQueue q p)).rtu.clock)
        (markPublication (startOutcome result (withQueue q p))))))))
    = withQueue q (reportAsk (probeAsk (gateWork (judgeBand (beginFirstReads a)))))
  rw [startOutcome_withQueue]
  change reportAsk (probeAsk (gateWork (judgeBand (beginFirstReads
      (appendRecord (.start o.started o.rtu.clock) (markAll _ (withQueue q o))))))) = _
  rw [markAll_withQueue, appendRecord_withQueue]
  change reportAsk (probeAsk (gateWork (judgeBand (beginFirstReads (withQueue q a))))) = _
  rw [beginFirstReads_withQueue, judgeBand_withQueue q hi, gateWork_dump hg,
    gateWork_dump (show (withQueue q (judgeBand (beginFirstReads a))).rlu.dump ≠ .ended from hg), probeAsk_withQueue,
    reportAsk_withQueue]

end Sys2Proof.Machine
end

