-- ==== Sys2Proof/Laws/Memory.lean ====
section
/-!
SUPPORT. The laws of memory: a read after a write, and the canonical form that every write keeps.
-/

namespace Sys2Proof.Machine

/-- Every listed address lies above a bound. -/
def Memory.above (low : Nat) : Memory → Prop
  | [] => True
  | (a, _) :: rest => low < a ∧ Memory.above low rest

theorem Memory.above_mono {low high : Nat} (h : low ≤ high) : ∀ {m : Memory}, m.above high → m.above low
  | [], _ => trivial
  | (_, _) :: _, ⟨ha, hr⟩ => ⟨by omega, Memory.above_mono h hr⟩

/-- The canonical form, one entry at a time. -/
theorem Memory.wf_cons {a : Nat} {w : Word} : ∀ {m : Memory},
    Memory.wf ((a, w) :: m) = true ↔ w ≠ 0 ∧ m.above a ∧ Memory.wf m = true
  | [] => by simp [Memory.wf, Memory.above]
  | (b, v) :: rest => by
    have ih := @Memory.wf_cons b v rest
    simp only [Memory.wf, Bool.and_eq_true, bne_iff_ne, ne_eq, decide_eq_true_eq, Memory.above]
    constructor
    · rintro ⟨⟨hw, hab⟩, hr⟩
      exact ⟨hw, ⟨hab, Memory.above_mono (by omega) (ih.1 hr).2.1⟩, hr⟩
    · rintro ⟨hw, ⟨hab, _⟩, hr⟩
      exact ⟨⟨hw, hab⟩, hr⟩

/-- An address at or below the bound of a memory reads 0. -/
theorem readWord_of_above {low a : Nat} (h : a ≤ low) : ∀ {m : Memory}, m.above low → readWord m a = 0
  | [], _ => rfl
  | (b, v) :: rest, ⟨hb, hr⟩ => by
    simp only [readWord]
    rw [if_neg (by omega), readWord_of_above h hr]

theorem writeWord_above {low a : Nat} {w : Word} (h : low < a) : ∀ {m : Memory}, m.above low → (writeWord m a w).above low
  | [], _ => by
    simp only [writeWord]
    split <;> simp [Memory.above, h]
  | (b, v) :: rest, ⟨hb, hr⟩ => by
    simp only [writeWord]
    split
    · split
      · exact ⟨hb, hr⟩
      · exact ⟨h, hb, hr⟩
    · split
      · split
        · exact hr
        · exact ⟨h, hr⟩
      · exact ⟨hb, writeWord_above h hr⟩

/-- A write keeps the canonical form. -/
theorem writeWord_wf {a : Nat} {w : Word} : ∀ {m : Memory}, Memory.wf m = true → Memory.wf (writeWord m a w) = true
  | [], _ => by
    simp only [writeWord]
    split
    · rfl
    · simpa [Memory.wf] using ‹_›
  | (b, v) :: rest, h => by
    obtain ⟨hv, hb, hr⟩ := Memory.wf_cons.1 h
    simp only [writeWord]
    split
    · split
      · exact h
      · exact Memory.wf_cons.2 ⟨‹_›, ⟨‹_›, Memory.above_mono (by omega) hb⟩, h⟩
    · split
      · split
        · exact hr
        · subst_vars; exact Memory.wf_cons.2 ⟨‹_›, hb, hr⟩
      · exact Memory.wf_cons.2 ⟨hv, writeWord_above (by omega) hb, writeWord_wf hr⟩

/-- A word written reads back. -/
theorem readWord_writeWord_same {a : Nat} {w : Word} : ∀ {m : Memory}, Memory.wf m = true →
    readWord (writeWord m a w) a = w
  | [], _ => by
    simp only [writeWord]
    split
    · simp_all [readWord]
    · simp [readWord]
  | (b, v) :: rest, h => by
    obtain ⟨hv, hb, hr⟩ := Memory.wf_cons.1 h
    simp only [writeWord]
    split
    · split
      · rw [readWord, if_neg (by omega), readWord_of_above (by omega) hb]; exact Eq.symm ‹_›
      · simp [readWord]
    · split
      · split
        · subst_vars; rw [readWord_of_above (Nat.le_refl _) hb]
        · simp [readWord]
      · rw [readWord, if_neg (by assumption), readWord_writeWord_same hr]

/-- A write leaves every other word alone. -/
theorem readWord_writeWord_other {a c : Nat} {w : Word} (hc : c ≠ a) : ∀ {m : Memory},
    readWord (writeWord m a w) c = readWord m c
  | [] => by
    simp only [writeWord]
    split
    · rfl
    · simp [readWord, hc]
  | (b, v) :: rest => by
    simp only [writeWord]
    split
    · split
      · rfl
      · simp [readWord, hc]
    · split
      · split
        · subst_vars; simp [readWord, hc]
        · subst_vars; simp [readWord, hc]
      · simp only [readWord]
        split
        · rfl
        · exact readWord_writeWord_other hc

/-- A run of writes keeps the canonical form. -/
theorem writeWords_wf : ∀ {ws : List Word} {m : Memory} {a : Nat}, Memory.wf m = true →
    Memory.wf (writeWords m a ws) = true
  | [], _, _, h => h
  | _ :: ws, _, _, h => by rw [writeWords]; exact writeWords_wf (ws := ws) (writeWord_wf h)

/-- A run of writes leaves every word outside the run alone. -/
theorem readWord_writeWords_other {c : Nat} : ∀ {ws : List Word} {m : Memory} {a : Nat},
    c < a ∨ a + ws.length ≤ c → readWord (writeWords m a ws) c = readWord m c
  | [], _, _, _ => rfl
  | w :: ws, m, a, h => by
    simp only [List.length_cons] at h
    rw [writeWords, readWord_writeWords_other (by omega), readWord_writeWord_other (by omega)]

/-- A run of words written reads back, word by word. -/
theorem readWord_writeWords_at : ∀ {ws : List Word} {m : Memory} {a i : Nat}, Memory.wf m = true →
    (h : i < ws.length) → readWord (writeWords m a ws) (a + i) = ws[i]
  | w :: ws, m, a, 0, hm, _ => by
    rw [writeWords, readWord_writeWords_other (by omega)]
    exact readWord_writeWord_same hm
  | w :: ws, m, a, i + 1, hm, h => by
    have := readWord_writeWords_at (ws := ws) (m := writeWord m a w) (a := a + 1) (i := i) (writeWord_wf hm)
      (by simpa using h)
    rw [writeWords, show a + (i + 1) = a + 1 + i by omega, this]
    rfl

end Sys2Proof.Machine
end

