-- ==== Sys2Proof/Laws/Ratings.lean ====
section
/-!
SUPPORT. What a lookup can answer and what its result carries (R74, R75, R80, R87), and the judgement that follows it
(R138).
-/

namespace Sys2Proof.Machine

/-! ## What a result carries -/

/-- A chosen entry's result is BARRED for a BARRED class and RATED for any other; either carries the entry. -/
theorem ratingOf_cases (c : Chosen) :
    (classOf c.copy.cls = .barredClass ∧ ratingOf c = .barred (some c))
      ∨ (classOf c.copy.cls ≠ .barredClass ∧ ratingOf c = .rated c) := by
  unfold ratingOf
  split
  · exact .inl ⟨‹_›, rfl⟩
  · exact .inr ⟨‹_›, rfl⟩

/-- Results of different chosen entries differ. -/
theorem ratingOf_injective {c d : Chosen} (h : ratingOf c = ratingOf d) : c = d := by
  obtain ⟨-, hc⟩ | ⟨-, hc⟩ := ratingOf_cases c <;> obtain ⟨-, hd⟩ | ⟨-, hd⟩ := ratingOf_cases d <;>
    rw [hc, hd] at h <;> cases h <;> rfl

/-- A cache entry lends its result its copy and its table index. -/
theorem chosenOf_getElem {i : Nat} {cache : List CacheEntry} {e : CacheEntry} (h : cache[i]? = some e) :
    chosenOf i cache = { copy := e.copy, index := e.index, entry := i } := by
  simp [chosenOf, List.getD, h]

/-- A hit's result carries what the entry held before it became the youngest. -/
theorem chosenOf_makeYoungest {i : Nat} {cache : List CacheEntry} (h : i < cache.length) :
    chosenOf i (makeYoungest i cache) = chosenOf i cache := by
  simp [chosenOf, makeYoungest, h]

/-- A fill's result carries the copy and the index that were filled in. -/
theorem chosenOf_fillEntry {i : Nat} {cache : List CacheEntry} (h : i < cache.length) (key : List Nat) (index : Nat)
    (copy : TariffEntry) : chosenOf i (fillEntry i key index copy cache) = { copy, index, entry := i } := by
  simp [chosenOf, fillEntry, makeYoungest, h]

/-! ## What a lookup answers -/

/-- All that can come of a lookup at its taking: FREE, a hit, or a miss of both. -/
theorem answerAtTaking_cases (number : List Nat) (p : Part) :
    (∃ i, freeIndex number p.rtu.freeList = some i ∧ answerAtTaking number p = some (.free i, p))
      ∨ (∃ i, freeIndex number p.rtu.freeList = none ∧ probe (ratingKey number) p.rtu.cache = some i
        ∧ answerAtTaking number p = some (ratingOf (chosenOf i (makeYoungest i p.rtu.cache)),
          { p with rtu.cache := makeYoungest i p.rtu.cache }))
      ∨ (freeIndex number p.rtu.freeList = none ∧ probe (ratingKey number) p.rtu.cache = none
        ∧ answerAtTaking number p = none) := by
  unfold answerAtTaking
  split
  · exact .inl ⟨_, ‹_›, rfl⟩
  · split
    · exact .inr (.inl ⟨_, ‹_›, ‹_›, rfl⟩)
    · exact .inr (.inr ⟨‹_›, ‹_›, rfl⟩)

/-- A lookup that is answered at its taking is judged at once. -/
theorem lookup_answered {number : List Nat} {p q : Part} {r : Rating} (h : answerAtTaking number p = some (r, q)) :
    lookup number p = judgeRating r q := by
  simp only [lookup, h]

/-- A lookup that neither source answers begins a scan. -/
theorem lookup_missed {number : List Nat} {p : Part} (h : answerAtTaking number p = none) :
    lookup number p = beginLookup number p := by
  simp only [lookup, h]

/-- A lookup scan's completion: the verdict is applied, and the result that follows from it is judged. -/
theorem completeScan_lookup {p : Part} {number : List Nat} {n : Nat} (h : p.rtu.engine = .lookup number n)
    (fault : Option Nat) :
    let r := scanResult fault number p.rtu.scan.best
      (applyVerdict fault { p with rtu.engine := .idle, rtu.verifyDue := false })
    completeScan fault p = judgeRating r.1 r.2 := by
  unfold completeScan; rw [h]

/-- A lookup answered at its taking leaves all but the ages of the cache as it was. -/
theorem answerAtTaking_frame {number : List Nat} {p q : Part} {r : Rating}
    (h : answerAtTaking number p = some (r, q)) : q = { p with rtu.cache := q.rtu.cache } := by
  obtain ⟨_, -, e⟩ | ⟨_, -, -, e⟩ | ⟨-, -, e⟩ := answerAtTaking_cases number p <;> rw [e] at h <;> cases h <;> rfl

/-- A lookup scan's result touches nothing but the cache. -/
theorem scanResult_frame (fault : Option Nat) (number : List Nat) (best : Option (Nat × TariffEntry)) (p : Part) :
    (scanResult fault number best p).2 = { p with rtu.cache := (scanResult fault number best p).2.rtu.cache } := by
  unfold scanResult; split <;> rfl

/-- A BARRED result refuses DIAL alike, whatever it carries (R138). -/
@[simp] theorem judgeRating_barred (c : Option Chosen) (p : Part) :
    judgeRating (.barred c) p = refuseDial .barred p := rfl

end Sys2Proof.Machine
end

