-- ==== Sys2Proof/Laws/Scrub.lean ====
section
/-!
SUPPORT. The scrubber's skip and its first strike (R48, R49).
-/

namespace Sys2Proof.Machine

/-- A slot is being written exactly when the port carries the write of its group. -/
theorem slotInWrite_iff {slot : Nat} {p : Part} : slotInWrite slot p = true
    ↔ ∃ record address words, p.bpu.port = some (.write (.account slot) record address words) := by
  unfold slotInWrite
  split
  · rename_i j a b c h
    simp only [beq_iff_eq, h, Option.some.injEq, PortRun.write.injEq, Group.account.injEq]
    exact ⟨fun h => ⟨a, b, c, h.symm, rfl, rfl, rfl⟩, fun ⟨_, _, _, h, _⟩ => h.symm⟩
  · rename_i h
    exact ⟨fun h' => Bool.noConfusion h', fun ⟨a, b, c, h'⟩ => absurd h' (h slot a b c)⟩

/-- A turn is skipped on a faulted record, on a slot that is dirty or being written, and on the header while a relocation
is in progress. -/
theorem turnSkipped_iff {n : Nat} {p : Part} : turnSkipped n p = true ↔ n ∈ p.cau.faulted
    ∨ Group.account (slotOf n p) ∈ p.bpu.dirty
    ∨ (∃ record address words, p.bpu.port = some (.write (.account (slotOf n p)) record address words))
    ∨ n = 0 ∧ p.cau.relocations ≠ [] := by
  simp only [turnSkipped, Bool.or_eq_true, List.contains_iff_mem, Bool.and_eq_true, beq_iff_eq, bne_iff_ne,
    slotInWrite_iff, or_assoc]

/-- With no strike on the slot, or one older than 8 passes, a strike is recorded and the slot is not hard. -/
theorem strikeSlot_first {n slot : Nat} {p : Part}
    (h : ∀ struck, p.cau.strikes.getD slot none = some struck → struck + 8 < p.cau.pass) :
    strikeSlot n slot p = { p with cau.strikes := p.cau.strikes.set slot (some p.cau.pass) } := by
  unfold strikeSlot
  split
  · rfl
  · next k hk => rw [if_pos (by have := h k hk; omega)]

end Sys2Proof.Machine
end

