-- ==== Sys2Proof/Laws/Senses.lean ====
section
/-!
SUPPORT. What the sensed inputs do: the flash's ready output with the reads set aside (R69), and the polarity that the
line shows or showed last (R114, R123).
-/

namespace Sys2Proof.Machine

/-! ## The flash's ready output -/

@[simp] theorem senseFlash_busy (p : Part) : senseFlash true p = { p with pins.flashBusy := true } := rfl
@[simp] theorem senseFlash_ready (p : Part) : senseFlash false p = rejoinReads p := rfl
@[simp] theorem rejoinReads_aside (p : Part) : (rejoinReads p).bpu.aside = [] := rfl
@[simp] theorem rejoinReads_waiting (p : Part) :
    (rejoinReads p).bpu.waiting = p.bpu.waiting ++ p.bpu.aside := rfl
@[simp] theorem rejoinReads_flashBusy (p : Part) : (rejoinReads p).pins.flashBusy = false := rfl

/-- A flash that shows ready lets no read fail back. -/
theorem failBack_ready {p : Part} (h : p.pins.flashBusy = false) (reader : FlashReader) :
    failBack reader p = rejoinReads p := by
  simp [failBack, h]

/-- With the flash busy and no read of the unit set aside nothing fails back. -/
theorem failBack_none {p : Part} {reader : FlashReader} (hb : p.pins.flashBusy = true)
    (h : p.bpu.aside.find? (isReadOf reader) = none) : failBack reader p = p := by
  simp [failBack, hb, h]

/-! ## The polarity sense -/

@[simp] theorem lastShown_some {p : Part} {s : Polarity} (h : p.pins.loop = some s) : lastShown p = some s := by
  simp [lastShown, h]
@[simp] theorem lastShown_none {p : Part} (h : p.pins.loop = none) : lastShown p = p.lu.shown := by
  simp [lastShown, h]

/-- A reading that is no change has no effect. -/
theorem senseLoop_same (p : Part) : senseLoop p.pins.loop p = p := by simp [senseLoop]

/-- AWAIT_ANSWER is entered with a return to wait for just when the polarity shown last opposes the reference. -/
theorem enterAwaitAnswer_mustReturn (p : Part) :
    (enterAwaitAnswer p).lu.mustReturn = opposes (lastShown p) p := rfl

end Sys2Proof.Machine
end

