-- ==== Sys2Proof/Tests/Slice0.lean ====
section
/-!
SUPPORT. Tests: the ill-formed commands that WellFormed refuses; the manual's worked cases (each names its place in
spec/); single steps on small states; and for each statement with hypotheses a state and operands that meet them.
-/

namespace Sys2Proof.Tests
open Sys2Proof Sys2Proof.Machine

/-! ## Small states -/

/-- Line settings: tone dialling, answer by reversal. -/
def tones : LineSettings :=
  { pulse := false, policy := .auto, timed := false, depth := 2, threshold := 120, inCall := true }

/-- A part after its start: windows at the built-in bases, no profile load, the account loaded, the dump ended, the line
IDLE, the debouncers settled. -/
def ready : Part :=
  { Part.reset with
    tick := 100000
    bpu := { Bpu.fresh with windows := some builtInBases, load := none, waiting := [] }
    rlu := { Rlu.fresh with dump := .ended }
    cau := { Cau.fresh with load := .ended, capacity := some 500, vc := some 500, scrub := none }
    lu := { Lu.fresh with line := .idle, clearing := none, settings := some tones }
    cru := { Cru.fresh with door := some false, key := some false, hookQuiet := none, number := some [0, 8, 0, 0],
                            identity := some [4, 0, 2, 6, 1, 3] } }

def at_ (p : Part) : State := { part := p, pending := [] }

/-- The state after a command that answers a next state. -/
def after (c : Instr) (p : Part) : Option Part :=
  match exec c (at_ p) with
  | .next t => some t.part
  | .fault _ => none
  | .refused _ => none

/-- A timer that has just run out. -/
def out : Option Timer := some { start := 90000, limit := 10000 }

/-- Coin type 3 of the worked cases, with adaptive nominals. -/
def typeThree (d : Nat) : CoinSlot :=
  { type := { value := 50, dp := 20000, ap := 31000, dd := 600, da := 600, enabled := true }, d, a := 31000 }

def oneType : CoinTable := { slots := [typeThree 20000], tmin := 10, tmax := 500, cluster := 24 }

/-- The service key ON. -/
def inService : Part := { ready with cru.key := some true }

/-- A call that the customer is making. -/
def freeCall : PlacedCall :=
  { cls := .freeClass, index := 0, entry := none, digits := [1, 1, 2], startTime := none, answer := none,
    collected := 0, ending := none }

def calling : Part :=
  { ready with
    cc := { Cc.fresh with off := true, call := .placing, placed := some freeCall }
    lu.line := .awaitAnswer
    lu.owner := .customer
    lu.copy := ready.lu.settings
    lu.reference := some .normal
    lu.answerLimit := out
    pins.loop := some .normal }

/-- A call in GRACE. -/
def inGrace : Part := { calling with cc.call := .grace, cc.grace := out }

/-- A report record of HANDSET_CUT (spec/12_record_and_frame_layouts.md, the worked frame). -/
def cut (sending : Bool) (slot : Nat) : ReportRecord :=
  { kind := .condition .handsetCut, sending, sequence := 1, count := 1, first := some (3, 50530),
    last := some (3, 50530), detail := 1, attempts := 0, sent := none, updated := false, firstMerge := none, slot }

/-- A report call: its line, and its kept identity. -/
def reporting : Part :=
  { ready with
    lu.owner := .report
    lu.line := .awaitAck
    lu.copy := ready.lu.settings
    lu.ackWait := out
    lu.pause := out
    lu.announced := true
    cru.report := some { identity := [4, 0, 2, 6, 1, 3], sends := 1, accepted := 0 } }

/-- A refund under way with one coin on the rail. -/
def refunding : Part :=
  { ready with
    rlu := { Rlu.fresh with dump := .ended, gate := .refunding, cycle := out, rail := [{ type := 1, value := 20 }],
                            refund := some 1 }
    cau.money := { Money.zero with accepted := 20, railCount := 1, railTypes := [1] } }

/-- A collect under way for a charge of 100 with two coins on the rail. -/
def collecting : Part :=
  { ready with
    rlu := { Rlu.fresh with
      dump := .ended, gate := .vaulting, cycle := out, rail := [{ type := 3, value := 50 }, { type := 3, value := 50 }]
      charge := some { amount := 100, collecting := true } }
    cau.money := { Money.zero with accepted := 100, railCount := 2, railTypes := [3, 3] } }

/-- A tariff entry of 70 units a minute in band 0 and none in band 3. -/
def localEntry : TariffEntry := { digits := [2, 0, 0, 0, 0, 0, 0, 0], length := 1, cls := 2, c0 := 10, rates := [70, 70, 70, 0] }

def lockedEntry : CacheEntry :=
  { valid := true, key := [2], copy := localEntry, index := 0, locked := true, stale := false, age := 0 }

/-- A charged call at the end tick of its first step. -/
def charged : Part :=
  { calling with
    cc := { calling.cc with call := .talking, placed := some { freeCall with cls := .localClass, entry := some 0 },
                            paid := true, steps := 1, charged := 20 }
    rlu := { Rlu.fresh with dump := .ended, banked := 30 }
    cau.money := { Money.zero with accepted := 50, collected := 50, charged := 20, banked := 30 }
    rtu := { Rtu.fresh with
      cache := [lockedEntry], steps := some (10, 5)
      timing := { Timing.fresh with state := .running, index := 1, start := 91429, finish := 100000, carry := 30 } } }

/-- A customer with the digit 2, and a rate cache that holds one entry. -/
def dialling (e : CacheEntry) : Part :=
  { ready with
    cc := { Cc.fresh with off := true, call := .collecting, digits := [2] }
    rtu := { Rtu.fresh with cache := e :: List.replicate 7 CacheEntry.invalid, steps := some (10, 5) } }

/-- The words of a table entry: prefix 2, LOCAL, 10 units to connect, 70 a minute but in band 3. -/
def localWords : List Word := [0x0002, 0, 0x0201, 10, 70, 70, 70, 0]

/-- A lookup scan of a table of one entry, whose read is at the port; the check word is right. -/
def scanning (number : List Nat) : Part :=
  { ready with
    bpu.port := some (.read { purpose := .scanEntry 0, limit := none } false), bpu.inFlight := some 1
    bpu.result := .pending
    cc := { Cc.fresh with off := true, call := .rating, digits := number }
    rtu := { Rtu.fresh with
      engine := .lookup number 0, steps := some (10, 5)
      scan := { Scan.fresh with count := 1, sum := 1, check := ~~~(1 + sumWords localWords) } } }

/-- The records of a good profile. -/
def goodRecords : List (Word × List Word) :=
  [(0x5742, [0x0400, 2, 0xFF00, 1, 0xFF08, 1, 0xFE00, 1, 0xF800, 1, 0xF680, 1, 0xF700, 1]), (0x5049, [0x6204, 0x0031]),
   (0x4354, [50, 20000, 31000, 600, 600, 1]), (0x4350, [10, 500, 9999]), (0x5643, [500]), (0x5353, [10, 5]),
   (0x4C4E, [0, 0, 0, 2, 120, 1]), (0x524E, [4, 0x0080, 0, 0, 0]),
   (0x4243, [1, 0, 3, 1, 0, 3, 1, 0, 3, 1, 0, 3, 1, 0, 3, 1, 0, 3, 1, 0, 3])]

/-- Its records as the loader keeps them. -/
def goodProfile : List ProfileRecord := goodRecords.map fun r => { key := keyOf r.1, data := r.2 }

/-- The detail with which a profile is found bad. -/
def faultOf : Except Nat Profile → Option Nat
  | .error e => some e
  | .ok _ => none

/-- Records 1 to 4 of an account read from their slots, the last one at the port. -/
def loaded (types : List Nat) : Part :=
  { ready with
    bpu.port := some (.read { purpose := .startLoad 4 4, limit := none } false)
    cau.load := .reading 4
    cau.money := { Money.zero with
      accepted := 150, collected := 30, charged := 10, banked := 20, railCount := types.length, railTypes := types }
    rlu := Rlu.fresh
    cu.table := some oneType }

/-- The start-up dump, with this rail and this many unbooked returns behind it. -/
def dumping (rail : List Coin) (n : Nat) : Part :=
  { refunding with rlu.rail := rail, rlu.refund := none, rlu.dump := .running n }

/-- The scrubber's read of record 1 on a slot that a strike stands on. -/
def struck : Part :=
  { ready with
    bpu.port := some (.read { purpose := .scrub 1 1, limit := none } false)
    cau.turn := some { record := 1, slot := 1, touched := false }
    cau.strikes := (List.replicate 9 none).set 1 (some 3)
    cau.pass := 11 }

/-! ## WellFormed refuses -/

theorem test_wf_argument_zero : (Instr.argumentWrite 0 0).wellFormed = false := by decide
theorem test_wf_argument_five : (Instr.argumentWrite 5 0).wellFormed = false := by decide
theorem test_wf_unknown_is_known : (Instr.unknownCommand 10).wellFormed = false := by decide
theorem test_wf_account_offset : (Instr.accountWrite 216 0).wellFormed = false := by decide
theorem test_wf_profile_offset : (Instr.profileWrite 1024 0).wellFormed = false := by decide
theorem test_wf_tariff_offset : (Instr.tariffWrite 1602 0).wellFormed = false := by decide
theorem test_wf_profile_words : (Instr.profileReadDone []).wellFormed = false := by decide
theorem test_wf_entry_words : (Instr.scanEntryRead [0]).wellFormed = false := by decide
theorem test_wf_slot_words : (Instr.startLoadSlotRead [0] true).wellFormed = false := by decide
theorem test_wf_scrub_words : (Instr.scrubReadDone (List.replicate 25 0)).wellFormed = false := by decide
theorem test_decode_none : decodeTableWord 16 0x0001 = none := by decide

/-! ## The manual's worked cases -/

/-- spec/03_the_cash_account.md, the example of R39. -/
theorem test_account_check :
    accountCheck 4 [0x1234] = 0xEDC7 ∧ accountCheck 3 [0x1234] = 0xEDC8 := by decide

/-- spec/05_tariffs_and_the_rate_cache.md, the example of R77: N = 2, a sum of 0x3A10, and the check word 0xC5EF. -/
theorem test_table_check :
    verdictOf { Scan.fresh with count := 2, sum := 0x3A10, check := 0xC5EF } = none
      ∧ verdictOf { Scan.fresh with count := 2, sum := 0x3A10, check := 0xC5EE } = some 2
      ∧ verdictOf { Scan.fresh with count := 8, sum := 0x3A10, check := 0xC5EF, outOfRange := some 7 } = some 107 := by
  decide

/-- The table of spec/05_tariffs_and_the_rate_cache.md, "Worked case: longest prefix". -/
def workedTable : List TariffEntry :=
  [{ digits := [0], length := 1, cls := 3, c0 := 20, rates := [140, 140, 100, 70] },
   { digits := [0, 7], length := 2, cls := 4, c0 := 30, rates := [300, 300, 240, 240] },
   { digits := [0, 0], length := 2, cls := 5, c0 := 50, rates := [900, 900, 900, 600] },
   { digits := [0, 9, 0, 0], length := 4, cls := 6, c0 := 0, rates := [0, 0, 0, 0] },
   { digits := [0, 7], length := 2, cls := 2, c0 := 10, rates := [70, 70, 70, 70] },
   { digits := [2], length := 1, cls := 2, c0 := 10, rates := [70, 70, 70, 0] }]

/-- What a result shows in that case: its class, and the index that it carries. -/
def shown : Rating → CallClass × Option Nat
  | .free i => (.freeClass, some i)
  | .rated c => (classOf c.copy.cls, some c.index)
  | .barred c => (.barredClass, c.map (·.index))
  | .tariffBad => (.noClass, none)
  | .unavailable => (.noClass, none)

/-- The same place: 0712345678 is RATED, 0900555 BARRED with index 3, 5551234 and 11 BARRED with no index. -/
theorem test_longest_prefix :
    let rate := fun number => shown (scanResult none number (bestOf number 0 workedTable none) ready).1
    rate [0, 7, 1, 2, 3, 4, 5, 6, 7, 8] = (.mobileClass, some 1) ∧ rate [0, 9, 0, 0, 5, 5, 5] = (.barredClass, some 3)
      ∧ rate [0, 9, 0] = (.nationalClass, some 0) ∧ rate [1, 1] = (.barredClass, none)
      ∧ rate [2] = (.localClass, some 5) ∧ rate [5, 5, 5, 1, 2, 3, 4] = (.barredClass, none) := by decide

/-- R87: a hit on a BARRED entry carries its copy, its table index and its entry number. -/
theorem test_barred_hit :
    let copy := { localEntry with cls := 6 }
    (answerAtTaking [2] (dialling { lockedEntry with locked := false, index := 3, copy })).map (·.1) =
      some (.barred (some { copy, index := 3, entry := 0 })) := by decide

/-- spec/12_record_and_frame_layouts.md, the computed frame: * 402613 07 1 001 3 0842 00001 3 #. -/
theorem test_frame : frameOf [4, 0, 2, 6, 1, 3] (cut false 0) =
    [10, 4, 0, 2, 6, 1, 3, 0, 7, 1, 0, 0, 1, 3, 0, 8, 4, 2, 0, 0, 0, 0, 1, 3, 11] := by decide

/-- spec/01_coin_validation.md, "Worked case: nominal movement and clamp". -/
theorem test_nominal_moves :
    moveNominal 20100 20010 20000 600 = 20015 ∧ moveNominal 19500 20015 20000 600 = 19983
      ∧ moveNominal 20850 20290 20000 600 = 20300 ∧ moveNominal 20900 20300 20000 600 = 20300 := by decide

/-- The same place: 19,000 against 19,983 matches nothing. -/
theorem test_no_match :
    classifyCoin { oneType with slots := [typeThree 19983] } { d := 19000, a := 31000, t := 100 } = .reject .noMatch := by
  decide

/-- spec/06_charging_arithmetic.md, "Worked case: durations and clamps": s = 10, r = 70. -/
theorem test_step_durations :
    stepDuration 10 70 0 = (8571, 30) ∧ stepDuration 10 70 30 = (8571, 60) ∧ stepDuration 10 70 60 = (8572, 20)
      ∧ runSteps 10 70 5 0 = (42857, 10) ∧ stepDuration 1 60000 0 = (500, 0)
      ∧ stepDuration 1000 10 0 = (3600000, 0) := by decide

/-- spec/06_charging_arithmetic.md, the calendar of R94. -/
theorem test_band :
    let day := [(0, 3), (28800, 0), (64800, 2), (79200, 3)]
    bandAt 28799 0 day = 3 ∧ bandAt 28800 0 day = 0 ∧ bandAt 79199 0 day = 2 ∧ bandAt 79200 0 day = 3 := by decide

/-- R188: digits are packed first digit lowest; UNSET is 0 and 0xFFFF. -/
theorem test_packing :
    packDigits 2 [1, 2, 3, 4, 5] = [0x4321, 0x0005] ∧ wallWords none = [0, 0xFFFF]
      ∧ wallWords (some (3, 70000)) = [4464, 7] := by decide

/-- R169: an outer limit of the count and an UNSET last raise. -/
theorem test_frame_limits :
    (frameDigits [0, 0, 0, 0, 0, 0] { cut false 0 with count := 65535, last := none, detail := 65535 }).drop 9
      = [9, 9, 9, 9, 9, 9, 9, 9, 6, 5, 5, 3, 5] := by decide

/-- R146: with all 64 slots held, writing the consumer index unchanged frees them all. -/
theorem test_freed :
    freedBy 5 5 64 = 64 ∧ freedBy 5 5 3 = 0 ∧ freedBy 2 60 10 = 6 := by decide

/-- R3: of two matching types at one distance the lower number wins, and a disabled winner takes the coin. -/
theorem test_classify_tie :
    classifyCoin { oneType with slots := [typeThree 19900, typeThree 20100] } { d := 20000, a := 31000, t := 10 }
        = .valid 1 50
      ∧ classifyCoin { oneType with slots :=
          [{ typeThree 20000 with type := { (typeThree 20000).type with enabled := false } }] }
        { d := 20600, a := 31000, t := 500 } = .disabled 1 50
      ∧ classifyCoin oneType { d := 20000, a := 31000, t := 9 } = .reject .transit := by decide

/-! ## Single steps -/

/-- R56: the word of a pass write is in memory. -/
theorem test_pass_write : (after (.hostPassWrite 0x100 0xBEEF) ready).map (fun p => readWord p.mem 0x100)
    = some 0xBEEF := by decide +kernel

/-- R60: a write to the last word of the ACCOUNT window raises ACCOUNT_TAMPER with detail 215. -/
theorem test_account_tamper : (after (.accountWrite 215 7) ready).map (fun p => (rowOf .accountTamper p).detail)
    = some 215 := by decide +kernel

/-- R177: code 11 answers UNKNOWN with command number 1. -/
theorem test_unknown : (after (.unknownCommand 11) ready).map (fun p => (p.bpu.result, p.bpu.number))
    = some (.unknown, 1) := by decide +kernel

/-- R180: day 6 at second 86,399 is taken, and day 7 refused. -/
theorem test_set_time :
    (after .setTime { ready with bpu.arg1 := 6, bpu.arg2 := 20863, bpu.arg3 := 1 }).map
        (fun p => (p.rtu.clock, p.bpu.result)) = some (some (6, 86399), .done)
      ∧ (after .setTime { ready with bpu.arg1 := 6, bpu.arg2 := 20864, bpu.arg3 := 1 }).map
        (fun p => (p.rtu.clock, p.bpu.result)) = some (none, .range) := by decide +kernel

/-- R92: the last second of day 6 is followed by second 0 of day 0. -/
theorem test_midnight :
    (after .clockSecond { ready with rtu.clock := some (6, 86399), rtu.second := 99000 }).map (fun p => p.rtu.clock)
      = some (some (0, 0)) := by decide +kernel

/-- R6, R8: a coin joins the rail with its value. -/
theorem test_coin_joins :
    (after (.coinMeasurement 20100 31000 100) { ready with cu.table := some oneType, cc.off := true }).map
      (fun p => (p.rlu.rail, p.cau.money.accepted, p.cu.event.reason)) = some ([{ type := 1, value := 50 }], 50, .none)
    := by decide +kernel

/-- R22, R29: a collect whose charge is then covered answers it, and the surplus stays banked. -/
theorem test_collect_pays :
    (after .vaultConfirm { collecting with
      rlu.charge := some { amount := 20, collecting := true }, cc.call := .talking }).map
      (fun p => (p.rlu.banked, p.rlu.rail.length, p.cau.money.charged, p.cau.money.vaultCount))
        = some (30, 1, 20, 1) := by decide +kernel

/-- R23, R33: the last coin of a refund. -/
theorem test_refund_ends :
    (after (.returnConfirm false) refunding).map (fun p => (p.rlu.rail, p.rlu.gate, p.rlu.refund, p.cau.money.refunded))
      = some ([], .hold, none, 20) := by decide +kernel

/-- R24: a refund cycle without its confirm. -/
theorem test_confirm_missing :
    (after .confirmLimitExpiry refunding).map
      (fun p => (p.rlu.gate, p.cau.money.suspense, (rowOf .coinJam p).detail, p.cru.restriction))
        = some (.fault, 20, 21, .coinsRefused) := by decide +kernel

/-- R96, R98: step 2 at s = 10, r = 70 starts at the first step's end and takes 8,571 ms. -/
theorem test_second_step :
    (after .stepEnd charged).map (fun p => (p.rtu.timing.index, p.rtu.timing.finish, p.rtu.timing.carry, p.rlu.banked))
      = some (2, 108571, 60, 20) := by decide +kernel

/-- R113 to R115: current in SEIZING begins the search two steps below the last good one. -/
theorem test_current_seen :
    (after (.loopCurrentChange (some .inverted)) { ready with lu.line := .seizing, lu.owner := .customer, lu.lastGood := 8 }).map
      (fun p => (p.lu.line, p.lu.gain)) = some (.searching, 6) := by decide +kernel

/-- R119: digit 0 takes ten breaks. -/
theorem test_digit_zero : breaksOf 0 = 10 ∧ breaksOf 7 = 7 := by decide

/-- R151, R157: the key ON holds the restriction at NO_CALLS. -/
theorem test_service : (after (.keyDebounced true) ready).map (fun p => p.cru.restriction) = some .noCalls := by
  decide +kernel

/-- R153: HANDSET_CUT carries the hook state. -/
theorem test_cord : (after (.cordTimerExpiry true) { ready with cc.off := true }).map
    (fun p => (rowOf .handsetCut p).detail) = some 1 := by decide +kernel

/-- R154: the fifth pulse within 60 s raises SHOCK. -/
theorem test_shock :
    (after .shockPulse { ready with cru.pulses := [50000, 60000, 70000, 80000] }).map
      (fun p => ((rowOf .shock p).detail, isActive .shock p)) = some (5, true) := by decide +kernel

/-- R135: a lift begins COLLECTING. -/
theorem test_lift : (after (.hookDebounced true) ready).map (fun p => (p.cc.call, p.cc.off))
    = some (.collecting, true) := by decide +kernel

/-- R142, R144: a call that no one answers leaves its record. -/
theorem test_no_answer :
    (after .answerTimeout calling).map (fun p => (p.cc.call, p.cc.heldCount, p.lu.line, p.cau.calls.attempts))
      = some (.collecting, 1, .clearing, 1) := by decide +kernel

/-! ## The hypotheses of the statements are met -/

theorem ready_host : HostReady builtInBases ready := by unfold HostReady; decide

theorem test_witness_IdleStepPasses : (at_ ready).pending = [] := by decide

theorem test_witness_PassWritesStoredOrHeld :
    let p := { calling with cc.call := .talking, lu.line := .connected }
    HostReady builtInBases ready ∧ Memory.wf ready.mem = true ∧ windowAt (0x3FFFF : Addr).toNat ready = none
      ∧ Part.reset.bpu.load = some .start ∧ Part.reset.bpu.hostQueue = [] ∧ HostReady builtInBases p
      ∧ Memory.wf p.mem = true ∧ p.cc.call = .talking ∧ (15 : Word).toNat ≤ 15 ∧ p.lu.settings = some tones
      ∧ tones.inCall = true ∧ p.lu.line = .connected ∧ p.lu.owner = .customer ∧ p.lu.inCall = []
      ∧ p.lu.copy = some tones ∧ tones.pulse = false ∧ p.lu.sender.phase = .idle
      ∧ ({ p with lu.sender.phase := .gap } : Part).lu.sender.phase ≠ .idle :=
  ⟨ready_host, rfl, by decide, rfl, rfl, ready_host, by decide⟩

/-- An access that arrives while a run is on the port. -/
theorem test_witness_PassWritesStoredOrHeld_busy :
    let p := { ready with bpu.port := some (.read { purpose := .scrub 1 1, limit := none } false) }
    p.bpu.load ≠ some .start ∧ p.bpu.hostQueue = [] ∧ p.bpu.port.isSome = true ∧ windowAt 0x100 p = none := by decide

theorem test_witness_ArgumentWriteCopies :
    HostReady builtInBases ready ∧ Memory.wf ready.mem = true ∧ 1 ≤ 1 ∧ 4 ≤ 4 := ⟨ready_host, by decide⟩

theorem test_witness_DialWordCollects :
    let p := { ready with cc.call := .collecting, cc.digits := List.replicate 20 1, cc.ignored := 255 }
    HostReady builtInBases p ∧ Memory.wf p.mem = true ∧ p.cc.call ≠ .talking ∧ p.cc.digits.length ≤ 20
      ∧ p.cc.ignored ≤ 255 := ⟨ready_host, by decide⟩

theorem test_witness_ConsumerIndexFrees :
    HostReady builtInBases ready ∧ Memory.wf ready.mem = true ∧ (63 : Word).toNat < 64 := ⟨ready_host, by decide⟩

theorem test_witness_ChangeWordClears :
    ready.bpu.windows = some builtInBases ∧ wellPlaced builtInBases = true ∧ ready.bpu.load ≠ some .start
      ∧ ready.bpu.hostQueue = [] := by decide

theorem test_witness_SuppressedWritesCaptured :
    ready.bpu.load ≠ some .start ∧ ready.bpu.hostQueue = []
      ∧ windowAt (0x1FF05 : Addr).toNat ready = some (.mailbox, 5)
      ∧ windowAt (0x1FF00 : Addr).toNat { ready with bpu.inFlight := some 5 } = some (.mailbox, 0)
      ∧ windowAt (0x1FF87 : Addr).toNat ready = some (.status, 127)
      ∧ windowAt (0x1F800 : Addr).toNat ready = some (.callRing, 0)
      ∧ windowAt (0x1F6FF : Addr).toNat ready = some (.reportRing, 127)
      ∧ windowAt (0x1F7FF : Addr).toNat ready = some (.mapDump, 255)
      ∧ ({ ready with bpu.inFlight := some 5 } : Part).bpu.inFlight.isSome = true
      ∧ ready.bpu.windows = some builtInBases ∧ wellPlaced builtInBases = true
      ∧ (Instr.testReport, (10 : Word)) ∈ [(Instr.dial, (1 : Word)), (.release, 2), (.setTime, 3), (.setAttention, 4),
          (.mapDump, 5), (.vaultCleared, 6), (.reloadProfile, 8), (.reportNow, 9), (.testReport, 10)] := by
  decide +kernel

theorem test_witness_AccountWriteTampers :
    ready.bpu.windows = some builtInBases ∧ ready.bpu.load ≠ some .start ∧ ready.bpu.hostQueue = []
      ∧ ready.cru.rows.length = 14 ∧ 215 < 216 := by decide

theorem test_witness_FlashWindowWritesPass :
    let last := { scanning [2] with bpu.port := none, rtu.engine := .lookup [2] 3 }
    HostReady builtInBases ready ∧ Memory.wf ready.mem = true ∧ 1023 < 1024 ∧ 1601 < 1602
      ∧ ready.rtu.engine = .idle
      ∧ HostReady builtInBases { ready with rtu.engine := .lookup [2] 2 } ∧ 2 < 3 ∧ HostReady builtInBases last
      ∧ last.rtu.engine = .lookup [2] 3 ∧ last.rtu.verifyDue = false ∧ last.bpu.inFlight = some 1
      ∧ last.bpu.result = .pending ∧ last.cc.call = .rating
      ∧ HostReady builtInBases { ready with rtu.engine := .verify } :=
  ⟨ready_host, by decide, by decide, by decide, by decide, ready_host, by decide, ready_host, rfl, rfl, rfl, rfl, rfl,
    ready_host⟩

theorem test_witness_CaptureUnlocks :
    HostReady builtInBases { ready with bpu.capture.locked := true }
      ∧ (0x1FF3B : Addr).toNat = builtInBases.status + 51 := ⟨ready_host, by decide⟩

theorem test_witness_StartsReset :
    Memory.wf ready.mem = true ∧ ready.bpu.hostQueue = [] := by decide

theorem test_witness_AttentionFollowsAlways :
    attentionFollows Part.reset ∧ step State.reset = .next (idleTick State.reset) :=
  ⟨by unfold attentionFollows; decide, rfl⟩

theorem test_witness_RestrictionDerivedAlways :
    restrictionHolds Part.reset ∧ step State.reset = .next (idleTick State.reset) :=
  ⟨by unfold restrictionHolds; decide, rfl⟩

theorem test_witness_BandFollowsClock :
    bandHolds Part.reset ∧ step State.reset = .next (idleTick State.reset) := ⟨by unfold bandHolds; decide, rfl⟩

theorem test_witness_MemoryStaysCanonical :
    memoryCanonical { ready with mem := [(3, 1), (5, 2)] }
      ∧ step (at_ ready) = .next (idleTick (at_ ready)) := ⟨by unfold memoryCanonical; decide, rfl⟩

theorem test_witness_CreditStaysWithin :
    creditWithin { ready with rlu.rail := List.replicate 8 { type := 1, value := 1000 }, rlu.banked := 1999 }
      ∧ step (at_ ready) = .next (idleTick (at_ ready)) := ⟨by unfold creditWithin; decide, rfl⟩

theorem test_witness_CallRingStaysWhole :
    callRingWhole { ready with cc.producer := 5, cc.consumer := 5, cc.heldCount := 64 }
      ∧ step (at_ ready) = .next (idleTick (at_ ready)) := ⟨by unfold callRingWhole; decide, rfl⟩

theorem test_witness_ReportQueueStaysSound :
    reportQueueSound { ready with cru.queue := [cut true 3] }
      ∧ step (at_ ready) = .next (idleTick (at_ ready)) := ⟨by unfold reportQueueSound; decide, rfl⟩

theorem test_witness_StartKeepsOrder :
    startOrder Part.reset ∧ startOrder ready ∧ step State.reset = .next (idleTick State.reset) :=
  ⟨by unfold startOrder; decide, by unfold startOrder; decide, rfl⟩

theorem test_witness_AcceptedMoneyBalances :
    startOrder collecting ∧ acceptedBalances collecting ∧ collecting.rlu.dump ≠ .waiting
      ∧ step (at_ collecting) = .next (idleTick (at_ collecting)) ∧ (idleTick (at_ collecting)).part.rlu.dump ≠ .waiting :=
  ⟨by unfold startOrder; decide, by unfold acceptedBalances; decide, by decide, rfl, by decide +kernel⟩

theorem test_witness_CollectedMoneyBalances :
    startOrder charged ∧ charged.rlu.dump ≠ .waiting ∧ collectedBalances charged ∧ bankedAgrees charged
      ∧ step (at_ charged) = .next (idleTick (at_ charged)) :=
  ⟨by unfold startOrder; decide, by decide, by unfold collectedBalances; decide, by unfold bankedAgrees; decide, rfl⟩

/-- The three outcomes of classification, at the limits of the transit window and of the tolerance. -/
theorem test_witness_CoinsClassified :
    (9 < oneType.tmin ∨ oneType.tmax < 9) ∧ oneType.tmin ≤ 10 ∧ 500 ≤ oneType.tmax
      ∧ (∀ c ∈ oneType.slots, ¬ (distance 20601 c.d ≤ c.type.dd ∧ distance 31000 c.a ≤ c.type.da))
      ∧ oneType.slots[0]? = some (typeThree 20000)
      ∧ withinTolerance { d := 20600, a := 30400, t := 500 } (typeThree 20000) ∧ 65535 ≤ 65535 := by
  unfold withinTolerance; decide

theorem test_witness_StepDurations :
    0 < 70 ∧ 69 < 70 ∧ 500 * 70 ≤ 60000 * 10 ∧ 60000 * 10 + 70 ≤ 3600000 * 70
      ∧ (60000 * 1 + 59999) / 60000 < 500 ∧ 3600000 < (60000 * 1000 + 0) / 10 := by decide

/-- Frames at the limits of a wall time; a full queue of urgent and of routine records; a report call at its loop limit,
after a third send, and before its eighth acceptance. -/
theorem test_witness_FrameWellFormed :
    let full (k : Condition) : Part :=
      { ready with cru.queue := (List.range 8).map fun i => { cut false i with kind := .condition k } }
    let sent := { reporting with
      cru.queue := [cut true 0], cru.report := some { identity := [4, 0, 2, 6, 1, 3], sends := 3, accepted := 7 } }
    let merged := { cut true 0 with updated := true, count := 3, sent := some 1, firstMerge := some none }
    let again := { reporting with cru.queue := [merged] }
    let seizing := { reporting with lu.line := .seizing, lu.loopLimit := out }
    ([4, 0, 2, 6, 1, 3] : List Nat).length = 6 ∧ (∀ d ∈ [4, 0, 2, 6, 1, 3], d ≤ 9) ∧ validWall (cut false 0).last
      ∧ validWall (none : WallTime) ∧ validWall (some (6, 86399))
      ∧ (full .tariffBad).cru.queue.length = 8 ∧ isActive .vaultForced (full .tariffBad) = false
      ∧ (ReportKind.condition .vaultForced).urgent = true
      ∧ ((full .tariffBad).cru.queue.find? fun r => !r.sending && !r.kind.urgent).isSome = true
      ∧ (∀ r ∈ (full .tariffBad).cru.queue, r.kind ≠ .condition .vaultForced)
      ∧ (ReportKind.condition .tariffBad).urgent = false
      ∧ (∀ r ∈ (full .vaultForced).cru.queue, r.sending = true ∨ r.kind.urgent = true)
      ∧ (full .vaultForced).cru.rows.length = 14
      ∧ seizing.cru.report.isSome = true ∧ due seizing.lu.loopLimit seizing ∧ seizing.lu.failedSeizes < 2
      ∧ seizing.cau.load = .ended ∧ sent.lu.owner = .report ∧ sent.cru.queue.find? (·.sending) = some (cut true 0)
      ∧ due sent.lu.ackWait sent ∧ sent.lu.line = .awaitAck ∧ (cut true 0).updated = false
      ∧ again.cru.queue.find? (·.sending) = some merged ∧ again.lu.announced = true ∧ merged.updated = true
      ∧ nextRecord [{ merged with
          sending := false, sequence := 1, count := max 1 (3 - 1), first := none, attempts := 0, sent := none
          updated := false, firstMerge := none }] = some { merged with
          sending := false, sequence := 1, count := 2, first := none, attempts := 0, sent := none, updated := false
          firstMerge := none } := by
  and_intros <;> first | exact ⟨_, rfl, by decide⟩ | trivial

/-- A report call's third failed seize, at the loop limit and at the search limit, with room in the queue. -/
theorem test_witness_FrameWellFormed_third :
    let p := { reporting with
      lu.line := .seizing, lu.loopLimit := out, lu.searchLimit := out, lu.failedSeizes := 2, cru.queue := [cut false 0] }
    p.cru.report.isSome = true ∧ p.lu.owner = .report ∧ p.cau.load = .ended ∧ 2 ≤ p.lu.failedSeizes
      ∧ seizeEnds .loopLimitExpiry 2 p ∧ seizeEnds .searchLimitExpiry 3 p ∧ isActive .lineDown p = false
      ∧ (∀ r ∈ p.cru.queue, r.kind ≠ .condition .lineDown) ∧ p.cru.queue.length < 8 :=
  ⟨rfl, rfl, rfl, by decide, .inl ⟨rfl, rfl, _, rfl, by decide⟩, .inr ⟨rfl, rfl, _, rfl, by decide⟩, by decide, by decide,
    by decide⟩

theorem test_witness_FieldsReadBack :
    let c : Cau := ready.cau
    ([15, 0, 9, 11, 10] : List Nat).length ≤ 4 * 2 ∧ (∀ d ∈ [15, 0, 9, 11, 10], d < 16)
      ∧ validWall (some (6, 86399)) ∧ 0 < 65536 ∧ 4 < 65536 ∧ 0 ≠ 4 ∧ moneyFits collecting.cau.money
      ∧ c.relocations = [] ∧ c.header.slots.length = 4 ∧ (∀ s ∈ c.header.slots, s < 16)
      ∧ (∀ s ∈ [1, 8], 1 ≤ s ∧ s ≤ 8) ∧ c.header.spares < 65536 ∧ c.types.vault.length = 8
      ∧ c.types.returned.length = 6 ∧ (∀ n ∈ c.types.vault, n < 65536) ∧ (∀ n ∈ c.types.returned, n < 65536)
      ∧ validWall c.last.latest.time ∧ validWall c.last.previous.time ∧ c.last.latest.count < 65536
      ∧ c.last.previous.count < 65536 := by
  unfold moneyFits
  and_intros <;> trivial

/-- A relocation of record 1 from slot 1 to slot 5, in progress. -/
def relocating : Part :=
  { ready with
    cau.header := { slots := [5, 2, 3, 4], retired := [1], spares := 3 }
    cau.relocations := [{ record := 1, oldSlot := 1, newSlot := 5 }] }

theorem test_witness_FieldsReadBack_relocation :
    let h := relocating.cau.header
    h.slots.length = 4 ∧ (∀ s ∈ h.slots, s < 16) ∧ (∀ s ∈ h.retired, 1 ≤ s ∧ s ≤ 8) ∧ h.spares < 65535
      ∧ relocating.cau.relocations = [{ record := 1, oldSlot := 1, newSlot := 5 }] ∧ h.slots.Nodup
      ∧ h.slots[4 - 1]? = some 4 ∧ h.slots[1 - 1]? = some 5 := by decide

/-- Figures at the ends of their ranges: eight coins on the rail, 9,999 units, a band of 3, twenty digits, a full ring. -/
def published : Part :=
  { ready with
    rlu := { Rlu.fresh with dump := .ended, banked := 9991, rail := List.replicate 8 { type := 15, value := 1 } }
    rtu.clock := some (6, 86399), rtu.band := 3, rtu.timing.band := 3
    cc := { Cc.fresh with
      digits := List.replicate 20 15, ignored := 255, producer := 63, consumer := 63, heldCount := 64, lost := 65535
      records := [(63, .collection { time := some (6, 86399), value := 0, count := 65535 }), (0, .start .line none),
                  (1, .call { outcome := .busy, cls := .localClass, index := 65535, digits := [2, 15], startTime := none
                              answered := some (65535, 3), steps := 7, charged := 9, collected := 65535
                              toRefund := 8 })] }
    cu.event := { type := 15, value := 65535, toRail := true, reason := .gateFault, d := 1, a := 2, t := 3 }
    bpu.refused := 65535, bpu.capture.further := 65535
    cau.mismatches := [65535, 0, 0, 0, 1], cau.faulted := [0, 4]
    cru.failures := 255, cru.dropped := 65535
    cru.rows := List.replicate 14 { active := true, count := 255, last := some (some (6, 86399)), detail := 65535 }
    cru.queue := [{ cut true 7 with sent := some 65535, firstMerge := some none }] }

theorem test_witness_FieldsReadBack_published : statusFits published := by
  have rows : published.cru.rows.length = 14
      ∧ ∀ r ∈ published.cru.rows, r.count ≤ 255 ∧ r.detail < 65536 ∧ ∀ t, r.last = some t → validWall t := by
    refine ⟨by decide, fun r hr => ?_⟩
    rw [List.eq_of_mem_replicate hr]
    exact ⟨by decide, by decide, fun t ht => Option.some.inj ht ▸ ⟨by decide, by decide⟩⟩
  unfold statusFits creditWithin validWall
  and_intros <;> first | exact rows.1 | exact rows.2 | decide

/-- A record of each kind in a ring slot of its own, an empty report slot and one that holds a record. -/
theorem test_witness_FieldsReadBack_rings :
    (∀ e ∈ published.cc.records, ∀ x ∈ published.cc.records, x.1 = e.1 → x = e)
      ∧ (∀ slot c, (slot, RingRecord.call c) ∈ published.cc.records → callFits c)
      ∧ validWall (some (6, 86399)) ∧ 65535 < 65536
      ∧ (∀ r ∈ published.cru.queue, (∀ x ∈ published.cru.queue, x.slot = r.slot → x = r) ∧ reportFits r)
      ∧ ∀ x ∈ published.cru.queue, x.slot ≠ 0 := by
  refine ⟨by decide, fun slot c h => ?_, ⟨by decide, by decide⟩, by decide, fun r hr => ?_, by decide⟩
  · simp [published] at h
    obtain ⟨-, rfl⟩ := h
    exact ⟨by decide, by decide, by decide, trivial, fun a ha => Option.some.inj ha ▸ ⟨by decide, by decide⟩, by decide,
      by decide⟩
  · simp [published] at hr
    subst hr
    refine ⟨by simp [published], by decide, ?_, ?_, by decide, by decide, fun n hn => Option.some.inj hn ▸ by decide,
      fun t ht => Option.some.inj ht ▸ trivial⟩ <;> simp [cut, validWall]

theorem test_witness_ScanChoosesLongest :
    (∀ e ∈ [localEntry], entryMatches [3, 1] e = false) ∧ [localEntry, localEntry][0]? = some localEntry
      ∧ entryMatches [2, 1] localEntry = true := by decide

/-- A cache with an invalid entry, one without; a number that hits a BARRED entry and a LOCAL one, with and without
credit; a lookup scan at its last entry, with a right and a wrong check word, that matches and that does not. -/
theorem test_witness_CacheAgesStayDense :
    let open_ := { lockedEntry with locked := false }
    let p := dialling open_
    let barred := dialling { open_ with copy := { localEntry with cls := 6 } }
    agesDense [lockedEntry, CacheEntry.invalid] ∧ 1 < [lockedEntry, CacheEntry.invalid].length
      ∧ [lockedEntry, CacheEntry.invalid][0]? = some lockedEntry ∧ lockedEntry.valid = true
      ∧ (∃ x ∈ [lockedEntry, CacheEntry.invalid], x.valid = false) ∧ (∀ x ∈ [lockedEntry, open_], x.valid = true)
      ∧ (∃ x ∈ [lockedEntry, open_], x.locked = false)
      ∧ HostReady builtInBases p ∧ p.bpu.inFlight = none ∧ p.cc.call = .collecting ∧ p.cc.off = true
      ∧ p.cc.digits ≠ [] ∧ p.cru.restriction ≠ .noCalls ∧ p.lu.settings = some tones ∧ tones.pulse = false
      ∧ freeIndex p.cc.digits p.rtu.freeList = none ∧ probe (ratingKey p.cc.digits) p.rtu.cache = some 0
      ∧ p.rtu.cache[0]? = some open_ ∧ HostReady builtInBases barred ∧ classOf 6 = .barredClass
      ∧ probe (ratingKey barred.cc.digits) barred.rtu.cache = some 0 ∧ classOf localEntry.cls ≠ .barredClass
      ∧ ({ p with cru.restriction := .freeOnly } : Part).cru.restriction = .freeOnly
      ∧ creditOnHand p < localEntry.c0 + chargeStep p
      ∧ localEntry.c0 + chargeStep p ≤ creditOnHand { p with rlu.banked := 20 }
      ∧ readAtPort (.scanEntry 0) (scanning [2]) ∧ localWords.length = 8
      ∧ 0 + 1 = (scanning [2]).rtu.scan.count
      ∧ (scanning [2]).rtu.scan.check = ~~~((scanning [2]).rtu.scan.sum + sumWords localWords)
      ∧ (0 : Word) ≠ ~~~((scanning [2]).rtu.scan.sum + sumWords localWords)
      ∧ (scanning [2]).rtu.scan.outOfRange = none ∧ entryInRange (entryOf localWords) = true
      ∧ betterMatch [3] 0 (entryOf localWords) none = none
      ∧ betterMatch [2] 0 (entryOf localWords) none = some (0, entryOf localWords)
      ∧ fillTarget (scanning [2]).rtu.cache < (scanning [2]).rtu.cache.length
      ∧ classOf (entryOf localWords).cls = .localClass
      ∧ creditOnHand (scanning [2]) < (entryOf localWords).c0 + chargeStep (scanning [2]) := by
  unfold agesDense
  and_intros <;> first | exact ⟨none, rfl⟩ | decide

/-- A number with a free prefix, one that neither source answers, a fill of a BARRED entry, and a DIAL that a hit
answers at its taking. -/
theorem test_witness_CacheAgesStayDense_results :
    let p := dialling { lockedEntry with locked := false }
    freeIndex [1, 1, 2, 7] [[1, 1, 2]] = some 0 ∧ freeIndex [3] p.rtu.freeList = none
      ∧ probe (ratingKey [3]) p.rtu.cache = none ∧ fillTarget p.rtu.cache < p.rtu.cache.length
      ∧ classOf ({ localEntry with cls := 6 } : TariffEntry).cls = .barredClass
      ∧ HostReady builtInBases p ∧ p.bpu.inFlight = none ∧ p.cc.call = .collecting ∧ p.cc.off = true
      ∧ p.cc.digits ≠ [] ∧ p.cru.restriction ≠ .noCalls ∧ p.lu.settings = some tones ∧ tones.pulse = false
      ∧ (answerAtTaking p.cc.digits (mailboxTaken builtInBases 1 p)).map (·.1) =
        some (.rated { copy := localEntry, index := 0, entry := 0 }) := by
  and_intros <;> first | exact ⟨none, rfl⟩ | decide

theorem test_witness_RaiseApplies : ready.cru.rows.length = 14 := by decide

theorem test_witness_RaiseReports :
    let p := { ready with cru.queue := [cut true 3] }
    Condition.handsetCut ≠ .profileBad ∧ reportQueueSound p ∧ cut true 3 ∈ p.cru.queue
      ∧ (cut true 3).kind = .condition .handsetCut ∧ isActive .shock p = false
      ∧ (∀ r ∈ p.cru.queue, r.kind ≠ .condition .shock) ∧ p.cru.queue.length < 8
      ∧ isActive .shock (raise .shock 5 ready) = true
      ∧ (∀ r ∈ ({ raise .shock 5 ready with cru.queue := [] } : Part).cru.queue, r.kind ≠ .condition .shock) := by
  unfold reportQueueSound; decide +kernel

theorem test_witness_ClearApplies :
    ready.cru.rows.length = 14 ∧ isActive .shock ready = false ∧ isActive .shock (raise .shock 5 ready) = true := by
  decide +kernel

/-- The mailbox commands: the port free, no command in flight, and each clause's arguments and owners. -/
theorem test_witness_CommandsTaken :
    HostReady builtInBases ready ∧ ready.bpu.inFlight = none ∧ (0 : Word).toNat = 0 ∧ 10 < (11 : Word).toNat
      ∧ 1 < ({ ready with bpu.arg1 := 2 } : Part).bpu.arg1.toNat ∧ ready.bpu.arg1.toNat ≤ 1
      ∧ ready.cru.key ≠ some true ∧ inService.cru.key = some true ∧ inService.cc.call = .idle
      ∧ inService.rlu.rail = [] ∧ inService.rlu.dump = .ended
      ∧ ({ inService with rlu.rail := [{ type := 1, value := 1 }] } : Part).rlu.rail ≠ []
      ∧ ({ ready with lu.line := .clearing } : Part).lu.line ≠ .idle := ⟨ready_host, by decide⟩

theorem test_witness_SetTimeSets :
    HostReady builtInBases ready ∧ ready.bpu.inFlight = none ∧ ready.rtu.timing.state = .idle ∧ gateRests ready
      ∧ 6 < (7 : Word).toNat ∧ (6 : Word).toNat ≤ 6 ∧ (20863 : Word).toNat + 65536 * (1 : Word).toNat ≤ 86399
      ∧ 86399 < (20864 : Word).toNat + 65536 * (1 : Word).toNat :=
  ⟨ready_host, by decide, by decide, by unfold gateRests; decide, by decide⟩

theorem test_witness_SetAttentionReplaces :
    HostReady builtInBases ready ∧ ready.bpu.inFlight = none ∧ (0x200 : Word).getLsbD 9 = true
      ∧ (∀ i : Fin 16, 9 ≤ i.val → (0x1FF : Word).getLsbD i.val = false)
      ∧ (let v := { ready with
          bpu.inFlight := some 4, bpu.enable := 0x10
          bpu.port := some (.write .result none 0x1FD05 [word (ResultCode.done.code + 256 * ready.bpu.number.toNat)]) }
        v.bpu.inFlight = some 4 ∧ v.bpu.result = .done ∧ v.bpu.enable.getLsbD 4 = true
          ∧ writeAtPort .result none 0x1FD05 [word (ResultCode.done.code + 256 * v.bpu.number.toNat)] v) :=
  ⟨ready_host, by decide, by decide, by decide, rfl, by decide, by decide, rfl, rfl⟩

theorem test_witness_VaultClearedClears :
    let p := { inService with cru.doorMark := true }
    HostReady builtInBases p ∧ p.bpu.inFlight = none ∧ p.cru.key = some true ∧ p.cau.load = .ended
      ∧ p.cru.doorMark = true ∧ 1 ∉ p.cau.faulted ∧ 4 ∉ p.cau.faulted ∧ p.cru.rows.length = 14
      ∧ ready.cru.key ≠ some true ∧ inService.cru.doorMark = false
      ∧ 4 ∈ ({ p with cau.faulted := [4] } : Part).cau.faulted := ⟨ready_host, by decide⟩

/-- The confirm sensors at the limit of the second: 999 ms and 1,000 ms. -/
theorem test_witness_ClearConditionActs :
    let jammed := { inService with rlu.gate := .fault }
    let long : ChuteReadings := { vault := none, ret := some 1000 }
    let brief : ChuteReadings := { vault := some 999, ret := none }
    HostReady builtInBases ready ∧ ready.bpu.inFlight = none ∧ 14 < (15 : Word).toNat
      ∧ Condition.profileBad.code = 14 ∧ Condition.profileBad.serviceCleared = false
      ∧ Condition.vaultForced.code = 1 ∧ Condition.vaultForced.serviceCleared = true
      ∧ inService.cru.key = some true ∧ ready.cru.key ≠ some true ∧ inService.cru.door = some false
      ∧ ({ inService with cru.door := some true } : Part).cru.door = some true
      ∧ (∃ held, (long.vault = some held ∨ long.ret = some held) ∧ 1000 ≤ held)
      ∧ (∀ held, brief.vault = some held ∨ brief.ret = some held → held < 1000)
      ∧ jammed.rlu.gate = .fault ∧ gateRests jammed := by
  unfold gateRests
  and_intros <;> first
    | exact ⟨1000, .inr rfl, by decide⟩
    | (intro held h; simp at h; omega)
    | decide

/-- COIN_JAM at HOLD, in a cycle, with a stopped refund and with a pending one; ACCOUNT_FAULT before the start load has
ended, with an empty faulted set, and with two records in it. -/
theorem test_witness_ClearConditionActs_owner :
    let coins : List Coin := [{ type := 1, value := 50 }]
    let stopped := { inService with rlu.gate := .fault, rlu.refund := some (0 + 1), rlu.rail := coins }
    let pending := { inService with rlu.gate := .fault, rlu.pendingRefund := true, rlu.rail := coins }
    inService.rlu.gate = .hold ∧ refunding.rlu.gate = .refunding ∧ inService.cru.key = some true
      ∧ stopped.rlu.gate = .fault ∧ stopped.rlu.dump = .ended ∧ stopped.rlu.charge = none
      ∧ pending.rlu.refund = none ∧ pending.rlu.pendingRefund = true ∧ pending.rlu.rail ≠ []
      ∧ ({ inService with cau.load := .reading 4 } : Part).cau.load ≠ .ended ∧ inService.cau.load = .ended
      ∧ inService.cau.faulted = [] ∧ ({ inService with cau.faulted := [0, 3] } : Part).cau.faulted ≠ []
      ∧ Condition.accountFault.code = 12 ∧ ({ inService with cru.door := none } : Part).cru.door ≠ some false := by
  decide

/-- R26: a CLEAR_CONDITION of COIN_JAM that has waited at the host bus port is judged on what the confirm sensors show
when it is taken. -/
theorem test_waiting_clear :
    let p := { inService with
      rlu.gate := .fault, bpu.arg1 := 4, bpu.hostQueue := [.write (.window .mailbox 0) 7], pins.vaultBlocked := true }
    (serve { p with samplers.vaultBlocked := { last := true, held := 1000 } }).bpu.result = .causePresent
      ∧ (serve { p with samplers.vaultBlocked := { last := true, held := 999 } }).bpu.result = .done := by
  decide +kernel

theorem test_witness_TestReportJoins :
    let full := { ready with cru.queue := List.replicate 8 (cut false 0) }
    HostReady builtInBases ready ∧ ready.bpu.inFlight = none ∧ (∀ r ∈ ready.cru.queue, r.kind ≠ .test)
      ∧ ready.cru.queue.length < 8 ∧ (∀ r ∈ full.cru.queue, r.kind ≠ .test) ∧ 8 ≤ full.cru.queue.length
      ∧ (∃ r ∈ ({ ready with cru.queue := [{ cut false 0 with kind := .test }] } : Part).cru.queue, r.kind = .test) := by
  and_intros <;> first | exact ⟨_, List.mem_singleton.mpr rfl, rfl⟩ | decide

theorem test_witness_DialJudged :
    let p := { ready with cc := { Cc.fresh with call := .collecting, off := true, digits := [1, 1, 2] }
                          rtu := { Rtu.fresh with freeList := [[1, 1, 2]] } }
    HostReady builtInBases p ∧ p.bpu.inFlight = none ∧ ready.cc.call ≠ .collecting ∧ p.cc.call = .collecting
      ∧ p.cc.off = true ∧ p.cc.digits ≠ [] ∧ p.cru.restriction ≠ .noCalls ∧ (∀ d ∈ p.cc.digits, d ≤ 9)
      ∧ freeIndex p.cc.digits p.rtu.freeList = some 0 ∧ p.lu.settings = some tones ∧ p.lu.line = .idle
      ∧ p.pins.loop = none ∧ freeIndex [2] p.rtu.freeList = none ∧ probe (ratingKey [2]) p.rtu.cache = none
      ∧ p.rtu.engine ≠ .verify ∧ (∃ d ∈ ([1, 11] : List Nat), 9 < d) := by
  and_intros <;> first | exact ⟨11, by decide, by decide⟩ | decide

theorem test_witness_PartRunGranted :
    let read : PartRead := { purpose := .scanHeader, limit := none }
    ready.bpu.windows = some builtInBases ∧ ready.bpu.port = none ∧ noneWaits ready
      ∧ dirtyOrdered [.account 8, .result, .status 7, .report 0, .call 63, .cell 0]
      ∧ (∀ g ∈ [Group.account 8, .result, .status 7, .report 0, .call 63, .cell 0], groupFits g)
      ∧ ([.status 7, .cell 0] : List Group).find? (fun x => !isCell x) = some (.status 7)
      ∧ (∀ g ∈ [Group.cell 0], isCell g = true) ∧ ofFlash read.purpose = true ∧ read.limit = none
      ∧ ofFlash (.scrub 1 1) = false := by
  refine ⟨rfl, rfl, .inl rfl, by unfold dirtyOrdered; decide, ?_, by decide⟩
  simp [groupFits]

/-- A grant before the window table is installed, with a write held, a group dirty and a read waiting, or none. -/
theorem test_witness_PartRunGranted_closed :
    let p := { Part.reset with bpu.hostQueue := [.write (.address 0x100) 7], bpu.dirty := [.account 3] }
    p.bpu.windows = none ∧ p.bpu.port = none ∧ noneWaits p
      ∧ (flashShows false p).bpu.waiting = { purpose := .profile 0, limit := none } :: []
      ∧ (flashShows true { p with bpu.waiting := [] }).bpu.waiting = [] :=
  ⟨rfl, rfl, .inr ⟨rfl, _, _, _, rfl⟩, rfl, rfl⟩

theorem test_witness_FlashReadsRejoinOrFail :
    let r : PartRead := { purpose := .scanEntry 3, limit := out }
    let p := { ready with bpu.aside := [r], rtu.engine := .verify, pins.flashBusy := true }
    r ∈ p.bpu.aside ∧ p.pins.flashBusy = true ∧ ready.pins.flashBusy = false ∧ ofScan r.purpose = true
      ∧ (∀ x ∈ p.bpu.aside, x = r) ∧ due r.limit p ∧ p.bpu.hostQueue = [] ∧ p.bpu.port = none
      ∧ p.rtu.engine = .verify ∧ p.rtu.verifyDue = false
      ∧ due out { ready with
          bpu.aside := [{ purpose := .profile 16, limit := out }], bpu.load := some .reload, bpu.inFlight := some 8
          bpu.result := .pending } :=
  ⟨by decide, rfl, rfl, rfl, by decide, ⟨_, rfl, by decide⟩, rfl, rfl, rfl, rfl, ⟨_, rfl, by decide⟩⟩

/-- The read of a lookup scan, and the one of the start load, whose 50 ms have passed on a busy flash. -/
theorem test_witness_FlashReadsRejoinOrFail_lookup :
    let r : PartRead := { purpose := .scanHeader, limit := out }
    let p := { scanning [2] with bpu.port := none, bpu.aside := [r], pins.flashBusy := true }
    let q := { Part.reset with
      tick := 100000, bpu.waiting := [], bpu.aside := [{ purpose := .profile 16, limit := out }]
      pins.flashBusy := true }
    r ∈ p.bpu.aside ∧ (∀ x ∈ p.bpu.aside, x = r) ∧ due r.limit p ∧ p.bpu.hostQueue = [] ∧ p.bpu.port = none
      ∧ (∃ number n, p.rtu.engine = .lookup number n) ∧ p.bpu.inFlight = some 1 ∧ p.bpu.result = .pending
      ∧ p.cc.call = .rating ∧ due out q ∧ q.bpu.hostQueue = [] ∧ q.bpu.load = some .start ∧ q.bpu.port = none
      ∧ q.rtu.engine = .idle ∧ q.rtu.timing.state = .idle ∧ q.rlu.dump = .waiting :=
  ⟨by decide, by decide, ⟨_, rfl, by decide⟩, rfl, rfl, ⟨_, _, rfl⟩, rfl, rfl, rfl, ⟨_, rfl, by decide⟩, rfl, rfl, rfl,
    rfl, rfl, rfl⟩

/-- R69: a grant that finds the flash ready has the read set aside rejoin, and begins it. -/
theorem test_grant_rejoins :
    let r : PartRead := { purpose := .scanHeader, limit := out }
    (after (.partRunGrant false) { ready with bpu.aside := [r], pins.flashBusy := true }).map
      (fun p => (p.bpu.port, p.bpu.aside)) = some (some (.read r false), []) := by
  decide +kernel

theorem test_witness_GroupWritesComplete :
    let w (g : Group) (n : Option Nat) : Part := { ready with bpu.port := some (.write g n 0x1FE00 [1, 2]) }
    writeAtPort (.status 7) none 0x1FE00 [1, 2] (w (.status 7) none)
      ∧ writeAtPort (.call 63) none 0x1FE00 [1, 2] (w (.call 63) none)
      ∧ writeAtPort (.cell 254) none 0x1FE00 [1, 2] { w (.cell 254) none with
          cu.dump := some { clear := true, held := 0 } }
      ∧ writeAtPort (.cell 255) none 0x1FE00 [1, 2] { w (.cell 255) none with
          cu.dump := some { clear := false, held := 0 }, bpu.inFlight := some 5, bpu.result := .pending }
      ∧ writeAtPort (.account 8) (some 4) 0x1FE00 [1, 2] { w (.account 8) (some 4) with
          cau.clearance := some { moneyWritten := true, lastWritten := false }, bpu.inFlight := some 6
          bpu.result := .pending }
      ∧ ([0x0110] : List Word) = [word (ResultCode.unknown.code + 256 * 1)]
      ∧ ready.cau.relocations = [] ∧ ready.cau.clearing = [] ∧ ready.cau.clearance = none ∧ ready.cau.turn = none
      ∧ Memory.wf ready.mem = true := by
  and_intros <;> decide

/-- The last and the first of two slots that CLEAR_CONDITION ACCOUNT_FAULT marked. -/
theorem test_witness_GroupWritesComplete_cleared :
    let p (marked : List Nat) : Part := { ready with
      bpu.port := some (.write (.account 3) (some 3) 0x1FE48 [1, 2]), cau.clearing := marked, bpu.inFlight := some 7
      bpu.result := .pending }
    writeAtPort (.account 3) (some 3) 0x1FE48 [1, 2] (p [3]) ∧ (∀ m ∈ (p [3]).cau.clearing, m = 3)
      ∧ (∃ m ∈ (p [0, 3]).cau.clearing, m ≠ 3) ∧ 3 ∈ (p [0, 3]).cau.clearing ∧ (p [3]).cau.relocations = []
      ∧ (p [3]).cau.clearance = none ∧ (p [3]).cau.turn = none :=
  ⟨⟨rfl, rfl⟩, by decide, by decide, by decide, rfl, rfl, rfl⟩

/-- Cell 7 of a clearing dump with three rejects held; MONEY written after LAST COLLECTION, and before it. -/
theorem test_witness_GroupWritesComplete_order :
    let cell := { ready with
      bpu.port := some (.write (.cell 7) none 0x1FE00 [1]), cu.dump := some { clear := true, held := 3 } }
    let money (last : Bool) : Part := { ready with
      bpu.port := some (.write (.account 1) (some 1) 0x1FE18 [1, 2]), bpu.inFlight := some 6, bpu.result := .pending
      cau.clearance := some { moneyWritten := false, lastWritten := last } }
    writeAtPort (.cell 7) none 0x1FE00 [1] cell ∧ 3 < clusterLimit cell ∧ Memory.wf cell.cu.rejects = true
      ∧ writeAtPort (.account 1) (some 1) 0x1FE18 [1, 2] (money true) ∧ (money true).cau.relocations = []
      ∧ (money true).cau.clearing = [] ∧ (money true).cau.turn = none
      ∧ (money true).cau.clearance = some { moneyWritten := false, lastWritten := true }
      ∧ (money false).cau.clearance = some { moneyWritten := false, lastWritten := false } := by
  and_intros <;> decide

/-- The write of the slot that a relocation moves a record to, with the header in the faulted set and not; and of
the header's slot while it is in progress. -/
theorem test_witness_GroupWritesComplete_relocated :
    let p (slot record : Nat) (faulted : List Nat) : Part := { relocating with
      bpu.port := some (.write (.account slot) (some record) 0x1FE78 [1, 2]), cau.faulted := faulted }
    writeAtPort (.account 5) (some 1) 0x1FE78 [1, 2] (p 5 1 []) ∧ (∃ r ∈ (p 5 1 []).cau.relocations, r.newSlot = 5)
      ∧ (p 5 1 []).cau.clearing = [] ∧ (p 5 1 []).cau.clearance = none ∧ 0 ∉ (p 5 1 []).cau.faulted
      ∧ 0 ∈ (p 5 1 [0]).cau.faulted ∧ writeAtPort (.account 0) (some 0) 0x1FE78 [1, 2] (p 0 0 [])
      ∧ ∀ r ∈ (p 0 0 []).cau.relocations, r.newSlot ≠ 0 :=
  ⟨⟨rfl, rfl⟩, ⟨_, List.mem_cons_self, rfl⟩, rfl, rfl, by decide, by decide, ⟨rfl, rfl⟩, by decide⟩

/-- A host write and a host read that wait at the port while a status group is written: with the starvation count at 63,
at 64 with no part work, and at 64 with a group dirty or a read waiting. -/
theorem test_witness_GroupWritesComplete_waiting :
    let p (count : Nat) (access : HostAccess) (dirty : List Group) (reads : List PartRead) : Part := { ready with
      bpu.port := some (.write (.status 7) none 0x1FF40 [1, 2]), bpu.hostQueue := [access], bpu.starvation := count
      bpu.dirty := dirty, bpu.waiting := reads }
    let w : HostAccess := .write (.address 0x100) 7
    let r : HostAccess := .read (.address 0x100)
    (p 63 w [] []).bpu.port = some (.write (.status 7) none 0x1FF40 [1, 2]) ∧ (p 63 w [] []).bpu.hostQueue = [w]
      ∧ (p 63 r [] []).bpu.hostQueue = [r] ∧ windowAt (0x100 : Addr).toNat (p 63 w [] []) = none
      ∧ (p 63 w [] []).bpu.load ≠ some .start ∧ (p 63 w [.account 1] []).bpu.starvation < 64
      ∧ workReady (p 64 w [] []) = false ∧ 64 ≤ (p 64 w [] []).bpu.starvation
      ∧ (p 64 w [] []).bpu.windows = some builtInBases
      ∧ (p 64 w [.account 1] []).bpu.dirty.find? (fun x => !isCell x) = some (.account 1)
      ∧ (∀ x ∈ (p 64 r [.cell 0] []).bpu.dirty, isCell x = true)
      ∧ (p 64 r [.cell 0] [{ purpose := .scanHeader, limit := none }]).bpu.waiting =
          { purpose := .scanHeader, limit := none } :: []
      ∧ (p 64 r [] []).pins.flashBusy = false := by
  decide

/-- R68: a write that waits with the count at 64 and a slot dirty goes on waiting while the slot's run is granted. -/
theorem test_starved_run :
    (after .groupWriteComplete { ready with
        bpu.port := some (.write (.status 7) none 0x1FF40 []), bpu.hostQueue := [.write (.address 0x100) 7]
        bpu.starvation := 64, bpu.dirty := [.account 1] }).map
      (fun p => (p.bpu.starvation, p.bpu.hostQueue.length, p.bpu.dirty, p.bpu.port.isSome)) = some (0, 1, [], true) := by
  decide +kernel

/-- A first read of sixteen words that a long CT record leaves unfinished, one whose length word is above 255, and a
reading that ends at ZZ with a wrong check word; in a reload and in the start load. A good profile, and one record more,
fewer or worse than it. -/
theorem test_witness_ProfileReadsGoOn :
    let p := { ready with
      bpu.port := some (.read { purpose := .profile 0, limit := none } false), bpu.load := some .reload
      bpu.inFlight := some 8, bpu.result := .pending }
    let q := { Part.reset with bpu.port := some (.read { purpose := .profile 0, limit := none } false), bpu.waiting := [] }
    readAtPort (.profile 0) p ∧ (List.replicate 16 (0 : Word)).length = 16
      ∧ readProfile ([0x4354, 48] ++ List.replicate 14 0) = .more
      ∧ readProfile ([0x4354, 256] ++ List.replicate 14 0) = .structureFault 3
      ∧ readProfile ([0x5A5A, 1, 7] ++ List.replicate 13 0) = .ended [] false
      ∧ p.bpu.load = some .reload ∧ p.bpu.inFlight = some 8 ∧ p.bpu.result = .pending ∧ readAtPort (.profile 0) q
      ∧ q.bpu.load = some .start ∧ q.rtu.engine = .idle ∧ q.rtu.timing.state = .idle ∧ q.rlu.dump = .waiting :=
  ⟨⟨rfl, none, rfl⟩, by decide, by decide +kernel, by decide +kernel, by decide +kernel, rfl, rfl, rfl, ⟨rfl, none, rfl⟩,
    rfl, rfl, rfl, rfl⟩

/-- A host write held in the start load, to no window and to the result word, with words that end the load and words that
do not. -/
theorem test_witness_ProfileReadsGoOn_held :
    let read : PartRead := { purpose := .profile 0, limit := none }
    let p (a : Addr) : Part := { Part.reset with
      bpu.port := some (.read read false), bpu.waiting := [], bpu.hostQueue := [.write (.address a) 7] }
    (p 0x100).bpu.port = some (.read read false) ∧ (p 0x100).bpu.hostQueue = [.write (.address 0x100) 7]
      ∧ (p 0x100).bpu.load = some .start ∧ (p 0x100).rtu.engine = .idle ∧ (p 0x100).rtu.timing.state = .idle
      ∧ (p 0x100).rlu.dump = .waiting ∧ (p 0x100).bpu.starvation < 64
      ∧ readProfile ([0x4354, 48] ++ List.replicate 14 0) = .more
      ∧ readProfile ([0x5A5A, 1, 7] ++ List.replicate 13 0) ≠ .more
      ∧ windowAt (0x100 : Addr).toNat ready = none ∧ windowAt (0x1FF05 : Addr).toNat ready = some (.mailbox, 5) := by
  decide +kernel

/-- The reading and the judgement of a good profile, of one whose last words and check arrive together, and of profiles
with each fault (spec/04_the_memory_path.md, R70 and R71). -/
theorem test_witness_ProfileJudged :
    let image := profileImage goodRecords
    let good := goodProfile
    (∀ r ∈ goodRecords, keyOf r.1 ≠ some .zz ∧ r.2.length ≤ 255) ∧ image.length + 3 ≤ 1024
      ∧ readProfile (image ++ [0x5A5A, 1, ~~~(sumWords image + 0x5A5A + 1)] ++ [7]) = .ended good true
      ∧ faultOf (judgeRecords good true) = none ∧ (settingsOf good).map (·.bases) = some builtInBases
      ∧ (∀ r ∈ good, recordFits (pulseMode good) r = true)
      ∧ faultOf (judgeRecords (good ++ [{ key := some .vc, data := [] }]) true) = some 405
      ∧ faultOf (judgeRecords (good.drop 1) true) = some 501
      ∧ faultOf (judgeRecords ({ key := some .fp, data := [5] } :: good) true) = some 609 := by
  decide +kernel

theorem test_witness_ScanReadsGoOn :
    let p := { ready with
      bpu.port := some (.read { purpose := .scanHeader, limit := none } false), rtu.engine := .verify }
    let q := { ready with
      bpu.port := some (.read { purpose := .scanEntry 1, limit := none } false), rtu.engine := .lookup [2] 3
      rtu.scan := { Scan.fresh with count := 3 } }
    let z := { q with rtu.engine := .verify, rtu.scan := { Scan.fresh with count := 2 } }
    readAtPort .scanHeader p ∧ p.rtu.engine = .verify ∧ p.rtu.verifyDue = false ∧ 200 < (201 : Word).toNat
      ∧ (200 : Word).toNat ≤ 200 ∧ readAtPort (.scanEntry 1) q ∧ q.rtu.engine = .lookup [2] 3
      ∧ 1 + 1 < q.rtu.scan.count ∧ readAtPort (.scanEntry 1) z ∧ 1 + 1 = z.rtu.scan.count
      ∧ z.rtu.scan.outOfRange = none ∧ entryInRange (entryOf [0x2222, 0, 0x0201, 0, 0, 0, 0, 0]) = true :=
  ⟨⟨rfl, none, rfl⟩, rfl, rfl, by decide, by decide, ⟨rfl, none, rfl⟩, rfl, by decide, ⟨rfl, none, rfl⟩, rfl, rfl,
    by decide⟩

/-- The last entry, out of range itself, with a right check word and with a wrong one, in a verification and in a lookup;
and behind an entry 0 that was out of range. -/
theorem test_witness_ScanReadsGoOn_range :
    let words : List Word := localWords.set 3 5001
    let p := { scanning [2] with rtu.scan.check := ~~~(1 + sumWords words) }
    readAtPort (.scanEntry 0) p ∧ words.length = 8 ∧ 0 + 1 = p.rtu.scan.count ∧ p.rtu.scan.outOfRange = none
      ∧ entryInRange (entryOf words) = false ∧ p.rtu.scan.check = ~~~(p.rtu.scan.sum + sumWords words)
      ∧ (scanning [2]).rtu.scan.check ≠ ~~~(p.rtu.scan.sum + sumWords words)
      ∧ ({ p with rtu.engine := .verify } : Part).rtu.verifyDue = false ∧ p.rtu.engine = .lookup [2] 0
      ∧ p.bpu.inFlight = some 1 ∧ p.bpu.result = .pending ∧ p.cc.call = .rating
      ∧ ({ p with rtu.scan.outOfRange := some 0 } : Part).rtu.scan.outOfRange = some 0 :=
  ⟨⟨rfl, none, rfl⟩, by decide, by decide, rfl, by decide, by decide, by decide, rfl, rfl, rfl, rfl, rfl, rfl⟩

/-- Slots of records 0 and 3: words that are not good, and a MONEY slot of zeros, which is. The last slot's read; the
dump's turns with and without entries, at the seventh and the eighth unbooked return; a hard slot with and without a
spare. -/
theorem test_witness_AccountLoadsInOrder :
    let p := { ready with
      bpu.port := some (.read { purpose := .startLoad 3 3, limit := none } false), cau.load := .reading 3 }
    let coin : Coin := { type := 1, value := 20 }
    readAtPort (.startLoad 3 3) p ∧ p.cau.load = .reading 3 ∧ p.cau.early = []
      ∧ recordGood 0 (List.replicate 24 0) = false
      ∧ recordGood 1 (List.replicate 23 0 ++ [0xFFFE]) = true
      ∧ readAtPort (.startLoad 4 4) (loaded [1, 1]) ∧ (loaded [1, 1]).cau.load = .reading 4
      ∧ (loaded [1, 1]).rlu.gate = .hold ∧ gateRests (loaded [1, 1]) ∧ (loaded []).cau.money.railCount = 0
      ∧ (dumping [coin] 7).rlu.gate = .refunding ∧ (dumping [coin] 7).rlu.dump = .running 7
      ∧ gateRests (dumping [coin] 7) ∧ (dumping [coin] 7).rlu.clearWaits = false
      ∧ (dumping [] 6).rlu.rail = [] ∧ due (dumping [coin] 0).rlu.cycle (dumping [coin] 0)
      ∧ readAtPort (.scrub 1 1) struck ∧ List.replicate 24 (0 : Word) ≠ recordWords 1 struck
      ∧ struck.cau.strikes.getD 1 none = some 3 ∧ struck.cau.pass ≤ 3 + 8 ∧ 0 ∉ struck.cau.faulted
      ∧ freeSpares struck.cau.header = 5 :: [6, 7, 8]
      ∧ freeSpares { Header.default with retired := [5, 6, 7, 8] } = [] := by
  and_intros <;> first | exact ⟨_, rfl, by decide⟩ | exact ⟨none, rfl⟩ | decide

/-- R38: the head is empty after the return of the first of three entries: the others go to suspense, and COIN_JAM names
the type of the first of them. A confirm limit that runs out with nothing listed. -/
theorem test_witness_AccountLoadsInOrder_left :
    let coin (k v : Nat) : Coin := { type := k, value := v }
    let p := dumping [coin 1 20, coin 3 50, coin 1 20] 0
    p.rlu.gate = .refunding ∧ p.rlu.dump = .running 0 ∧ gateRests p ∧ p.rlu.clearWaits = false
      ∧ p.cru.rows.length = 14 ∧ due (dumping [] 3).rlu.cycle (dumping [] 3) ∧ (dumping [] 3).rlu.rail = []
      ∧ (after (.returnConfirm false) p).map (fun t => (t.rlu.dump, t.cau.money.suspense, (rowOf .coinJam t).detail))
        = some (.ended, 70, 33)
      ∧ (after .confirmLimitExpiry (dumping [] 3)).map (fun t => (t.rlu.gate, (rowOf .coinJam t).detail))
        = some (.fault, 20) := by
  and_intros <;> first | exact ⟨_, rfl, by decide⟩ | decide

theorem test_witness_ScrubberCompares :
    let p := { ready with cau.scrub := out }
    let q := { ready with
      bpu.port := some (.read { purpose := .scrub 1 1, limit := none } false)
      cau.turn := some { record := 1, slot := 1, touched := false } }
    due p.cau.scrub p ∧ p.cau.position ∉ p.cau.faulted ∧ 1 ∈ ({ p with cau.faulted := [1] } : Part).cau.faulted
      ∧ p.bpu.dirty = [] ∧ p.bpu.port = none ∧ p.cau.relocations = [] ∧ readAtPort (.scrub 1 1) q
      ∧ List.replicate 24 (0 : Word) ≠ recordWords 1 q ∧ q.cau.strikes.getD 1 none = none :=
  ⟨⟨_, rfl, by decide⟩, by decide, by decide, rfl, rfl, rfl, ⟨rfl, none, rfl⟩, by decide, rfl⟩

/-- Turns on record 1 with its slot dirty, with its slot at the port, and with other groups dirty and at the port; a turn on
the header with a relocation in progress; a mismatch at pass 21 on a slot that was struck at pass 12, which the manual's
worked relocation (spec/03_the_cash_account.md) leaves in use. -/
theorem test_witness_ScrubberCompares_skips :
    let due_ := { ready with cau.scrub := out, cau.position := 1 }
    let dirty := { due_ with bpu.dirty := [.account 1] }
    let written := { due_ with bpu.port := some (.write (.account 1) (some 1) 0xFF18 []) }
    let others := { due_ with
      bpu.dirty := [.account 2], bpu.port := some (.write (.account 3) (some 3) 0xFF48 [])
      cau.relocations := [{ record := 2, oldSlot := 2, newSlot := 5 }] }
    let header := { others with cau.position := 0 }
    let old := { struck with cau.strikes := (List.replicate 9 none).set 1 (some 12), cau.pass := 21 }
    slotOf 1 due_ = 1 ∧ Group.account 1 ∈ dirty.bpu.dirty
      ∧ written.bpu.port = some (.write (.account 1) (some 1) 0xFF18 [])
      ∧ Group.account (slotOf 1 others) ∉ others.bpu.dirty ∧ header.cau.relocations ≠ [] ∧ header.cau.position = 0
      ∧ 12 + 8 < old.cau.pass ∧ List.replicate 24 (0 : Word) ≠ recordWords 1 old
      ∧ (after .scrubTurn others).map (fun t => t.cau.turn.isSome) = some true
      ∧ [dirty, written, header].all (fun p => (after .scrubTurn p).map (·.cau.turn.isSome) == some false) = true
      ∧ (after (.scrubReadDone (List.replicate 24 0)) old).map (fun t => (t.cau.strikes.getD 1 none, t.cau.header))
        = some (some 21, old.cau.header) := by
  and_intros <;> decide

theorem test_witness_CoinRouted :
    let p := { ready with cu.table := some oneType, cc.off := true }
    let full := { p with rlu.rail := List.replicate 8 { type := 1, value := 50 } }
    gateRests p ∧ p.cc.call ≠ .grace ∧ ready.cu.table = none ∧ p.bpu.load ≠ some .start
      ∧ p.rlu.dump = .ended ∧ p.cu.table = some oneType
      ∧ classifyCoin oneType { d := 20600, a := 31000, t := 500 } = .valid 1 50
      ∧ firstFailing 50 p = .none ∧ firstFailing 50 full = .railFull ∧ firstFailing 50 ready = .onHook
      ∧ classifyCoin oneType { d := 20601, a := 31000, t := 500 } = .reject .noMatch
      ∧ classifyCoin { oneType with slots := oneType.slots.map fun x => { x with type := { x.type with enabled := false } } }
          { d := 20600, a := 31000, t := 500 } = .disabled 1 50
      ∧ classifyCoin oneType { d := 20600, a := 31000, t := 501 } = .reject .transit
      ∧ windowCalm .noMatch p ∧ windowCalm .notRejected p ∧ p.cu.dump = none
      ∧ (readWord p.cu.rejects 87).toNat + 1 < oneType.cluster ∧ oneType.cluster ≤ 1000 := by
  unfold gateRests windowCalm; decide +kernel

theorem test_witness_GateCyclesEnd :
    ready.rlu.gate ≠ .vaulting ∧ ready.rlu.gate ≠ .refunding ∧ collecting.rlu.gate = .vaulting
      ∧ collecting.rlu.charge = some { amount := 100, collecting := true } ∧ collecting.rlu.banked + 50 < 100
      ∧ collecting.rlu.clearWaits = false
      ∧ refunding.rlu.gate = .refunding ∧ refunding.rlu.dump = .ended ∧ refunding.rlu.refund = some (0 + 1)
      ∧ refunding.rlu.charge = none ∧ refunding.rlu.pendingRefund = false
      ∧ due refunding.rlu.cycle refunding ∧ due out { ready with cu.flap := out } := by
  and_intros <;> first | exact ⟨_, rfl, by decide⟩ | decide

/-- R53: at a capacity of 80 one collect brings the vault count to both thresholds, 72; at 500 the 492nd coin to
VAULT_FULL alone, and with that condition active to none. -/
theorem test_vault_thresholds :
    let p (capacity count : Nat) : Part := { collecting with
      cau.capacity := some capacity, cau.money.vaultCount := count }
    let kinds (q : Part) : Option (List ReportKind) := (after .vaultConfirm q).map fun t => t.cru.queue.map (·.kind)
    kinds (p 80 71) = some [.condition .vaultNearFull, .condition .vaultFull]
      ∧ kinds (p 500 491) = some [.condition .vaultFull]
      ∧ kinds { raise .vaultFull 492 (p 500 491) with cru.queue := [] } = some [] := by decide +kernel

theorem test_witness_ClockAndQuietTimer :
    let p := { ready with rtu.clock := some (6, 86399), rtu.second := 99000, rtu.quiet := out }
    due (some (phaseTimer p)) p ∧ p.rtu.timing.state = .idle ∧ gateRests p ∧ validWall p.rtu.clock
      ∧ due p.rtu.quiet p ∧ p.rtu.engine = .idle ∧ ({ p with rtu.engine := .lookup [2] 0 } : Part).rtu.engine ≠ .idle :=
  ⟨⟨_, rfl, by decide⟩, rfl, by unfold gateRests; decide, by simp only [validWall]; decide, ⟨_, rfl, by decide⟩, rfl,
    by decide⟩

theorem test_witness_StepEnds :
    let night := { charged with rtu.calendar := some [[(0, 3)]], rtu.clock := some (0, 5), rtu.band := 3 }
    charged.rtu.timing.state = .running ∧ charged.tick = charged.rtu.timing.finish
      ∧ rateOf (bandNow night) night = 0 ∧ gateRests night ∧ rateOf (bandNow charged) charged ≠ 0
      ∧ ({ charged with cc.paid := false, rlu.gate := .vaulting } : Part).cc.paid = false ∧ charged.cc.paid = true
      ∧ gateRests charged ∧ charged.rlu.dump = .ended ∧ charged.rlu.gate = .hold ∧ charged.cc.call = .talking
      ∧ chargeStep charged ≤ charged.rlu.banked := by
  unfold gateRests; decide +kernel

/-- An unpaid step ends in GRACE with the gate at rest (R98, R102), with a refund running, and in FAULT with a refund
stopped: the timing is HELD. -/
theorem test_witness_StepEnds_unpaid :
    let grace := { charged with cc := { charged.cc with call := .grace, grace := out, paid := false, owed := 10 } }
    let running := { grace with rlu := { refunding.rlu with banked := 30 } }
    let stopped := { running with rlu.gate := .fault, rlu.cycle := none }
    [grace, running, stopped].all (fun p => p.rtu.timing.state == .running && p.tick == p.rtu.timing.finish
        && decide (rateOf (bandNow p) p ≠ 0) && decide (p.cc.paid = false) && decide (gateStill p)
        && (after .stepEnd p).map (·.rtu.timing.state) == some .held) = true := by
  decide +kernel

/-- The last second of a zero-rate band with the step paid and unpaid; a HELD step that its coin pays, with the due step
paid from what is left, and short with its end passed and not. -/
theorem test_witness_StepEnds_leaves :
    let dawn := { charged with
      rtu.calendar := some [[(0, 3), (5, 1)]], rtu.clock := some (0, 4), rtu.band := 3, rtu.second := 99000
      rtu.timing := { charged.rtu.timing with state := .waiting, band := 3 } }
    let next := { dawn with rtu.clock := nextSecond dawn.rtu.clock }
    let held := { charged with
      cc.paid := false
      rlu := { Rlu.fresh with
        dump := .ended, gate := .vaulting, cycle := out, rail := [{ type := 1, value := 20 }]
        charge := some { amount := 10, collecting := true } }
      rtu.timing := { charged.rtu.timing with state := .held, heldStart := 99000, heldBand := 0 } }
    due (some (phaseTimer dawn)) dawn ∧ dawn.rtu.timing.state = .waiting ∧ gateRests dawn ∧ dawn.cc.paid = true
      ∧ bandNow next ≠ next.rtu.band ∧ rateOf (bandNow next) next ≠ 0 ∧ dawn.rlu.dump = .ended ∧ dawn.rlu.gate = .hold
      ∧ dawn.cc.call = .talking ∧ chargeStep dawn ≤ dawn.rlu.banked ∧ held.rtu.timing.state = .held
      ∧ 10 ≤ held.rlu.banked + 20 ∧ held.cc.call = .talking ∧ elapsed 99000 held < 8571
      ∧ chargeStep held ≤ held.rlu.banked + 20 - 10
      ∧ ({ held with rtu.steps := some (11, 5) } : Part).rlu.banked + 20 - 10 + sumValues [] < 11
      ∧ ¬ elapsed 90000 held < 8571 := by
  and_intros <;> first | exact ⟨_, rfl, by decide⟩ | decide

/-- Standing calls at each of their limits; a LOCAL call at its answer, with credit banked, on the rail and short; a collect
that covers its charge and one that loses its coin, in TALKING and in GRACE; a coin in GRACE. -/
theorem test_witness_CallsEnd :
    let p := { calling with
      lu.loopLimit := out, lu.searchLimit := out, lu.clearHold := out, lu.loss := { counted := 0, since := some 99700 } }
    let local_ : PlacedCall := { freeCall with cls := .localClass, entry := some 0 }
    let answer := { charged with
      cc.placed := some local_, rtu.timing := Timing.fresh, lu.reversalHold := out, rlu.banked := 20 }
    let timed := { answer with
      lu.copy := some { tones with timed := true }, lu.answerLimit := some { start := 80000, limit := 60000 } }
    let coin : Coin := { type := 1, value := 50 }
    let taking := { charged with
      rlu := { Rlu.fresh with
        dump := .ended, gate := .vaulting, cycle := out, rail := [coin], banked := 5
        charge := some { amount := 55, collecting := true } } }
    let grace := { taking with cc.call := .grace, cc.graceOver := true }
    let paying := { inGrace with cu.table := some oneType, cc.owed := 60 }
    HostReady builtInBases calling ∧ calling.bpu.inFlight = none ∧ callStands freeCall calling
      ∧ ready.cc.call = .idle ∧ callStands freeCall inGrace ∧ due inGrace.cc.grace inGrace ∧ inGrace.cc.call = .grace
      ∧ ({ inGrace with rlu.charge := some { amount := 10, collecting := true } } : Part).rlu.charge.isSome = true
      ∧ callStands freeCall p ∧ p.lu.owner = .customer ∧ due p.lu.loopLimit p ∧ due p.lu.searchLimit p
      ∧ due p.lu.answerLimit p ∧ due p.lu.clearHold p ∧ due (lossTimer p) p
      ∧ answer.cc.placed = some local_ ∧ answer.rlu.charge = none ∧ answer.rlu.gate = .hold ∧ answer.rlu.refund = none
      ∧ local_.cls ≠ .freeClass ∧ due answer.lu.reversalHold answer ∧ due (timedSilence timed) timed
      ∧ connectionCharge answer + chargeStep answer = 20
      ∧ ({ answer with rlu.banked := 19 } : Part).rlu.banked + railValue { answer with rlu.banked := 19 } < 20
      ∧ 20 ≤ 19 + railValue { answer with rlu.banked := 19, rlu.rail := [coin] }
      ∧ taking.rlu.charge = some { amount := 55, collecting := true } ∧ taking.rlu.gate = .vaulting
      ∧ taking.rlu.rail = coin :: [] ∧ 55 ≤ taking.rlu.banked + coin.value ∧ taking.rtu.timing.state ≠ .held
      ∧ due taking.rlu.cycle taking ∧ taking.rlu.banked < 55 ∧ taking.cc.noted = false ∧ grace.cc.graceOver = true
      ∧ grace.rlu.settlementDue = false ∧ grace.cau.load = .ended ∧ grace.cc.heldCount < 64
      ∧ firstFailing 50 paying = .none ∧ classifyCoin oneType { d := 20000, a := 31000, t := 100 } = .valid 1 50
      ∧ paying.rlu.banked < paying.cc.owed := by
  and_intros <;> first | exact ⟨_, rfl, by decide⟩ | decide

/-- A charged call with a collect under way for a charge of 10 units at each ending event, and the last step of the worked
call of spec/08_calls_and_call_records.md: the hang-up at A + 26,000 is kept, and the confirm at A + 26,014 completes the
ending with the figures of its tables. The same call with its coin lost, and with no hang-up behind it. -/
theorem test_witness_CallsEnd_ending :
    let answered : PlacedCall := { freeCall with
      cls := .localClass, entry := some 0, collected := 1, answer := some { tick := 73986, band := 3 } }
    let paying := { charged with
      cc := { charged.cc with
        placed := some answered, steps := 3, charged := 50, producer := 15, consumer := 10, heldCount := 5, off := false }
      lu.clearHold := out, lu.loss := { counted := 0, since := some 99700 }
      rlu := { Rlu.fresh with
        dump := .ended, gate := .vaulting, cycle := out, charge := some { amount := 10, collecting := true }
        rail := [{ type := 2, value := 20 }, { type := 4, value := 100 }] }
      cau.money := { Money.zero with accepted := 170, collected := 50, charged := 50, railCount := 2, railTypes := [2, 4] } }
    let ending := { paying with
      cc.call := .ending, cc.placed := some { answered with ending := some { outcome := .localClear, tick := 99986 } }
      rtu.timing.state := .idle, bpu.inFlight := some 2, bpu.result := .pending, rlu.settlementDue := true }
    let record (q : Option Part) : Option CallRecord := q.bind fun t => match t.cc.records with
      | [(15, .call r)] => some r
      | _ => none
    HostReady builtInBases paying ∧ paying.bpu.inFlight = none ∧ callHeld answered paying ∧ chargeInFlight paying
      ∧ paying.lu.owner = .customer ∧ due paying.lu.clearHold paying ∧ due (lossTimer paying) paying
      ∧ (after .clearHoldEnd paying).map (fun t => (t.cc.call, t.rtu.timing.state, t.lu.line))
        = some (.ending, .idle, .clearing)
      ∧ ending.rlu.gate = .vaulting ∧ ending.rlu.dump = .ended ∧ ending.rlu.refund = none
      ∧ ending.rlu.pendingRefund = false ∧ ending.rlu.clearWaits = false ∧ ending.rtu.timing.state = .idle
      ∧ ending.cau.load = .ended ∧ 10 ≤ ending.rlu.banked + 20 ∧ due ending.rlu.cycle ending ∧ ending.rlu.banked < 10
      ∧ (record (after .vaultConfirm ending)).map (fun r => (r.outcome, r.answered, r.steps, r.charged, r.collected,
          r.toRefund)) = some (.localClear, some (26, 3), 4, 60, 2, 1)
      ∧ (after .vaultConfirm ending).map (fun t => (t.cc.call, t.cc.producer, t.cc.heldCount)) = some (.idle, 16, 6)
      ∧ (after .vaultConfirm ending).map (fun t => (t.cau.money.forfeited, t.rlu.refund, t.bpu.result))
        = some (10, some 1, .done)
      ∧ (after .confirmLimitExpiry { ending with rlu.settlementDue := false }).map
          (fun t => (t.cc.call, t.cc.charged, t.rlu.gate, t.rlu.pendingRefund)) = some (.idle, 50, .fault, false) := by
  unfold HostReady
  and_intros <;> first | exact ⟨_, rfl, by decide⟩ | decide

/-- Charged calls that examine the low-credit flag (R106): a collect that covers its charge, one that loses its coin, and
GRACE with a coin that covers the amount owed and with one that does not. -/
theorem test_witness_CallsEnd_low :
    let taking := { charged with
      rlu := { Rlu.fresh with
        dump := .ended, gate := .vaulting, cycle := out, rail := [{ type := 1, value := 50 }], banked := 5
        charge := some { amount := 55, collecting := true } } }
    let grace (owed : Nat) : Part := { charged with
      cu.table := some oneType, cc := { charged.cc with call := .grace, owed, low := true }, rlu.banked := 0 }
    taking.rtu.timing.state ≠ .idle ∧ taking.rlu.banked < 55 ∧ taking.cc.call = .talking
      ∧ (grace 60).rtu.timing.state ≠ .idle ∧ (grace 60).cc.graceOver = false ∧ (grace 60).rlu.charge = none
      ∧ (grace 60).rlu.gate = .hold ∧ firstFailing 50 (grace 60) = .none
      ∧ (grace 60).rlu.banked + railValue (grace 60) + 50 < (grace 60).cc.owed
      ∧ (grace 20).cc.owed ≤ (grace 20).rlu.banked + railValue (grace 20) + 50 := by
  and_intros <;> decide

/-- R106 with s = 10: a charge that leaves 9 units sets the flag with LOW_CREDIT, one that leaves 10 does not; a coin of 20
that joins the rail with the flag set clears it. -/
theorem test_low_credit :
    let p (banked : Nat) : Part := { charged with rlu.banked := banked, cau.money.banked := banked }
    let shown (q : Part) : Option (Bool × Bool) := (after .stepEnd q).map fun t => (t.cc.low, t.bpu.causes.getLsbD 2)
    let joined := after (.coinMeasurement 20000 31000 100) { p 0 with cu.table := some oneType, cc.low := true }
    shown (p 19) = some (true, true) ∧ shown (p 20) = some (false, false)
      ∧ joined.map (fun t => (t.cc.low, t.bpu.dirty.contains (.status 1))) = some (false, true) := by
  decide +kernel

theorem test_witness_LineGranted :
    let p := { ready with cru.queue := [cut false 0], cru.hookQuiet := out }
    let q := { ready with lu.line := .clearing, lu.clearing := out, lu.waitingSeize := some [2] }
    due q.lu.clearing q ∧ q.lu.waitingSeize = some [2] ∧ q.pins.loop = none ∧ ready.lu.probeDue = false
      ∧ ready.cru.quietReached = false ∧ due out { ready with lu.probe := out } ∧ lineOpen ready ∧ q.lu.line ≠ .idle
      ∧ due p.cru.hookQuiet p ∧ lineOpen p ∧ p.cru.number = some [0, 8, 0, 0] ∧ p.cru.report = none
      ∧ isActive .lineDown p = false ∧ cut false 0 ∈ p.cru.queue ∧ p.cru.backoff = none ∧ ready.cru.queue = []
      ∧ due out { p with cru.backoff := out, cru.quietReached := true } := by
  and_intros <;> first | exact ⟨_, rfl, by decide⟩ | decide

theorem test_witness_LineSearched :
    let p := { calling with
      lu.line := .searching, lu.gain := 14, lu.sweep := { second := false, best := some (9, 150), misses := 0 } }
    let found := { p with lu.sweep := { second := false, best := some (9, 150), misses := 1 }, lu.number := [1, 1, 2] }
    let last := { p with lu.gain := 15, lu.sweep := { second := true, best := some (9, 119), misses := 6 } }
    let busy : Classifier :=
      { period := some { on := false, dwells := 10, judged := true }, onLength := some 500, cycles := 1, ringback := false,
        lastOn := none }
    ready.pins.loop = none ∧ calling.lu.copy = some tones ∧ calling.pins.loop ≠ none ∧ calling.lu.loss.since = none
      ∧ p.lu.line = .searching ∧ p.lu.spoiled = false ∧ p.lu.gain < 15 ∧ p.lu.sweep.misses + 1 < tones.depth
      ∧ found.lu.sweep.best = some (9, 150) ∧ (150 : BitVec 8).toNat ≤ 150 ∧ tones.threshold ≤ 150
      ∧ tones.depth ≤ found.lu.sweep.misses + 1 ∧ found.lu.owner ≠ .probe ∧ found.lu.number = 1 :: [1, 2]
      ∧ tones.pulse = false ∧ isActive .lineDown found = false ∧ calling.lu.line = .awaitAnswer
      ∧ (classify true 100000 calling.lu.classifier).cycles < 2 ∧ 2 ≤ (classify true 100000 busy).cycles
      ∧ callStands freeCall { calling with lu.classifier := busy } ∧ ({ p with lu.spoiled := true } : Part).lu.spoiled = true
      ∧ (119 : BitVec 8).toNat < tones.threshold ∧ last.lu.sweep.best = some (9, 119) ∧ last.lu.sweep.second = true
      ∧ 15 ≤ last.lu.gain ∧ callStands freeCall last ∧ last.lu.owner = .customer := by
  decide

/-- The end of the second sweep with dial tone, of a customer's search and of a probe with LINE_DOWN active; its end without
dial tone; the two limits of a customer's seize, its third failure, and of a probe's. -/
theorem test_witness_LineSearched_ends :
    let p := { calling with
      lu.line := .searching, lu.gain := 15, lu.sweep := { second := true, best := some (9, 120), misses := 0 }
      lu.number := [0, 8], lu.loopLimit := out, lu.searchLimit := out, lu.failedSeizes := 2 }
    let probe := raise .lineDown 1 { p with lu.owner := .probe, lu.number := [], lu.probeDue := true }
    p.lu.line = .searching ∧ p.pins.loop ≠ none ∧ p.lu.spoiled = false ∧ p.lu.copy = some tones ∧ 15 ≤ p.lu.gain
      ∧ p.lu.sweep.best = some (9, 120) ∧ (120 : BitVec 8).toNat ≤ 120 ∧ tones.threshold ≤ 120 ∧ p.lu.owner ≠ .probe
      ∧ p.lu.number = 0 :: [8] ∧ probe.lu.owner = .probe ∧ isActive .lineDown probe = true
      ∧ ({ probe with lu.sweep.best := none } : Part).lu.sweep.second = true ∧ seizeEnds .loopLimitExpiry 2 p
      ∧ seizeEnds .searchLimitExpiry 3 p ∧ callStands freeCall p ∧ p.lu.owner = .customer
      ∧ seizeEnds .loopLimitExpiry 2 probe ∧ seizeEnds .searchLimitExpiry 3 probe := by
  unfold seizeEnds
  and_intros <;> first
    | exact .inl ⟨rfl, rfl, _, rfl, by decide⟩
    | exact .inr ⟨rfl, rfl, _, rfl, by decide⟩
    | decide

/-- R129, R131: a probe that finds dial tone clears LINE_DOWN and stops its timer; a customer's third failed seize raises it
with detail 2 and starts the timer. -/
theorem test_line_down :
    let p := { calling with
      lu.line := .searching, lu.gain := 15, lu.sweep := { second := true, best := some (9, 120), misses := 0 }
      lu.loopLimit := out, lu.failedSeizes := 2 }
    let probe := raise .lineDown 1 { p with lu.owner := .probe, lu.probe := out, cc := Cc.fresh }
    (after (.dwellFigure 0) probe).map (fun q => (isActive .lineDown q, q.lu.probe, q.lu.line)) =
        some (false, none, .clearing)
      ∧ (after .loopLimitExpiry p).map (fun q => ((rowOf .lineDown q).detail, q.lu.failedSeizes, q.lu.probe)) =
        some (2, 0, some { start := 100000, limit := 300000 }) := by
  decide +kernel

theorem test_witness_DigitsSent :
    let p (phase : SendPhase) (breaks : Nat) (rest : List Nat) : Part :=
      { calling with lu.line := .dialling, lu.sender := { phase, symbol := 3, breaks, rest, timer := out } }
    let cutOff (phase : SendPhase) (loss : LossTimer) : Part :=
      { p phase 1 [] with pins.loop := none, lu.loss := loss }
    (p .tone 0 []).pins.loop ≠ none ∧ due (p .tone 0 []).lu.sender.timer (p .tone 0 [])
      ∧ (p .gap 0 [0]).lu.sender.rest = 0 :: [] ∧ (p .gap 0 []).lu.line = .dialling
      ∧ (p .breaking 1 []).lu.sender.phase = .breaking ∧ 0 < (p .breaking 1 []).lu.sender.breaks
      ∧ (p .breaking 0 [0]).lu.sender.rest ≠ [] ∧ (p .making 1 []).lu.sender.phase = .making
      ∧ (cutOff .breaking { counted := 40, since := none }).pins.loop = none
      ∧ (cutOff .breaking { counted := 40, since := none }).lu.loss.since = none
      ∧ (cutOff .making { counted := 40, since := some 99960 }).lu.loss.since = some 99960 :=
  ⟨by decide, ⟨_, rfl, by decide⟩, rfl, rfl, rfl, by decide, by decide, rfl, rfl, rfl, rfl⟩

/-- The last gap of a frame, and of an in-call digit with another queued and with none. -/
theorem test_witness_DigitsSent_after :
    let p (line : LineState) (queued : List Nat) : Part := { calling with
      lu.line := line, lu.inCall := queued
      lu.sender := { phase := .gap, symbol := 11, breaks := 0, rest := [], timer := out } }
    due (p .sending []).lu.sender.timer (p .sending []) ∧ (p .sending []).lu.sender.phase = .gap
      ∧ (p .sending []).lu.sender.rest = [] ∧ (p .connected [5]).lu.inCall = 5 :: [] ∧ (p .connected []).lu.inCall = []
      ∧ (p .connected []).lu.line = .connected :=
  ⟨⟨_, rfl, by decide⟩, rfl, rfl, rfl, rfl, rfl⟩

theorem test_witness_CallsAnswered :
    let r := { calling with lu.owner := .report, lu.reversalHold := out }
    let timed := { calling with
      lu.copy := some { tones with timed := true }, lu.answerLimit := some { start := 80000, limit := 60000 } }
    let p := { reporting with cru.queue := [cut false 0], lu.line := .connected }
    calling.lu.line = .awaitAnswer ∧ calling.lu.copy = some tones ∧ calling.lu.reference = some .normal
      ∧ calling.lu.mustReturn = false ∧ calling.pins.loop ≠ some .inverted ∧ calling.lu.owner = .customer
      ∧ due (timedSilence timed) timed ∧ calling.cc.placed = some freeCall ∧ freeCall.cls = .freeClass
      ∧ due r.lu.reversalHold r ∧ r.lu.owner = .report ∧ due p.lu.pause p
      ∧ p.lu.line = .connected ∧ nextRecord p.cru.queue = some (cut false 0) := by
  and_intros <;> first | exact ⟨_, rfl, by decide⟩ | decide

/-- TIMED answer before and after ringback; the last break of a number on a line that showed the opposite polarity; a
change on a line that must return, and without current; a connected line at the opposite polarity. -/
theorem test_witness_CallsAnswered_senses :
    let timed := { calling with lu.copy := some { tones with timed := true } }
    let rung := { timed with lu.classifier := { Classifier.empty with ringback := true, lastOn := some 94000 } }
    let pulse := { calling with
      lu.line := .dialling, pins.loop := none, lu.shown := some .inverted
      lu.sender := { phase := .breaking, symbol := 3, breaks := 0, rest := [], timer := out } }
    let wired := { calling with lu.mustReturn := true, pins.loop := some .inverted }
    let talk := { calling with lu.line := .connected, pins.loop := some .inverted }
    timed.lu.line = .awaitAnswer ∧ timed.lu.classifier.ringback = false ∧ timed.lu.answerLimit = out
      ∧ rung.lu.classifier.lastOn = some 94000 ∧ due pulse.lu.sender.timer pulse ∧ pulse.lu.reference = some .normal
      ∧ pulse.lu.shown = some .inverted ∧ pulse.pins.loop = none ∧ wired.lu.mustReturn = true
      ∧ wired.pins.loop ≠ some .normal ∧ tones.timed = false ∧ isConnected talk.lu.line = true
      ∧ talk.pins.loop.isSome = true ∧ talk.pins.loop ≠ some .normal := by
  and_intros <;> first | exact ⟨_, rfl, by decide⟩ | decide

/-- R123: a loss of current within the 40 ms ends the reversal hold. -/
theorem test_witness_CallsAnswered_loss :
    let p := { calling with pins.loop := some .inverted, lu.reversalHold := out }
    p.pins.loop = some .inverted ∧ p.lu.line = .awaitAnswer ∧ (∃ l, p.lu.copy = some l ∧ l.timed = false)
      ∧ (after (.loopCurrentChange none) p).map (·.lu.reversalHold) = some none :=
  ⟨rfl, rfl, ⟨tones, rfl, rfl⟩, by decide +kernel⟩

/-- R114, R123: on a miswired line PULSE dialling ends with the sense absent, and the current that returns at the opposite
polarity starts no hold. -/
theorem test_pulse_miswired :
    let p := { calling with
      lu.line := .dialling, pins.loop := some .inverted
      lu.sender := { phase := .breaking, symbol := 3, breaks := 0, rest := [], timer := out } }
    (((after (.loopCurrentChange none) p).bind (after .pulseBreakEnd)).bind
      (after (.loopCurrentChange (some .inverted)))).map (fun q => (q.lu.line, q.lu.reversalHold))
        = some (.awaitAnswer, none) := by
  decide +kernel

theorem test_witness_FramesAnswered :
    let p := { reporting with cru.queue := [cut true 0, { cut false 1 with kind := .test }] }
    ready.lu.line ≠ .awaitAck ∧ (14 : BitVec 4).toNat ≠ 12 ∧ p.cru.queue.find? (·.sending) = some (cut true 0)
      ∧ p.lu.line = .awaitAck ∧ p.lu.announced = true ∧ due p.lu.ackWait p ∧ 2 < 3 ∧ (cut true 0).updated = false ∧ 6 < 7
      ∧ nextRecord (p.cru.queue.filter fun x => x.slot != (cut true 0).slot) = some { cut false 1 with kind := .test } :=
  ⟨by decide, by decide, by decide, rfl, rfl, ⟨_, rfl, by decide⟩, by decide, rfl, by decide, by decide⟩

theorem test_witness_VoltageWatched :
    false ≠ ready.pins.voltage ∧ ready.lu.line = .idle ∧ calling.lu.line ≠ .idle
      ∧ due out { ready with lu.voltWatch := out } := ⟨by decide, rfl, by decide, ⟨_, rfl, by decide⟩⟩

/-- A flash that makes six; a hang-up with coins on the rail, at HOLD and in FAULT, with a charge in flight, in RATING, and of
a placed call. -/
theorem test_witness_HookActs :
    let flash := { ready with cc.hangUp := out, cc.flashes := [90001, 92000, 94000, 96000, 98000] }
    let p := { ready with cc.hangUp := out, cc.call := .collecting, cc.digits := [2], rlu.banked := 30 }
    let coins : List Coin := [{ type := 1, value := 50 }]
    let jammed := { p with rlu.gate := .fault, rlu.rail := coins }
    let paying := { collecting with cc.hangUp := out, cc.call := .idle }
    let rating := { scanning [2] with cc.hangUp := out, rlu.rail := coins }
    let placed := { calling with cc.hangUp := out, cc.off := false, rlu.rail := coins }
    calling.cc.off = true ∧ calling.lu.line ≠ .idle ∧ ready.cc.off = false ∧ ready.cc.hangUp = none
      ∧ ready.cc.call = .idle ∧ ready.lu.owner = .none ∧ flash.cc.hangUp.isSome = true ∧ flash.lu.owner = .none
      ∧ 6 ≤ (ticksWith 10000 flash.cc.flashes flash).length
      ∧ due p.cc.hangUp p ∧ p.cc.call = .collecting ∧ p.rlu.rail = [] ∧ gateRests p ∧ p.rlu.dump = .ended
      ∧ p.rlu.gate = .hold ∧ p.rlu.settlementDue = false ∧ jammed.rlu.gate = .fault ∧ gateRests jammed
      ∧ ({ p with rlu.rail := coins } : Part).rlu.rail ≠ [] ∧ due paying.cc.hangUp paying
      ∧ paying.rlu.charge.isSome = true ∧ paying.rlu.gate = .vaulting ∧ due rating.cc.hangUp rating
      ∧ rating.cc.call = .rating ∧ rating.rtu.engine = .lookup [2] 0 ∧ rating.rtu.verifyDue = false
      ∧ rating.bpu.inFlight = some 1 ∧ rating.bpu.result = .pending ∧ gateRests rating ∧ rating.rlu.gate = .hold
      ∧ due placed.cc.hangUp placed ∧ callStands freeCall placed ∧ placed.rlu.dump = .ended
      ∧ placed.rlu.gate = .hold ∧ placed.cc.heldCount < 64 := by
  and_intros <;> first | exact ⟨_, rfl, by decide⟩ | decide

/-- A hang-up of a call whose charge is in flight, and one more in its ENDING; of a placed call with the refund of an earlier
hang-up under way, and stopped in FAULT, whose record leaves out the entry that the refund owes (R142). -/
theorem test_witness_HookActs_ending :
    let held := { collecting with
      cc := { calling.cc with hangUp := out, call := .talking, off := false }
      lu := calling.lu, rtu.timing.state := .running }
    let again := { held with cc.call := .ending }
    let owing := { calling with
      cc.hangUp := out, cc.off := false
      rlu := { refunding.rlu with rail := [{ type := 1, value := 20 }, { type := 3, value := 50 }] } }
    let stopped := { owing with rlu.gate := .fault, rlu.cycle := none }
    let kept (p : Part) : Option (Nat × Bool × Option Nat) := (after .hangUpTimerExpiry p).bind fun t => match t.cc.records with
      | [(_, .call r)] => some (r.toRefund, t.rlu.pendingRefund, t.rlu.refund)
      | _ => none
    due held.cc.hangUp held ∧ callHeld freeCall held ∧ chargeInFlight held ∧ held.lu.line ≠ .idle
      ∧ (after .hangUpTimerExpiry held).map (fun t => (t.cc.call, t.rlu.settlementDue, t.rlu.gate))
        = some (.ending, true, .vaulting)
      ∧ due again.cc.hangUp again ∧ again.cc.call = .ending ∧ chargeInFlight again
      ∧ due owing.cc.hangUp owing ∧ callStands freeCall owing ∧ owing.rlu.dump = .ended ∧ owing.rlu.gate = .refunding
      ∧ callStands freeCall stopped ∧ stopped.rlu.gate = .fault ∧ owing.cc.heldCount < 64
      ∧ kept owing = some (1, true, some 1) ∧ kept stopped = some (1, true, some 1) := by
  and_intros <;> first | exact ⟨_, rfl, by decide⟩ | decide

/-- A report call that is sending, with and without an accepted frame, and a probe; at a lift and at a flash. -/
theorem test_witness_HookActs_report :
    let probing := { ready with lu.owner := .probe, lu.line := .searching }
    let report := { reporting with cru.queue := [cut true 0], cru.report := some { identity := [], sends := 1, accepted := 1 } }
    report.cc.off = false ∧ report.lu.owner = .report ∧ report.cc.hangUp = none ∧ report.cru.report.isSome = true
      ∧ report.cau.load = .ended ∧ probing.lu.owner = .probe
      ∧ (ticksWith 10000 [] { probing with cc.hangUp := out }).length < 6 := by
  decide

/-- The handset is put down with the line IDLE, with no probe due and with one. -/
theorem test_witness_HookActs_idle :
    let p := { ready with cc.off := true }
    let q := { p with lu.probeDue := true, lu.line := .idle }
    p.cc.off = true ∧ p.lu.probeDue = false ∧ q.lu.probeDue = true ∧ lineOpen { q with cc.off := false }
      ∧ (after (.hookDebounced false) q).map (fun t => (t.lu.owner, t.lu.line)) = some (.probe, .seizing) := by
  unfold lineOpen; decide +kernel

theorem test_witness_DoorAndKeyAct :
    ready.cru.door = some false ∧ ({ ready with cru.door := some true } : Part).cru.door = some true
      ∧ ready.cru.key = some false ∧ inService.cru.key = some true ∧ Part.reset.cru.door = none
      ∧ Part.reset.cru.key = none
      ∧ ({ Part.reset with cru.key := some false, cru.keySettled := some false } : Part).cru.keySettled = some false
      ∧ ({ Part.reset with cru.door := some false, cru.doorSettled := some true } : Part).cru.doorSettled = some true := by
  decide

/-- R152: the door settled OPEN and was closed before the key settled OFF; and the other way about. -/
theorem test_settled_positions :
    (after (.switchSettled .key false) { Part.reset with cru.door := some false, cru.doorSettled := some true }).map
        (fun p => (rowOf .vaultForced p).detail) = some 3
      ∧ (after (.switchSettled .key false) { Part.reset with cru.door := some true, cru.doorSettled := some false }).map
        (fun p => isActive .vaultForced p) = some false := by decide +kernel

/-- The timers of the abuse lists; a coin rejected as the twelfth of the window, in a cell one below the threshold; the last
cell of a clearing and of a plain dump. -/
theorem test_witness_AbuseDetected :
    let m : Measurement := { d := 20601, a := 31000, t := 500 }
    let p := { ready with
      cu.table := some oneType, cu.rejects := [(87, 23)], cu.window := List.replicate 11 .transit }
    let w (all : Bool) : Part := { ready with
      bpu.port := some (.write (.cell 255) none 0x1F7FF [1]), cu.dump := some { clear := all, held := 0 } }
    due out { ready with cru.shockQuiet := out } ∧ due (ageTimer 60000 [40000]) ready
      ∧ due (ageTimer 10000 [90000]) ready ∧ due out { ready with cc.abuse := out }
      ∧ p.bpu.load ≠ some .start ∧ p.rlu.dump = .ended ∧ p.cu.table = some oneType
      ∧ classifyCoin oneType m = .reject .noMatch ∧ gateRests p ∧ p.cu.dump = none
      ∧ 12 = transitCount (joinWindow .noMatch p.cu.window) + noMatchCount (joinWindow .noMatch p.cu.window)
      ∧ isActive .rejectBurst p = false ∧ (readWord p.cu.rejects 87).toNat + 1 = oneType.cluster
      ∧ writeAtPort (.cell 255) none 0x1F7FF [1] (w true) ∧ writeAtPort (.cell 255) none 0x1F7FF [1] (w false)
      ∧ (w true).cu.dump = some { clear := true, held := 0 } := by
  and_intros <;> first | exact ⟨_, rfl, by decide⟩ | decide

/-- R13: a coin that is not rejected brings the rejects of the window from 5 to 4; one that the CU is not ready for, and
one that is valid. -/
theorem test_witness_AbuseDetected_clears :
    let w : List Measured := .transit :: List.replicate 11 .notRejected ++ List.replicate 4 .noMatch
    let p := { raise .rejectBurst 1200 ready with cu.table := some oneType, cu.window := w }
    gateRests p ∧ p.cc.call ≠ .grace ∧ transitCount w + noMatchCount w = 5
      ∧ transitCount (joinWindow .notRejected w) + noMatchCount (joinWindow .notRejected w) ≤ 4
      ∧ isActive .rejectBurst p = true ∧ classifyCoin oneType { d := 20000, a := 31000, t := 100 } = .valid 1 50
      ∧ { p with cu.table := none }.cu.table = none :=
  ⟨⟨by decide, by decide, by decide⟩, by decide, by decide, by decide, by decide, by decide, rfl⟩

theorem test_burst_clears :
    let w : List Measured := .transit :: List.replicate 11 .notRejected ++ List.replicate 4 .noMatch
    (after (.coinMeasurement 20000 31000 100) { raise .rejectBurst 1200 ready with cu.window := w }).map
      (fun p => (isActive .rejectBurst p, p.cru.restriction)) = some (false, .full) := by decide +kernel

/-- R20: the gate's position in a collect, in a refund, and after a cycle without its confirm. -/
theorem test_gate_position :
    (gatePosition collecting, gatePosition refunding, (after .confirmLimitExpiry refunding).map gatePosition)
      = (.toVault, .toReturn, some .hold) := by decide +kernel

/-- R57, R66, R72: in the start profile load a dirty group waits, and the profile read is granted. -/
theorem test_profile_read_before_groups :
    (grantRun (markS 0 Part.reset)).bpu.port = some (.read { purpose := .profile 0, limit := none } false) := by decide

end Sys2Proof.Tests
end

section
/-!
PROOFS. The best match of a scan (R78, R79): when a table entry replaces it, when it stays, and what a run of entries
leaves.
-/

namespace Sys2Proof.Machine

/-! ## One entry -/

theorem entryMatches_iff (number : List Nat) (e : TariffEntry) :
    entryMatches number e = true ↔ e.length ≤ number.length ∧ number.take e.length = e.digits.take e.length := by
  simp [entryMatches]

theorem betterMatch_of_not_matches {number : List Nat} {e : TariffEntry} (hm : entryMatches number e = false)
    (i : Nat) (best : Option (Nat × TariffEntry)) : betterMatch number i e best = best := by
  simp [betterMatch, hm]

theorem betterMatch_of_matches_longer {number : List Nat} {e : TariffEntry} {best : Option (Nat × TariffEntry)}
    (hm : entryMatches number e = true) (hlt : ∀ b ∈ best, b.2.length < e.length) (i : Nat) :
    betterMatch number i e best = some (i, e) := by
  cases best with
  | none => simp [betterMatch, hm]
  | some b => simp [betterMatch, hm, hlt b rfl]

theorem betterMatch_of_not_longer {number : List Nat} {x : TariffEntry} {b : Nat × TariffEntry}
    (hle : x.length ≤ b.2.length) (i : Nat) : betterMatch number i x (some b) = some b := by
  simp [betterMatch, hle.not_gt]

/-- The best match after an entry is that entry, which then matches the number, or the one before it. -/
theorem betterMatch_cases (number : List Nat) (i : Nat) (e : TariffEntry) (best : Option (Nat × TariffEntry)) :
    (entryMatches number e = true ∧ betterMatch number i e best = some (i, e))
      ∨ betterMatch number i e best = best := by
  unfold betterMatch
  split
  case isTrue hm =>
    cases best with
    | none => exact .inl ⟨hm, rfl⟩
    | some b =>
      by_cases hlt : b.2.length < e.length
      · exact .inl ⟨hm, if_pos hlt⟩
      · exact .inr (if_neg hlt)
  case isFalse => exact .inr rfl

/-- A best match shorter than `n` stays so past an entry that is shorter than `n` if it matches. -/
theorem betterMatch_length_lt {number : List Nat} {x : TariffEntry} {best : Option (Nat × TariffEntry)} {n : Nat}
    (hx : entryMatches number x = true → x.length < n) (hbest : ∀ b ∈ best, b.2.length < n) (i : Nat) :
    ∀ b ∈ betterMatch number i x best, b.2.length < n := by
  obtain ⟨hm, heq⟩ | heq := betterMatch_cases number i x best <;> rw [heq]
  · simpa using hx hm
  · exact hbest

/-! ## A run of entries -/

theorem bestOf_of_each_keeps {number : List Nat} {es : List TariffEntry} {best : Option (Nat × TariffEntry)}
    (hkeep : ∀ x ∈ es, ∀ j, betterMatch number j x best = best) (i : Nat) : bestOf number i es best = best := by
  induction es generalizing i with
  | nil => rfl
  | cons x xs ih =>
    rw [bestOf, hkeep x List.mem_cons_self]
    exact ih (fun y hy => hkeep y (List.mem_cons_of_mem x hy)) (i + 1)

/-- A matching entry becomes the best match and stays it when the best match before the run and the matching entries
ahead of it are shorter, and those behind it are no longer than it (R79). -/
theorem bestOf_eq_some {number : List Nat} {es : List TariffEntry} {e : TariffEntry} {i : Nat}
    {best : Option (Nat × TariffEntry)} (hm : entryMatches number e = true) (he : es[i]? = some e)
    (hlongest : ∀ (j : Nat) (x : TariffEntry), es[j]? = some x → entryMatches number x = true →
      x.length < e.length ∨ (x.length = e.length ∧ i ≤ j))
    (hbest : ∀ b ∈ best, b.2.length < e.length) (k : Nat) : bestOf number k es best = some (k + i, e) := by
  induction es generalizing i k best with
  | nil => simp at he
  | cons y ys ih =>
    rw [bestOf]
    cases i with
    | zero =>
      obtain rfl : y = e := by simpa using he
      rw [betterMatch_of_matches_longer hm hbest]
      refine bestOf_of_each_keeps (fun x hx j => ?_) (k + 1)
      cases hmx : entryMatches number x with
      | false => exact betterMatch_of_not_matches hmx j _
      | true =>
        obtain ⟨l, hl⟩ := List.mem_iff_getElem?.mp hx
        have hle := hlongest (l + 1) x (by simpa using hl) hmx
        exact betterMatch_of_not_longer (by dsimp only; omega) j
    | succ i =>
      have hy : entryMatches number y = true → y.length < e.length := fun hmy => by
        have := hlongest 0 y rfl hmy
        omega
      have hrest : ∀ (j : Nat) (x : TariffEntry), ys[j]? = some x → entryMatches number x = true →
          x.length < e.length ∨ (x.length = e.length ∧ i ≤ j) := fun j x hx hmx => by
        have := hlongest (j + 1) x (by simpa using hx) hmx
        omega
      rw [ih (by simpa using he) hrest (betterMatch_length_lt hy hbest k) (k + 1), Nat.add_right_comm, Nat.add_assoc]

/-- Settles O28, from the rule for one entry and an induction over the run of entries. -/
theorem scanChoosesLongest : Obligations.ScanChoosesLongest := by
  unfold Obligations.ScanChoosesLongest
  refine fun number es => ⟨entryMatches_iff number, fun hnone => ?_, fun i e he hm hlongest => ?_⟩
  · exact bestOf_of_each_keeps (fun x hx j => betterMatch_of_not_matches (hnone x hx) j none) 0
  · simpa using bestOf_eq_some hm he hlongest (best := none) (by simp) 0

end Sys2Proof.Machine
end

section
/-!
PROOFS. A clear (R150): the row of a kind where the table is written, what a clear makes of a part, and the frame of the
derivation of the restriction that goes with it.
-/

namespace Sys2Proof.Machine

/-! ## The rows of the condition table -/

theorem code_sub_one_lt (k : Condition) : k.code - 1 < 14 := by cases k <;> decide

theorem one_le_code (k : Condition) : 1 ≤ k.code := by cases k <;> decide

theorem conditionOf_code (k : Condition) : conditionOf k.code = some k := by cases k <;> rfl

/-- No two kinds share a row. -/
theorem code_sub_one_ne {j k : Condition} (h : j ≠ k) : j.code - 1 ≠ k.code - 1 := by
  intro heq
  have hcode : j.code = k.code := by
    have := one_le_code j
    have := one_le_code k
    omega
  have hsome : some j = some k := by rw [← conditionOf_code j, hcode, conditionOf_code]
  exact h (Option.some.inj hsome)

theorem rowOf_of_rows_set_same {k : Condition} {r : ConditionRow} {p q : Part} (hlen : p.cru.rows.length = 14)
    (hq : q.cru.rows = p.cru.rows.set (k.code - 1) r) : rowOf k q = r := by
  have hlt : k.code - 1 < p.cru.rows.length := hlen ▸ code_sub_one_lt k
  simp [rowOf, hq, hlt]

theorem rowOf_of_rows_set_ne {j k : Condition} (hjk : j ≠ k) {r : ConditionRow} {p q : Part}
    (hq : q.cru.rows = p.cru.rows.set (k.code - 1) r) : rowOf j q = rowOf j p := by
  simp [rowOf, hq, List.getD, List.getElem?_set_ne (code_sub_one_ne hjk).symm]

/-- R149: the kind's row after a raise. -/
theorem rowOf_raise_same {p : Part} (hlen : p.cru.rows.length = 14) (k : Condition) (detail : Nat) :
    rowOf k (raise k detail p) = raisedRow p.rtu.clock detail (rowOf k p) :=
  rowOf_of_rows_set_same hlen (raise_rows k detail p)

/-! ## Setting a cause and deriving the restriction -/

theorem setCause_getLsbD (c : Cause) (p : Part) : (setCause c p).bpu.causes.getLsbD (causePosition c) = true := by
  rw [setCause_bpu_causes, BitVec.getLsbD_or]
  cases c <;> simp [causeBit, causePosition]

/-- The restriction apart, a derivation of it reaches the dirty set, the causes and the attention line alone. -/
theorem deriveRestriction_frame (p : Part) : ∃ dirty causes attention restriction, deriveRestriction p =
    { p with
      bpu.dirty := dirty, bpu.causes := causes, bpu.attention := attention, cru.restriction := restriction } := by
  unfold deriveRestriction
  split <;> exact ⟨_, _, _, _, rfl⟩

theorem restrictionHolds_congr {p q : Part} (h : q.cru = p.cru) (hp : restrictionHolds p) : restrictionHolds q := by
  unfold restrictionHolds at hp ⊢
  rw [derivedRestriction_congr (congrArg Cru.rows h) (congrArg Cru.key h), h, hp]

/-! ## The clear -/

theorem clear_of_not_active {k : Condition} {p : Part} (h : isActive k p = false) : clear k p = p := by
  simp [clear, h]

theorem clear_of_active {k : Condition} {p : Part} (h : isActive k p = true) : clear k p =
    setCause .condition (markS 7 (deriveRestriction (setRow k { rowOf k p with active := false } p))) := by
  simp [clear, h]

theorem rowOf_clear_same {k : Condition} {p : Part} (hlen : p.cru.rows.length = 14) :
    rowOf k (clear k p) = { rowOf k p with active := false } := by
  cases h : isActive k p with
  | false => rw [clear_of_not_active h, ← h, isActive]
  | true => exact rowOf_of_rows_set_same hlen (by rw [clear_rows, if_pos h])

theorem rowOf_clear_ne {j k : Condition} (hjk : j ≠ k) (p : Part) : rowOf j (clear k p) = rowOf j p := by
  cases h : isActive k p with
  | false => rw [clear_of_not_active h]
  | true => exact rowOf_of_rows_set_ne hjk (by rw [clear_rows, if_pos h])

theorem clear_rows_length (k : Condition) (p : Part) : (clear k p).cru.rows.length = p.cru.rows.length := by
  rw [clear_rows]
  split <;> simp

theorem raise_rows_length (k : Condition) (detail : Nat) (p : Part) :
    (raise k detail p).cru.rows.length = p.cru.rows.length := by
  rw [raise_rows, List.length_set]

theorem clear_rtu (k : Condition) (p : Part) : (clear k p).rtu = p.rtu := inner_rtu (clear_inner k p)

/-- R155 at a clear of an active row. -/
theorem clear_restrictionHolds {k : Condition} {p : Part} (h : isActive k p = true) : restrictionHolds (clear k p) := by
  rw [clear_of_active h]
  exact restrictionHolds_congr ((setCause_cru _ _).trans (markS_cru _ _)) (deriveRestriction_holds _)

theorem clear_marks_S7 {k : Condition} {p : Part} (h : isActive k p = true) :
    Group.status 7 ∈ (clear k p).bpu.dirty := by
  rw [clear_of_active h, setCause_bpu_dirty, markS_bpu_dirty]
  exact mem_insertGroup_of_mem (mem_insertGroup_self _ _)

theorem clear_sets_condition {k : Condition} {p : Part} (h : isActive k p = true) :
    (clear k p).bpu.causes.getLsbD (causePosition .condition) = true := by
  rw [clear_of_active h]
  exact setCause_getLsbD .condition _

/-- A clear reaches the rows, the restriction, the dirty set, the causes and the attention line; nothing of the report
queue is among them. -/
theorem clear_frame (k : Condition) (p : Part) : clear k p = { p with
    bpu.dirty := (clear k p).bpu.dirty
    bpu.causes := (clear k p).bpu.causes
    bpu.attention := (clear k p).bpu.attention
    cru.rows := (clear k p).cru.rows
    cru.restriction := (clear k p).cru.restriction } := by
  cases h : isActive k p with
  | false => rw [clear_of_not_active h]
  | true =>
    obtain ⟨dirty, causes, attention, restriction, hframe⟩ :=
      deriveRestriction_frame (setRow k { rowOf k p with active := false } p)
    rw [clear_of_active h, hframe]
    rfl

/-! ## A raise and a clear of one kind that fall together -/

/-- The clear first: the raise finds a clear row with the figures kept. -/
theorem rowOf_raise_clear {p : Part} (hlen : p.cru.rows.length = 14) (k : Condition) (detail : Nat) :
    rowOf k (raise k detail (clear k p)) = raisedRow p.rtu.clock detail (rowOf k p) := by
  rw [rowOf_raise_same ((clear_rows_length k p).trans hlen), clear_rtu, rowOf_clear_same hlen]
  rfl

/-- The raise first: the clear keeps the figures that it left. -/
theorem rowOf_clear_raise {p : Part} (hlen : p.cru.rows.length = 14) (k : Condition) (detail : Nat) :
    rowOf k (clear k (raise k detail p)) = { raisedRow p.rtu.clock detail (rowOf k p) with active := false } := by
  rw [rowOf_clear_same ((raise_rows_length k detail p).trans hlen), rowOf_raise_same hlen]

/-- Settles O32, from the row that a clear leaves and its frame. -/
theorem clearApplies : Obligations.ClearApplies := by
  unfold Obligations.ClearApplies
  refine fun k detail p hlen => ⟨clear_of_not_active, fun _ => ⟨?_, ?_, ?_⟩, fun h => ⟨rowOf_clear_same hlen,
    fun j hjk => rowOf_clear_ne hjk p, clear_restrictionHolds h, clear_marks_S7 h, clear_sets_condition h,
    clear_frame k p⟩⟩
  · rw [isActive, rowOf_clear_same hlen]
  · exact rowOf_raise_clear hlen k detail
  · exact rowOf_clear_raise hlen k detail

end Sys2Proof.Machine
end

section
/-!
PROOFS. SET_TIME (R93, R180) and SET_ATTENTION (R187): a mailbox command that is taken, the clock that SET_TIME sets and
the band judged after it, the words that name attention causes alone, and the line read cause by cause.
-/

namespace Sys2Proof.Machine

/-- A mailbox command that arrives at a free port with none in flight is its judgement (R175, R177). -/
theorem onPart_commandWrite {b : Bases} {s : State} (h : HostReady b s.part) (hi : s.part.bpu.inFlight = none)
    (code : Word) : onPart (commandWrite code) s =
      .next { s with part := judgeCommand code.toNat (mailboxTaken b code s.part) } := by
  rw [onPart, commandWrite_taken h hi]

/-! ## SET_TIME -/

/-- The clock is SET at a day and a second of day, with its millisecond phase 0, and S6 is marked (R93). -/
def clockSet (day second : Nat) (p : Part) : Part :=
  markS 6 { p with rtu.clock := some (day, second), rtu.second := p.tick }

theorem setTimeCommand_refused {p : Part}
    (h : 6 < p.bpu.arg1.toNat ∨ 86399 < p.bpu.arg2.toNat + 65536 * p.bpu.arg3.toNat) :
    setTimeCommand p = resulted .range p := if_pos h

theorem setTimeCommand_done {p : Part} (hday : p.bpu.arg1.toNat ≤ 6)
    (hsecond : p.bpu.arg2.toNat + 65536 * p.bpu.arg3.toNat ≤ 86399) :
    setTimeCommand p = resulted .done (gateWork (judgeBand
      (clockSet p.bpu.arg1.toNat (p.bpu.arg2.toNat + 65536 * p.bpu.arg3.toNat) p))) :=
  if_neg (by omega)

/-- The band judged anew while the timing is IDLE changes the band in force alone, and marks S2 where it differs. -/
theorem judgeBand_idle {p : Part} (h : p.rtu.timing.state = .idle) :
    judgeBand p = if bandNow p = p.rtu.band then p else markS 2 { p with rtu.band := bandNow p } := by
  unfold judgeBand
  split
  · rfl
  · simp only [h]

/-- The gate's rest is read from the RLU, which a band judged while the timing is IDLE leaves alone. -/
theorem gateWork_judgeBand_rest {p : Part} (h : p.rtu.timing.state = .idle) (hr : gateRests p) :
    gateWork (judgeBand p) = judgeBand p :=
  gateWork_rest (by unfold gateRests; rw [judgeBand_rlu h]; exact hr)

/-- Settles O34, from the judgement of SET_TIME and the band judged while the timing is IDLE. -/
theorem setTimeSets : Obligations.SetTimeSets := by
  unfold Obligations.SetTimeSets
  intro b s hready hfree p day second clocked band
  have htaken : exec .setTime s = .next { s with part := setTimeCommand p } := onPart_commandWrite hready hfree 3
  have hdone : day ≤ 6 → second ≤ 86399 →
      exec .setTime s = .next { s with part := resulted .done (gateWork (judgeBand clocked)) } :=
    fun hday hsecond => by rw [htaken, setTimeCommand_done (p := p) hday hsecond]; rfl
  refine ⟨fun hbad => by rw [htaken, setTimeCommand_refused (p := p) hbad], hdone,
    fun hday hsecond hidle hrests => ?_⟩
  rw [hdone hday hsecond, gateWork_judgeBand_rest (p := clocked) hidle hrests, judgeBand_idle (p := clocked) hidle]
  rfl

/-! ## SET_ATTENTION -/

/-- A word exceeds the nine causes' positions exactly if it has a one in a position that names no cause. -/
theorem le_toNat_iff_names_no_cause (w : Word) : 512 ≤ w.toNat ↔ ∃ i : Nat, 9 ≤ i ∧ w.getLsbD i = true := by
  constructor
  · intro h
    obtain ⟨i, hi, hbit⟩ := Nat.exists_ge_and_testBit_of_ge_two_pow (n := 9) h
    exact ⟨i, hi, hbit⟩
  · rintro ⟨i, hi, hbit⟩
    exact (Nat.pow_le_pow_right (by omega) hi).trans (Nat.ge_two_pow_of_testBit hbit)

theorem setAttentionCommand_refused {p : Part} (h : ∃ i : Nat, 9 ≤ i ∧ p.bpu.arg1.getLsbD i = true) :
    setAttentionCommand p = resulted .range p := if_pos ((le_toNat_iff_names_no_cause _).mpr h)

theorem setAttentionCommand_done {p : Part} (h : ∀ i : Nat, 9 ≤ i → p.bpu.arg1.getLsbD i = false) :
    setAttentionCommand p = resulted .done (setEnable p.bpu.arg1 p) := by
  refine if_neg fun hle => ?_
  obtain ⟨i, hi, hbit⟩ := (le_toNat_iff_names_no_cause _).mp hle
  simp [h i hi] at hbit

/-- A word that names causes alone is the enable set it becomes. -/
theorem setEnable_getLsbD {w : Word} (h : ∀ i : Nat, 9 ≤ i → w.getLsbD i = false) {p : Part} (i : Nat) :
    (setEnable w p).bpu.enable.getLsbD i = w.getLsbD i := by
  change (w.setWidth 9).getLsbD i = _
  rw [BitVec.getLsbD_setWidth]
  by_cases hi : i < 9
  · simp [hi]
  · simp [h i (by omega)]

theorem lineFor_iff (causes enable : BitVec 9) :
    lineFor causes enable = true ↔ ∃ i : Nat, i < 9 ∧ causes.getLsbD i = true ∧ enable.getLsbD i = true := by
  rw [lineFor, bne_iff_ne, ne_eq, BitVec.ofNat_eq_ofNat, BitVec.zero_iff_eq_false, not_forall]
  refine exists_congr fun i => ?_
  simp only [BitVec.getLsbD_and, Bool.not_eq_false, Bool.and_eq_true]
  exact ⟨fun h => ⟨BitVec.lt_of_getLsbD h.1, h⟩, fun h => h.2⟩

theorem lineFor_eq_decide (causes enable : BitVec 9) : lineFor causes enable =
    decide (∃ i : Nat, i < 9 ∧ causes.getLsbD i = true ∧ enable.getLsbD i = true) :=
  Bool.eq_iff_iff.mpr ((lineFor_iff causes enable).trans decide_eq_true_iff.symm)

/-! ## The completion of a command -/

/-- The completion of a write whose owner acts, with no host access waiting (R66). -/
theorem writeDone_owned {owner : Group → Option Nat → Option (Part → Part)} {g : Group} {record : Option Nat}
    {a : Nat} {words : List Word} {f : Part → Part} {p : Part} (hport : p.bpu.port = some (.write g record a words))
    (howner : owner g record = some f) (hidle : (f (writtenAt a words p)).bpu.hostQueue = []) :
    writeDone owner p = f (writtenAt a words p) := by
  unfold writeDone
  rw [hport]
  simp only [howner]
  exact serveRounds_idle hidle _

/-- The result word written shows the final result of the command in flight: the command is no longer in flight, and
RESULT is set (R176). -/
theorem exec_resultWordWritten_final {v : State} {record : Option Nat} {a : Nat} {words : List Word}
    (hwrite : writeAtPort .result record a words v.part) (hfinal : showsFinal words v.part = true) :
    exec .resultWordWritten v = .next { v with part := finalWritten (writtenAt a words v.part) } := by
  obtain ⟨hqueue, hport⟩ := hwrite
  have howner : finalOwner v.part .result record = some finalWritten := by
    simp only [finalOwner, hport, hfinal, if_true]
  exact congrArg (fun q => Host.Outcome.next { v with part := q }) (writeDone_owned hport howner hqueue)

/-- The line is asserted as an enabled cause is set. -/
theorem setCause_attention {c : Cause} {p : Part} (h : p.bpu.enable.getLsbD (causePosition c) = true) :
    (setCause c p).bpu.attention = true := by
  rw [setCause_bpu_attention, lineFor_iff]
  exact ⟨_, BitVec.lt_of_getLsbD h, setCause_getLsbD c p, h⟩

/-- Settles O35, from the judgement of SET_ATTENTION, the line read cause by cause and the completion of the command. -/
theorem setAttentionReplaces : Obligations.SetAttentionReplaces := by
  unfold Obligations.SetAttentionReplaces
  intro b s hready hfree p
  have htaken : exec .setAttention s = .next { s with part := setAttentionCommand p } :=
    onPart_commandWrite hready hfree 4
  refine ⟨fun hbad => by rw [htaken, setAttentionCommand_refused (p := p) hbad], fun hgood => ?_,
    fun v record a hflight hresult henabled hwrite => ?_⟩
  · rw [setAttentionCommand_done (p := p) hgood] at htaken
    refine ⟨_, htaken, fun i => ?_, ?_, ?_⟩
    · exact setEnable_getLsbD (p := p) hgood i
    · exact lineFor_eq_decide p.bpu.causes (setEnable p.bpu.arg1 p).bpu.enable
    · rfl
  · have hfinal : showsFinal [word (ResultCode.done.code + 256 * v.part.bpu.number.toNat)] v.part = true := by
      simp [showsFinal, resultWord, hflight, hresult]
    exact ⟨_, exec_resultWordWritten_final hwrite hfinal, rfl, setCause_getLsbD .result _,
      setCause_attention henabled⟩

end Sys2Proof.Machine
end

section
/-!
PROOFS. The invariants of every step (O14 to O23) as one relation: `Keeps p q` says that what held of `p` holds of `q`,
invariant by invariant. It composes, so that each operation of the model gets one lemma `…_keeps`, proved from those of
the operations that it calls. An operation that leaves alone what an invariant reads keeps it by that alone; a field of
`Keeps` is written out where the operation has to restore something.
-/

set_option Elab.async false

namespace Sys2Proof.Machine

/-! ## What each invariant reads -/

/-- What the attention invariant reads. -/
def attentionView (p : Part) := (p.bpu.attention, p.bpu.causes, p.bpu.enable)

/-- What the restriction invariant reads. -/
def restrictionView (p : Part) := (p.cru.rows, p.cru.key, p.cru.restriction)

/-- What the band invariant reads. -/
def bandView (p : Part) := (p.rtu.band, p.rtu.calendar, p.rtu.clock)

/-- What the invariant of memory reads. -/
def memoryView (p : Part) := (p.mem, p.cu.rejects)

/-- What the call ring's invariant reads. -/
def ringView (p : Part) := (p.cc.producer, p.cc.consumer, p.cc.heldCount)

/-- What the report queue's invariant reads. -/
def queueView (p : Part) := p.cru.queue.map fun r => (r.slot, r.kind)

/-- What the order of a start reads. -/
def startView (p : Part) := (p.bpu.load, p.cau.load, p.rlu.dump)

/-- What the invariant of credit reads. -/
def creditView (p : Part) := (p.rlu.rail, p.rlu.banked)

/-- What the balance of accepted money reads. -/
def acceptedView (p : Part) :=
  (p.rlu.rail, p.cau.money.accepted, p.cau.money.refunded, p.cau.money.collected, p.cau.money.suspense)

/-- What the balance of collected money reads. -/
def collectedView (p : Part) :=
  (p.rlu.banked, p.cau.money.collected, p.cau.money.charged, p.cau.money.forfeited, p.cau.money.banked)

theorem attentionFollows_congr {p q : Part} (h : attentionView q = attentionView p) (hp : attentionFollows p) :
    attentionFollows q := by
  simp only [attentionView, Prod.mk.injEq] at h
  simpa only [attentionFollows, h] using hp

theorem restrictionHolds_of_view {p q : Part} (h : restrictionView q = restrictionView p) (hp : restrictionHolds p) :
    restrictionHolds q := by
  simp only [restrictionView, Prod.mk.injEq] at h
  obtain ⟨hr, hk, hres⟩ := h
  rewrite [restrictionHolds, derivedRestriction_congr hr hk, hres]
  exact hp

theorem bandHolds_congr {p q : Part} (h : bandView q = bandView p) (hp : bandHolds p) : bandHolds q := by
  simp only [bandView, Prod.mk.injEq] at h
  simpa only [bandHolds, h] using hp

theorem memoryCanonical_congr {p q : Part} (h : memoryView q = memoryView p) (hp : memoryCanonical p) :
    memoryCanonical q := by
  simp only [memoryView, Prod.mk.injEq] at h
  simpa only [memoryCanonical, h] using hp

theorem callRingWhole_congr {p q : Part} (h : ringView q = ringView p) (hp : callRingWhole p) : callRingWhole q := by
  simp only [ringView, Prod.mk.injEq] at h
  simpa only [callRingWhole, h] using hp

/-- The report queue's invariant, of the slots and kinds of a queue. -/
def slotsSound (l : List (Nat × ReportKind)) : Prop :=
  l.length ≤ 8 ∧ (∀ e ∈ l, e.1 < 8) ∧ (l.map (·.1)).Nodup ∧ (l.map (·.2)).Nodup

theorem reportQueueSound_iff (p : Part) : reportQueueSound p ↔ slotsSound (queueView p) := by
  simp [reportQueueSound, slotsSound, queueView, Function.comp_def]

theorem reportQueueSound_congr {p q : Part} (h : queueView q = queueView p) (hp : reportQueueSound p) :
    reportQueueSound q := by
  rewrite [reportQueueSound_iff] at *
  rwa [h]

theorem startOrder_congr {p q : Part} (h : startView q = startView p) (hp : startOrder p) : startOrder q := by
  simp only [startView, Prod.mk.injEq] at h
  simpa only [startOrder, h] using hp

theorem creditWithin_congr {p q : Part} (h : creditView q = creditView p) (hp : creditWithin p) : creditWithin q := by
  simp only [creditView, Prod.mk.injEq] at h
  simpa only [creditWithin, railValue, h] using hp

theorem acceptedBalances_congr {p q : Part} (h : acceptedView q = acceptedView p) (hp : acceptedBalances p) :
    acceptedBalances q := by
  simp only [acceptedView, Prod.mk.injEq] at h
  simpa only [acceptedBalances, railValue, h] using hp

theorem collectedBalances_congr {p q : Part} (h : collectedView q = collectedView p) (hp : collectedBalances p) :
    collectedBalances q := by
  simp only [collectedView, Prod.mk.injEq] at h
  simpa only [collectedBalances, h] using hp

theorem bankedAgrees_congr {p q : Part} (h : collectedView q = collectedView p) (hp : bankedAgrees p) : bankedAgrees q := by
  simp only [collectedView, Prod.mk.injEq] at h
  simpa only [bankedAgrees, h] using hp

/-! ## The relation -/

/-- Accepted money balances from the beginning of the start-up dump on, where it did before (O22). -/
def keepsAccepted (p q : Part) : Prop :=
  startOrder p → (p.rlu.dump ≠ .waiting → acceptedBalances p) → q.rlu.dump ≠ .waiting → acceptedBalances q

/-- Collected money balances once the start-up dump has begun, where it did before (O23). -/
def keepsCollected (p q : Part) : Prop :=
  startOrder p → p.rlu.dump ≠ .waiting → collectedBalances p → bankedAgrees p →
    q.rlu.dump ≠ .waiting ∧ collectedBalances q ∧ bankedAgrees q

theorem keepsAccepted_congr {p q : Part} (hs : q.rlu.dump = p.rlu.dump) (hm : acceptedView q = acceptedView p) :
    keepsAccepted p q := fun _ hp hq => acceptedBalances_congr hm (hp (hs ▸ hq))

theorem keepsCollected_congr {p q : Part} (hs : q.rlu.dump = p.rlu.dump) (hm : collectedView q = collectedView p) :
    keepsCollected p q := fun _ hd hc hb =>
  ⟨hs ▸ hd, collectedBalances_congr hm hc, bankedAgrees_congr hm hb⟩

/-- Every invariant of a step but that of the band (O14, O15, O17 to O23). -/
structure KeepsButBand (p q : Part) : Prop where
  attention : attentionFollows p → attentionFollows q := by exact attentionFollows_congr rfl
  restriction : restrictionHolds p → restrictionHolds q := by exact restrictionHolds_of_view rfl
  memory : memoryCanonical p → memoryCanonical q := by exact memoryCanonical_congr rfl
  credit : creditWithin p → creditWithin q := by exact creditWithin_congr rfl
  ring : callRingWhole p → callRingWhole q := by exact callRingWhole_congr rfl
  queue : reportQueueSound p → reportQueueSound q := by exact reportQueueSound_congr rfl
  order : startOrder p → startOrder q := by exact startOrder_congr rfl
  accepted : keepsAccepted p q := by exact keepsAccepted_congr rfl rfl
  collected : keepsCollected p q := by exact keepsCollected_congr rfl rfl

/-- Every invariant of a step (O14 to O23). -/
structure Keeps (p q : Part) : Prop extends KeepsButBand p q where
  band : bandHolds p → bandHolds q := by exact bandHolds_congr rfl

theorem KeepsButBand.trans {p q r : Part} (h : KeepsButBand p q) (k : KeepsButBand q r) : KeepsButBand p r where
  attention := k.attention ∘ h.attention
  restriction := k.restriction ∘ h.restriction
  memory := k.memory ∘ h.memory
  credit := k.credit ∘ h.credit
  ring := k.ring ∘ h.ring
  queue := k.queue ∘ h.queue
  order := k.order ∘ h.order
  accepted := fun ho ha => k.accepted (h.order ho) (h.accepted ho ha)
  collected := fun ho hd hc hb =>
    have ⟨hd', hc', hb'⟩ := h.collected ho hd hc hb
    k.collected (h.order ho) hd' hc' hb'

theorem Keeps.trans {p q r : Part} (h : Keeps p q) (k : Keeps q r) : Keeps p r where
  toKeepsButBand := h.toKeepsButBand.trans k.toKeepsButBand
  band := k.band ∘ h.band

/-- What the invariants but that of the band read, taken together. -/
def viewsButBand (p : Part) := (attentionView p, restrictionView p, memoryView p, creditView p, ringView p, queueView p,
  startView p, acceptedView p, collectedView p)

/-- What leaves alone all that these invariants read keeps them. -/
theorem KeepsButBand.ofViews {p q : Part} (h : viewsButBand q = viewsButBand p) : KeepsButBand p q := by
  simp only [viewsButBand, Prod.mk.injEq] at h
  obtain ⟨hattention, hrestriction, hmemory, hcredit, hring, hqueue, hstart, haccepted, hcollected⟩ := h
  have hdump : q.rlu.dump = p.rlu.dump := congrArg (fun v => v.2.2) hstart
  exact {
    attention := attentionFollows_congr hattention
    restriction := restrictionHolds_of_view hrestriction
    memory := memoryCanonical_congr hmemory
    credit := creditWithin_congr hcredit
    ring := callRingWhole_congr hring
    queue := reportQueueSound_congr hqueue
    order := startOrder_congr hstart
    accepted := keepsAccepted_congr hdump haccepted
    collected := keepsCollected_congr hdump hcollected }

/-- What the invariants read, taken together. -/
def views (p : Part) := (viewsButBand p, bandView p)

theorem Keeps.ofViews {p q : Part} (h : views q = views p) : Keeps p q where
  toKeepsButBand := .ofViews (congrArg Prod.fst h)
  band := bandHolds_congr (congrArg Prod.snd h)

theorem Keeps.refl (p : Part) : Keeps p p := .ofViews rfl

/-- A step whose first part leaves alone what the invariants read. -/
theorem Keeps.after {p q r : Part} (h : Keeps q r) (hviews : views q = views p) : Keeps p r :=
  (Keeps.ofViews hviews).trans h

/-! ## The dirty set, requests and results (State of the Bus Path Unit) -/

theorem mark_keeps (g : Group) (p : Part) : Keeps p (mark g p) := .ofViews rfl

theorem markS_keeps (k : Nat) (p : Part) : Keeps p (markS k p) := .ofViews rfl

theorem markAll_keeps (gs : List Group) (p : Part) : Keeps p (markAll gs p) := by
  induction gs generalizing p with
  | nil => exact .refl p
  | cons g gs ih => exact (mark_keeps g p).trans (ih _)

theorem requestRead_keeps (r : ReadPurpose) (p : Part) : Keeps p (requestRead r p) := .ofViews rfl

theorem complete_keeps (c : ResultCode) (p : Part) : Keeps p (complete c p) := .ofViews rfl

theorem completeIf_keeps (n : Nat) (c : ResultCode) (p : Part) : Keeps p (completeIf n c p) := by
  unfold completeIf
  split
  · exact complete_keeps c p
  · exact .refl p

/-! ## Attention (R186) -/

theorem setCause_keeps (c : Cause) (p : Part) : Keeps p (setCause c p) := { attention := fun _ => rfl }

theorem clearCauses_keeps (d : Word) (p : Part) : Keeps p (clearCauses d p) := { attention := fun _ => rfl }

theorem setEnable_keeps (w : Word) (p : Part) : Keeps p (setEnable w p) := { attention := fun _ => rfl }

end Sys2Proof.Machine
end

section
/-!
PROOFS. The line's grants, the report queue and the condition table keep the invariants of a step.
Every fortieth lemma or so, from here on, is elaborated in turn (`Elab.async false`): that bounds how many proofs are
open at a time.
-/

namespace Sys2Proof.Machine

/-! ## The line's grants (R108 to R112) -/

set_option Elab.async false in
theorem enterClearing_keeps (p : Part) : Keeps p (enterClearing p) := .ofViews rfl

theorem releaseLine_keeps (o : Owner) (p : Part) : Keeps p (releaseLine o p) := by
  unfold releaseLine
  have h : Keeps p (if o = .customer then { p with lu.waitingSeize := none } else p) := by split <;> exact .ofViews rfl
  extract_lets _ q
  split
  · exact h.trans (enterClearing_keeps q)
  · exact h

theorem currentSeen_keeps (s : Polarity) (p : Part) : Keeps p (currentSeen s p) := .ofViews rfl

theorem grantSeize_keeps (o : Owner) (n : List Nat) (p : Part) : Keeps p (grantSeize o n p) := by
  unfold grantSeize
  extract_lets _ q
  have h : Keeps p q := .ofViews rfl
  split
  · exact h
  · exact h.trans (currentSeen_keeps _ q)

theorem askCustomerSeize_keeps (n : List Nat) (p : Part) : Keeps p (askCustomerSeize n p) := by
  unfold askCustomerSeize
  split
  · exact .refl p
  · split
    · exact grantSeize_keeps _ _ p
    · exact .ofViews rfl

theorem probeAsk_keeps (p : Part) : Keeps p (probeAsk p) := by
  unfold probeAsk
  split
  · exact Keeps.after (grantSeize_keeps .probe [] { p with lu.probeDue := false }) rfl
  · exact .refl p

theorem reportAsk_keeps (p : Part) : Keeps p (reportAsk p) := by
  unfold reportAsk
  split
  · split
    · exact Keeps.after (grantSeize_keeps .report _ _) rfl
    · exact .refl p
  · exact .refl p

theorem enterIdle_keeps (p : Part) : Keeps p (enterIdle p) := .ofViews rfl

theorem endClearing_keeps (p : Part) : Keeps p (endClearing p) := by
  unfold endClearing
  split
  · exact grantSeize_keeps _ _ p
  · exact ((enterIdle_keeps p).trans (probeAsk_keeps _)).trans (reportAsk_keeps _)

/-! ## The report queue (R161 to R166) -/

theorem slotsSound_of_sublist {l m : List (Nat × ReportKind)} (h : m.Sublist l) (hl : slotsSound l) : slotsSound m := by
  obtain ⟨hn, h8, hs, hk⟩ := hl
  exact ⟨h.length_le.trans hn, fun e he => h8 e (h.subset he), hs.sublist (h.map _), hk.sublist (h.map _)⟩

theorem slotsSound_append {l : List (Nat × ReportKind)} {s : Nat} {k : ReportKind} (hl : slotsSound l)
    (hn : l.length < 8) (h8 : s < 8) (hs : s ∉ l.map (·.1)) (hk : k ∉ l.map (·.2)) : slotsSound (l ++ [(s, k)]) := by
  obtain ⟨_, hl8, hls, hlk⟩ := hl
  refine ⟨by simpa using hn, ?_, ?_, ?_⟩
  · intro e he
    rcases List.mem_append.1 he with he | he
    · exact hl8 e he
    · obtain rfl := List.mem_singleton.1 he
      exact h8
  · rewrite [List.map_append]
    exact hls.append (List.nodup_singleton _) (by simpa using hs)
  · rewrite [List.map_append]
    exact hlk.append (List.nodup_singleton _) (by simpa using hk)

/-- With fewer than eight records one of the eight slots is empty, and it is the one taken. -/
theorem emptySlot_spec {queue : List ReportRecord} (h : queue.length < 8) :
    emptySlot queue < 8 ∧ emptySlot queue ∉ queue.map (·.slot) := by
  unfold emptySlot
  cases hf : ([0, 1, 2, 3, 4, 5, 6, 7] : List Nat).find? fun s => !(queue.any fun r => r.slot == s) with
  | some s =>
    have hm := List.mem_of_find?_eq_some hf
    have hs := List.find?_some hf
    refine ⟨?_, ?_⟩
    · simp only [Option.getD_some]
      simp at hm
      omega
    · simpa using hs
  | none =>
    have hall := List.find?_eq_none.1 hf
    have hsub : ([0, 1, 2, 3, 4, 5, 6, 7] : List Nat) ⊆ queue.map (·.slot) := by
      intro s hs
      simpa using hall s hs
    have hle := (List.Nodup.subperm (by decide : ([0, 1, 2, 3, 4, 5, 6, 7] : List Nat).Nodup) hsub).length_le
    simp at hle
    omega

theorem cancelBackoff_keeps (p : Part) : Keeps p (cancelBackoff p) := by
  unfold cancelBackoff
  split
  · exact .ofViews rfl
  · exact .refl p

theorem countDropped_keeps (p : Part) : Keeps p (countDropped p) := .ofViews rfl

/-- Another queue, which has to be sound. -/
theorem Keeps.withQueue {p q : Part} (h : Keeps p q) (n : Total) {l : List ReportRecord}
    (hl : reportQueueSound p → slotsSound (l.map fun r => (r.slot, r.kind))) :
    Keeps p { q with cru.sequence := n, cru.queue := l } where
  attention hp := attentionFollows_congr rfl (h.attention hp)
  restriction hp := restrictionHolds_of_view rfl (h.restriction hp)
  memory hp := memoryCanonical_congr rfl (h.memory hp)
  credit hp := creditWithin_congr rfl (h.credit hp)
  ring hp := callRingWhole_congr rfl (h.ring hp)
  queue hp := (reportQueueSound_iff _).2 (hl hp)
  order hp := startOrder_congr rfl (h.order hp)
  accepted ho hp hq := acceptedBalances_congr rfl (h.accepted ho hp hq)
  collected ho hd hc hb :=
    have ⟨hd', hc', hb'⟩ := h.collected ho hd hc hb
    ⟨hd', collectedBalances_congr rfl hc', bankedAgrees_congr rfl hb'⟩
  band hp := bandHolds_congr rfl (h.band hp)

/-- A record joins the queue; the queue with it has to be sound. -/
theorem joinRecord_keeps_of {p q : Part} {kind : ReportKind} {slot : Nat} (hq : Keeps p q)
    (hs : reportQueueSound p → slotsSound (queueView q ++ [(slot, kind)])) (d : Nat) :
    Keeps p (joinRecord kind d slot q) := by
  unfold joinRecord
  extract_lets record _ r
  have hr : Keeps p r := (hq.withQueue _ fun hp => by simpa [queueView, record] using hs hp).trans (mark_keeps _ _)
  refine Keeps.trans ?_ (reportAsk_keeps _)
  split
  · exact hr.trans (cancelBackoff_keeps r)
  · exact hr

/-- Of records in slots of their own, those in other slots than a queued one's are fewer, and none is of its kind's slot.
-/
theorem slotsSound_displaced {p : Part} {old : ReportRecord} {kind : ReportKind} (ho : old ∈ p.cru.queue)
    (hk : kind ∉ p.cru.queue.map (·.kind)) (hp : reportQueueSound p) :
    slotsSound (queueView { p with cru.queue := p.cru.queue.filter fun r => r.slot != old.slot }
      ++ [(old.slot, kind)]) := by
  have hsub : (p.cru.queue.filter fun r => r.slot != old.slot).Sublist p.cru.queue := List.filter_sublist
  have hlt : (p.cru.queue.filter fun r => r.slot != old.slot).length < p.cru.queue.length :=
    List.length_filter_lt_length_iff_exists.2 ⟨old, ho, by simp⟩
  have h8 : p.cru.queue.length ≤ 8 := hp.1
  refine slotsSound_append (slotsSound_of_sublist (hsub.map _) ((reportQueueSound_iff p).1 hp)) ?_ (hp.2.1 old ho) ?_ ?_
  · simp only [queueView, List.length_map]; omega
  · simp [queueView]
  · intro hm
    apply hk
    simp only [queueView, List.map_map, List.mem_map, List.mem_filter] at hm
    obtain ⟨r, ⟨hr, _⟩, rfl⟩ := hm
    exact List.mem_map_of_mem hr

/-- A new record of a kind that is not queued. -/
theorem newRecord_keeps {kind : ReportKind} {p : Part} (hk : kind ∉ p.cru.queue.map (·.kind)) (d : Nat) :
    Keeps p (newRecord kind d p) := by
  unfold newRecord
  split
  case isTrue hlt =>
    obtain ⟨h8, hn⟩ := emptySlot_spec hlt
    refine joinRecord_keeps_of (.refl p) (fun hp => ?_) d
    exact slotsSound_append ((reportQueueSound_iff p).1 hp) (by simpa [queueView] using hlt) h8
      (by simpa [queueView] using hn) (by simpa [queueView] using hk)
  case isFalse =>
    split
    · split
      case h_1 old hold =>
        have ho : old ∈ p.cru.queue := List.mem_of_find?_eq_some hold
        have hf : Keeps p (countDropped { p with cru.queue := p.cru.queue.filter fun r => r.slot != old.slot }) :=
          { queue := fun hp => (reportQueueSound_iff _).2
              (slotsSound_of_sublist (List.filter_sublist.map _) ((reportQueueSound_iff p).1 hp)) }
        exact joinRecord_keeps_of hf (slotsSound_displaced ho hk) d
      case h_2 => exact countDropped_keeps p
    · exact countDropped_keeps p

/-- A change of a record that leaves its slot and its kind. -/
theorem changeRecord_keeps {f : ReportRecord → ReportRecord} (hf : ∀ r, (f r).slot = r.slot ∧ (f r).kind = r.kind)
    (s : Nat) (p : Part) : Keeps p (changeRecord s f p) := by
  have hv : queueView (changeRecord s f p) = queueView p := by
    simp only [queueView, changeRecord, mark_cru, List.map_map]
    refine List.map_congr_left fun r _ => ?_
    simp only [Function.comp_apply]
    split
    · rw [(hf r).1, (hf r).2]
    · rfl
  exact { queue := reportQueueSound_congr hv }

theorem enqueueRaise_keeps (k : Condition) (d : Nat) (b : Bool) (p : Part) : Keeps p (enqueueRaise k d b p) := by
  unfold enqueueRaise
  split
  case h_1 => exact changeRecord_keeps (f := mergeRecord p.rtu.clock d) (fun _ => ⟨rfl, rfl⟩) _ p
  case h_2 hn =>
    split
    · refine newRecord_keeps ?_ d
      intro hm
      obtain ⟨r, hr, hrk⟩ := List.mem_map.1 hm
      exact List.find?_eq_none.1 hn r hr (by simp [hrk])
    · exact .refl p

/-! ## The condition table and the restriction (R149, R150, R155) -/

/-- The part with the restriction derived. -/
def withDerived (p : Part) : Part := { p with cru.restriction := derivedRestriction p }

theorem withDerived_holds (p : Part) : restrictionHolds (withDerived p) := derivedRestriction_congr rfl rfl

/-- A derivation restores the restriction's invariant, whatever row or key has changed. -/
theorem deriveRestriction_keeps_of {p q : Part} (h : Keeps p (withDerived q)) : Keeps p (deriveRestriction q) := by
  unfold deriveRestriction
  split
  case isTrue heq =>
    have : withDerived q = q := by unfold withDerived; rw [heq]
    rwa [this] at h
  case isFalse => exact (h.trans (markS_keeps 0 _)).trans (setCause_keeps .service _)

theorem deriveRestriction_setRow_keeps (k : Condition) (r : ConditionRow) (p : Part) :
    Keeps p (deriveRestriction (setRow k r p)) :=
  deriveRestriction_keeps_of { restriction := fun _ => withDerived_holds _ }

/-- What a raise and a clear make of the table, as S7 and CONDITION show it. -/
theorem changeRow_keeps (k : Condition) (r : ConditionRow) (p : Part) :
    Keeps p (setCause .condition (markS 7 (deriveRestriction (setRow k r p)))) :=
  ((deriveRestriction_setRow_keeps k r p).trans (markS_keeps 7 _)).trans (setCause_keeps .condition _)

theorem raise_keeps (k : Condition) (d : Nat) (p : Part) : Keeps p (raise k d p) := by
  unfold raise
  extract_lets q
  have hq : Keeps p q := changeRow_keeps k _ p
  split
  · exact hq
  · exact hq.trans (enqueueRaise_keeps k d _ q)

theorem clear_keeps (k : Condition) (p : Part) : Keeps p (clear k p) := by
  unfold clear
  split
  · exact changeRow_keeps k _ p
  · exact .refl p

theorem raiseLineDown_keeps (d : Nat) (p : Part) : Keeps p (raiseLineDown d p) := by
  unfold raiseLineDown
  refine Keeps.trans ?_ (raise_keeps _ _ _)
  split
  · exact .refl p
  · exact .ofViews rfl

theorem clearLineDown_keeps (p : Part) : Keeps p (clearLineDown p) := by
  unfold clearLineDown
  refine Keeps.trans ?_ (clear_keeps _ _)
  split
  · exact .ofViews rfl
  · exact .refl p

theorem serviceChanges_keeps (b : Bool) (p : Part) : Keeps p (serviceChanges { p with cru.key := some b }) :=
  have h : Keeps p (deriveRestriction { p with cru.key := some b }) :=
    deriveRestriction_keeps_of { restriction := fun _ => withDerived_holds _ }
  (h.trans (markS_keeps 0 _)).trans (setCause_keeps .service _)

end Sys2Proof.Machine
end

section
/-!
PROOFS. Charging, the call's states and the money of the rail keep the invariants of a step.
-/

namespace Sys2Proof.Machine

/-! ## Step timing and the band in force (R94 to R107) -/

set_option Elab.async false in
theorem examineCredit_keeps (p : Part) : Keeps p (examineCredit p) := by
  unfold examineCredit
  split
  · exact .refl p
  · split
    · split
      · exact .refl p
      · exact Keeps.after (setCause_keeps .lowCredit (markS 1 { p with cc.low := true })) rfl
    · split
      · exact .ofViews rfl
      · exact .refl p

theorem reexamineCredit_keeps (p : Part) : Keeps p (reexamineCredit p) := by
  unfold reexamineCredit
  split
  · exact examineCredit_keeps p
  · exact .refl p

theorem sendCharge_keeps (a : Nat) (p : Part) : Keeps p (sendCharge a p) := .ofViews rfl

theorem enterWaiting_keeps (p : Part) : Keeps p (enterWaiting p) := .ofViews rfl

theorem enterHeld_keeps (t : Tick) (b : Nat) (p : Part) : Keeps p (enterHeld t b p) := .ofViews rfl

theorem takePassedEnd_keeps (p : Part) : Keeps p (takePassedEnd p) := by
  unfold takePassedEnd
  split
  · split
    · exact enterWaiting_keeps p
    · exact enterHeld_keeps _ _ p
  · exact .refl p

theorem beginDueStep_keeps (t : Tick) (b : Nat) (p : Part) : Keeps p (beginDueStep t b p) :=
  Keeps.after (takePassedEnd_keeps _) rfl

theorem stepDue_keeps (t : Tick) (b : Nat) (p : Part) : Keeps p (stepDue t b p) := by
  unfold stepDue
  split
  · exact beginDueStep_keeps t b p
  · exact enterHeld_keeps t b p

theorem endStep_keeps (p : Part) : Keeps p (endStep p) := by
  unfold endStep
  split
  · exact enterWaiting_keeps p
  · exact stepDue_keeps _ _ p

theorem reportPaid_keeps (p : Part) : Keeps p (reportPaid p) := by
  unfold reportPaid
  extract_lets _ q
  have hq : Keeps p q := .ofViews rfl
  split
  · exact hq.trans (beginDueStep_keeps _ _ q)
  · exact hq

theorem beginAnswerStep_keeps (p : Part) : Keeps p (beginAnswerStep p) := by
  unfold beginAnswerStep
  extract_lets band _ _ q
  have hq : Keeps p q := by
    simp only [q]
    split <;> exact .ofViews rfl
  exact hq.trans (Keeps.after (sendCharge_keeps _ { q with cc.paid := false }) rfl)

/-- The band judged anew is the calendar's for the wall clock, whatever has changed of the two. -/
theorem judgeBand_keeps_of {p q : Part} (h : KeepsButBand p q) : Keeps p (judgeBand q) := by
  unfold judgeBand
  split
  case isTrue heq => exact { h with band := fun _ => heq.symm }
  case isFalse =>
    have hr : Keeps p { q with rtu.band := bandNow q } :=
      { h.trans (r := { q with rtu.band := bandNow q }) (.ofViews rfl) with band := fun _ => rfl }
    extract_lets _ r
    cases r.rtu.timing.state with
    | idle => exact hr.trans (markS_keeps 2 r)
    | running => exact hr
    | held => exact hr
    | waiting =>
      dsimp only
      split
      · exact hr
      · exact hr.trans (Keeps.after (stepDue_keeps _ _ { r with rtu.timing.carry := 0 }) rfl)

theorem stopCharging_keeps (p : Part) : Keeps p (stopCharging p) := by
  unfold stopCharging
  extract_lets
  split <;> exact .ofViews rfl

/-! ## The call ring and the call's state (R134, R135, R145, R146) -/

theorem appendRecord_keeps (r : RingRecord) (p : Part) : Keeps p (appendRecord r p) := by
  unfold appendRecord
  split
  case isTrue hlt =>
    refine Keeps.trans ?_ (setCause_keeps .record _)
    refine { ring := fun ⟨hc, hh, hp⟩ => ⟨hc, hlt, ?_⟩ }
    simp only [markS_cc, mark_cc]
    omega
  case isFalse => exact Keeps.after (setCause_keeps .record _) rfl

/-- A written index is the consumer index and what it frees, but for whole turns of the ring. -/
theorem freedBy_turns {w c : Nat} (hw : w < 64) (hc : c < 64) (held : Nat) :
    ∃ turns, w + 64 * turns = c + freedBy w c held := by
  unfold freedBy
  dsimp only
  by_cases hle : c ≤ w
  · have hfreed : (w + 64 - c) % 64 = w - c := by
      rw [Nat.sub_add_comm hle, Nat.add_mod_right, Nat.mod_eq_of_lt (by omega)]
    rewrite [hfreed]
    split
    · exact ⟨1, by omega⟩
    · exact ⟨0, by omega⟩
  · have hfreed : (w + 64 - c) % 64 = w + 64 - c := Nat.mod_eq_of_lt (by omega)
    rewrite [hfreed, if_neg (by omega)]
    exact ⟨1, by omega⟩

theorem takeConsumerIndex_keeps (v : Nat) (p : Part) : Keeps p (takeConsumerIndex v p) := by
  unfold takeConsumerIndex
  extract_lets f
  split
  case isTrue hf =>
    refine { ring := fun ⟨hc, hh, hp⟩ => ⟨Nat.mod_lt _ (by decide), (Nat.sub_le _ _).trans hh, ?_⟩ }
    obtain ⟨turns, hturns⟩ : ∃ turns, v % 64 + 64 * turns = p.cc.consumer + f :=
      freedBy_turns (Nat.mod_lt _ (by decide)) hc _
    calc p.cc.producer = (p.cc.consumer + p.cc.heldCount) % 64 := hp
      _ = (v % 64 + (p.cc.heldCount - f) + 64 * turns) % 64 := by congr 1; omega
      _ = (v % 64 + (p.cc.heldCount - f)) % 64 := Nat.add_mul_mod_self_left _ _ _
  case isFalse => exact .refl p

theorem setCall_keeps (c : CallState) (p : Part) : Keeps p (setCall c p) := by
  unfold setCall
  split
  · exact .refl p
  · exact Keeps.after (setCause_keeps .call (markS 0 { p with cc.call := c })) rfl

theorem clearDigits_keeps (p : Part) : Keeps p (clearDigits p) := by
  unfold clearDigits
  split
  · exact .refl p
  · exact .ofViews rfl

theorem enterCollecting_keeps (p : Part) : Keeps p (enterCollecting p) :=
  (clearDigits_keeps p).trans (setCall_keeps _ _)

/-! ## The account's records (R42) -/

theorem markSlot_keeps (s : Nat) (p : Part) : Keeps p (markSlot s p) := .ofViews rfl

theorem markRecord_keeps (n : Nat) (p : Part) : Keeps p (markRecord n p) := by
  unfold markRecord
  split
  · exact .refl p
  · exact markSlot_keeps _ p

theorem bookTypes_keeps (f : TypeCounts → TypeCounts) (p : Part) : Keeps p (bookTypes f p) :=
  Keeps.after (markRecord_keeps 2 { p with cau.types := f p.cau.types }) rfl

/-- MONEY takes other figures; what it balances has to be kept. -/
theorem bookMoney_keeps_of {f : Money → Money} {p q : Part} (h : Keeps p { q with cau.money := f q.cau.money }) :
    Keeps p (bookMoney f q) := h.trans (markRecord_keeps 1 _)

theorem countEvent_keeps (e : CountEvent) (p : Part) : Keeps p (countEvent e p) := by
  unfold countEvent
  split
  · exact Keeps.after (markRecord_keeps 3 { p with cau.calls := addCounts e p.cau.calls }) rfl
  · exact .ofViews rfl

theorem foldl_countEvent_keeps (es : List CountEvent) (p : Part) :
    Keeps p (es.foldl (fun p e => countEvent e p) p) := by
  induction es generalizing p with
  | nil => exact .refl p
  | cons e es ih => exact (countEvent_keeps e p).trans (ih _)

theorem foldl_markRecord_keeps (ns : List Nat) (p : Part) :
    Keeps p (ns.foldl (fun p n => markRecord n p) p) := by
  induction ns generalizing p with
  | nil => exact .refl p
  | cons n ns ih => exact (markRecord_keeps n p).trans (ih _)

/-! ## Money on the rail (R18, R27, R43) -/

theorem creditFollows_keeps (n : Nat) (p : Part) : Keeps p (creditFollows n p) := by
  unfold creditFollows
  extract_lets q
  have hq : Keeps p q := by
    simp only [q]
    split
    · exact .refl p
    · exact markS_keeps 2 p
  exact hq.trans (reexamineCredit_keeps q)

theorem railChange_keeps {f : Part → Part} {p : Part} (h : Keeps p (f p)) : Keeps p (railChange f p) :=
  ((h.trans (markS_keeps 1 _)).trans (setCause_keeps .credit _)).trans (creditFollows_keeps _ _)

theorem owedChange_keeps {f : Part → Part} {p : Part} (h : Keeps p (f p)) : Keeps p (owedChange f p) := by
  unfold owedChange
  extract_lets q
  split
  · exact h
  · exact (h.trans (markS_keeps 1 q)).trans (creditFollows_keeps _ _)

theorem bookCollect_keeps {p : Part} {c : Coin} {rest : List Coin} (hr : p.rlu.rail = c :: rest) :
    Keeps p (bookCollect c p) := by
  refine Keeps.trans (bookMoney_keeps_of { credit := ?_, accepted := ?_, collected := ?_ }) (bookTypes_keeps _ _)
  · rintro ⟨hl, hv⟩
    simp only [creditWithin, dropHead, railValue, hr, List.length_cons, sumValues, List.drop_succ_cons, List.drop_zero]
      at *
    omega
  · intro _ hp hq
    have hb := hp hq
    simp only [acceptedBalances, dropHead, dropHeadType, addTo, railValue, hr, sumValues, List.drop_succ_cons,
      List.drop_zero, BitVec.ofNat_add] at *
    rewrite [hb]
    ac_rfl
  · intro _ hd hc hb
    simp only [collectedBalances, bankedAgrees, dropHead, dropHeadType, addTo, BitVec.ofNat_add] at *
    refine ⟨hd, ?_, by rw [hb]⟩
    rewrite [hc]
    ac_rfl

theorem bookRefund_keeps {p : Part} {c : Coin} {rest : List Coin} (hr : p.rlu.rail = c :: rest) :
    Keeps p (bookRefund c p) := by
  refine bookMoney_keeps_of { credit := ?_, accepted := ?_ }
  · rintro ⟨hl, hv⟩
    simp only [creditWithin, dropHead, railValue, hr, List.length_cons, sumValues, List.drop_succ_cons, List.drop_zero]
      at *
    omega
  · intro _ hp hq
    have hb := hp hq
    simp only [acceptedBalances, dropHead, dropHeadType, addTo, railValue, hr, sumValues, List.drop_succ_cons,
      List.drop_zero, BitVec.ofNat_add] at *
    rewrite [hb]
    ac_rfl

theorem bookSuspense_keeps {p : Part} {c : Coin} {rest : List Coin} (hr : p.rlu.rail = c :: rest) :
    Keeps p (bookSuspense c p) := by
  refine bookMoney_keeps_of { credit := ?_, accepted := ?_ }
  · rintro ⟨hl, hv⟩
    simp only [creditWithin, dropHead, railValue, hr, List.length_cons, sumValues, List.drop_succ_cons, List.drop_zero]
      at *
    omega
  · intro _ hp hq
    have hb := hp hq
    simp only [acceptedBalances, dropHead, dropHeadType, addTo, railValue, hr, sumValues, List.drop_succ_cons,
      List.drop_zero, BitVec.ofNat_add] at *
    rewrite [hb]
    ac_rfl

theorem bookCharge_keeps {p : Part} {a : Nat} (ha : a ≤ p.rlu.banked) : Keeps p (bookCharge a p) := by
  refine bookMoney_keeps_of { credit := ?_, collected := ?_ }
  · rintro ⟨hl, hv⟩
    exact ⟨hl, by simp only [railValue] at *; omega⟩
  · intro _ hd hc hb
    simp only [collectedBalances, bankedAgrees, addTo] at *
    refine ⟨hd, ?_, by rw [hb]⟩
    rewrite [hc, show p.cau.money.banked = a + (p.cau.money.banked - a) by omega, BitVec.ofNat_add, Nat.add_sub_cancel_left]
    ac_rfl

theorem bookForfeit_keeps (p : Part) : Keeps p (bookForfeit p) := by
  refine bookMoney_keeps_of { credit := ?_, collected := ?_ }
  · rintro ⟨hl, hv⟩
    exact ⟨hl, by simp only [railValue] at *; omega⟩
  · intro _ hd hc hb
    simp only [collectedBalances, bankedAgrees, addTo] at *
    refine ⟨hd, ?_, by rw [hb, Nat.sub_self]⟩
    rewrite [hc, hb, Nat.sub_self, BitVec.add_zero]
    ac_rfl

/-! ## The vault's conditions and the gate's cycles (R20, R21, R53) -/

/-- A raise behind a condition. -/
theorem raise_keeps_if {c : Prop} [Decidable c] {p q : Part} (h : Keeps p q) (k : Condition) (d : Nat) :
    Keeps p (if c then raise k d q else q) := by
  split
  · exact h.trans (raise_keeps k d q)
  · exact h

theorem judgeVault_keeps (p : Part) : Keeps p (judgeVault p) := by
  unfold judgeVault
  split
  · exact .refl p
  · exact raise_keeps_if (raise_keeps_if (.refl p) _ _) _ _

theorem judgeCapacity_keeps (p : Part) : Keeps p (judgeCapacity p) := by
  unfold judgeCapacity
  split
  · exact .refl p
  · exact raise_keeps_if (raise_keeps_if (.refl p) _ _) _ _

theorem takeCapacity_keeps (p : Part) : Keeps p (takeCapacity p) := Keeps.after (judgeCapacity_keeps _) rfl

theorem beginCycle_keeps (g : GateState) (p : Part) : Keeps p (beginCycle g p) := railChange_keeps (.ofViews rfl)

theorem endCycle_keeps (g : GateState) (p : Part) : Keeps p (endCycle g p) := by
  unfold endCycle
  extract_lets _ q
  have hq : Keeps p q := .ofViews rfl
  split
  · exact hq.trans (Keeps.after (completeIf_keeps 7 .done { q with rlu.clearWaits := false }) rfl)
  · exact hq

set_option Elab.async false in
theorem settle_keeps (p : Part) : Keeps p (settle p) := by
  unfold settle
  extract_lets q
  have hq : Keeps p q := by
    simp only [q]
    split
    · exact .refl p
    · exact railChange_keeps (bookForfeit_keeps p)
  exact hq.trans (owedChange_keeps (.ofViews rfl))

theorem hangUpSettlement_keeps (p : Part) : Keeps p (hangUpSettlement p) := by
  unfold hangUpSettlement
  split
  · exact .ofViews rfl
  · exact settle_keeps p

theorem settleIfDue_keeps (p : Part) : Keeps p (settleIfDue p) := by
  unfold settleIfDue
  split
  · exact settle_keeps p
  · exact .refl p

/-! ## The end of a call and the gate's work (R25, R31, R142) -/

theorem unlockFor_keeps (c : PlacedCall) (p : Part) : Keeps p (unlockFor c p) := by
  unfold unlockFor
  split
  · exact .ofViews rfl
  · exact .refl p

theorem recordCall_keeps (c : PlacedCall) (e : EndingMark) (n : Nat) (p : Part) : Keeps p (recordCall c e n p) :=
  (appendRecord_keeps _ p).trans (countEvent_keeps _ _)

theorem leaveCall_keeps (p : Part) : Keeps p (leaveCall p) := by
  unfold leaveCall
  extract_lets _ q
  have hq : Keeps p q := .ofViews rfl
  split
  · exact hq.trans (enterCollecting_keeps q)
  · exact hq.trans (setCall_keeps _ q)

theorem completeEnding_keeps (p : Part) : Keeps p (completeEnding p) := by
  unfold completeEnding
  split
  · exact .refl p
  · exact (((((releaseLine_keeps _ p).trans (settleIfDue_keeps _)).trans (unlockFor_keeps _ _)).trans
      (recordCall_keeps _ _ _ _)).trans (leaveCall_keeps _)).trans (completeIf_keeps _ _ _)

theorem endCall_keeps (o : CallOutcome) (p : Part) : Keeps p (endCall o p) := by
  unfold endCall
  extract_lets _ q r
  have hr : Keeps p r := Keeps.after ((stopCharging_keeps q).trans (setCall_keeps _ _)) rfl
  split
  · exact hr
  · exact hr.trans (completeEnding_keeps r)

theorem enterGrace_keeps (a : Nat) (p : Part) : Keeps p (enterGrace a p) := Keeps.after (setCall_keeps .grace _) rfl

theorem answerCharged_keeps (a : Nat) (p : Part) : Keeps p (answerCharged a p) := by
  unfold answerCharged
  extract_lets _ q
  have hq : Keeps p q := .ofViews rfl
  split
  · exact hq.trans (completeEnding_keeps q)
  · exact hq.trans ((examineCredit_keeps q).trans (reportPaid_keeps _))
  · exact hq.trans (Keeps.after ((examineCredit_keeps _).trans ((setCall_keeps .talking _).trans
      (reportPaid_keeps _))) rfl)
  all_goals exact hq

theorem answerShort_keeps (a : Nat) (p : Part) : Keeps p (answerShort a p) := by
  unfold answerShort
  extract_lets _ q r
  have hq : Keeps p q := .ofViews rfl
  split
  · exact hq.trans (completeEnding_keeps q)
  · exact hq.trans ((examineCredit_keeps q).trans (enterGrace_keeps a _))
  · have hr : Keeps p r := hq.trans (examineCredit_keeps q)
    split
    · exact hr.trans (endCall_keeps _ r)
    · split
      · exact hr.trans (Keeps.after (sendCharge_keeps _ { r with cc.noted := false }) rfl)
      · exact hr
  all_goals exact hq

theorem deduct_keeps {a : Nat} {p : Part} (ha : a ≤ p.rlu.banked) : Keeps p (deduct a p) :=
  (railChange_keeps (bookCharge_keeps ha)).trans (answerCharged_keeps a _)

theorem takeUpCharge_keeps (a : Nat) (p : Part) : Keeps p (takeUpCharge a p) := by
  unfold takeUpCharge
  split
  · exact deduct_keeps ‹_›
  · split
    · exact answerShort_keeps a p
    · exact .ofViews rfl

theorem beginRefund_keeps (p : Part) : Keeps p (beginRefund p) := .ofViews rfl

theorem gateTurn_keeps (p : Part) : Keeps p (gateTurn p).1 := by
  unfold gateTurn
  split
  · exact .refl p
  · split
    · exact .refl p
    · exact .refl p
    · split
      · dsimp only
        split
        · exact deduct_keeps ‹_›
        · exact answerShort_keeps _ p
      · exact .refl p
    · split
      · split
        · exact deduct_keeps ‹_›
        · exact beginCycle_keeps _ p
      · exact .ofViews rfl
      · exact beginCycle_keeps _ p
      · split
        · exact beginRefund_keeps p
        · split
          · exact takeUpCharge_keeps _ p
          · exact .refl p

theorem gateTurns_keeps (n : Nat) (p : Part) : Keeps p (gateTurns n p) := by
  induction n generalizing p with
  | zero => exact .refl p
  | succ n ih =>
    rewrite [gateTurns_succ]
    split
    · exact (gateTurn_keeps p).trans (ih _)
    · exact gateTurn_keeps p

theorem gateWork_keeps (p : Part) : Keeps p (gateWork p) := gateTurns_keeps _ p

end Sys2Proof.Machine
end

section
/-!
PROOFS. Lookups and scans, the call's events and the line keep the invariants of a step.
-/

namespace Sys2Proof.Machine

/-! ## Lookups and scans (R74 to R91, R138) -/

set_option Elab.async false in
theorem refuseDial_keeps (c : ResultCode) (p : Part) : Keeps p (refuseDial c p) :=
  (setCall_keeps _ p).trans (completeIf_keeps _ _ _)

theorem placeCall_keeps (cls : CallClass) (i : Nat) (e : Option Nat) (p : Part) : Keeps p (placeCall cls i e p) := by
  unfold placeCall
  extract_lets _ _ q
  have hq : Keeps p q := .ofViews rfl
  exact ((hq.trans (askCustomerSeize_keeps _ q)).trans (setCall_keeps _ _)).trans (completeIf_keeps _ _ _)

theorem judgeRating_keeps (r : Rating) (p : Part) : Keeps p (judgeRating r p) := by
  unfold judgeRating
  split
  · exact refuseDial_keeps _ p
  · exact refuseDial_keeps _ p
  · exact refuseDial_keeps _ p
  · split
    · exact refuseDial_keeps _ p
    · exact placeCall_keeps _ _ _ p
  · split
    · exact refuseDial_keeps _ p
    · split
      · exact refuseDial_keeps _ p
      · split
        · exact refuseDial_keeps _ p
        · exact placeCall_keeps _ _ _ p

theorem beginVerify_keeps (p : Part) : Keeps p (beginVerify p) := by
  unfold beginVerify
  split
  · exact .ofViews rfl
  · exact .refl p

theorem stopScan_keeps (p : Part) : Keeps p (stopScan p) := .ofViews rfl

theorem applyVerdict_keeps (fault : Option Nat) (p : Part) : Keeps p (applyVerdict fault p) := by
  unfold applyVerdict
  split
  · exact (raise_keeps .tariffBad _ p).trans (.ofViews rfl)
  · exact clear_keeps .tariffBad p

theorem scanResult_keeps (fault : Option Nat) (n : List Nat) (b : Option (Nat × TariffEntry)) (p : Part) :
    Keeps p (scanResult fault n b p).2 := by
  unfold scanResult
  split
  · exact .refl p
  · exact .refl p
  · exact .ofViews rfl

theorem completeScan_keeps (fault : Option Nat) (p : Part) : Keeps p (completeScan fault p) := by
  unfold completeScan
  split
  · exact .refl p
  · exact Keeps.after ((applyVerdict_keeps fault { p with rtu.engine := .idle }).trans (beginVerify_keeps _)) rfl
  · exact Keeps.after ((applyVerdict_keeps fault { p with rtu.engine := .idle, rtu.verifyDue := false }).trans
      ((scanResult_keeps fault _ _ _).trans (judgeRating_keeps _ _))) rfl

theorem takeHeader_keeps (n c : Word) (p : Part) : Keeps p (takeHeader n c p) := by
  unfold takeHeader
  split
  · exact .refl p
  all_goals
    split
    · exact completeScan_keeps _ p
    · exact .ofViews rfl

theorem takeEntry_keeps (i : Nat) (ws : List Word) (p : Part) : Keeps p (takeEntry i ws p) := by
  unfold takeEntry
  extract_lets s _ q
  have hq : Keeps p q := .ofViews rfl
  split
  · exact .refl p
  all_goals
    split
    · exact hq.trans (requestRead_keeps _ q)
    · exact hq.trans (completeScan_keeps _ q)

theorem beginLookup_keeps (n : List Nat) (p : Part) : Keeps p (beginLookup n p) := by
  have hq : Keeps p (if p.rtu.engine = .verify then { stopScan p with rtu.verifyDue := true } else p) := by
    split
    · exact (stopScan_keeps p).trans (.ofViews rfl)
    · exact .refl p
  exact hq.trans (Keeps.after (setCall_keeps .rating _) rfl)

theorem lookup_keeps (n : List Nat) (p : Part) : Keeps p (lookup n p) := by
  unfold lookup answerAtTaking
  cases hf : freeIndex n p.rtu.freeList with
  | some i => exact judgeRating_keeps _ p
  | none =>
    cases hp : probe (ratingKey n) p.rtu.cache with
    | some i => exact Keeps.after (judgeRating_keeps _ _) rfl
    | none => exact beginLookup_keeps n p

theorem abandonLookup_keeps (p : Part) : Keeps p (abandonLookup p) := by
  unfold abandonLookup
  split
  · exact (stopScan_keeps p).trans (beginVerify_keeps _)
  · exact .refl p
  · exact .refl p

theorem scanFailsBack_keeps (p : Part) : Keeps p (scanFailsBack p) := by
  unfold scanFailsBack
  split
  · exact ((stopScan_keeps p).trans (judgeRating_keeps _ _)).trans (beginVerify_keeps _)
  · exact Keeps.trans (q := { stopScan p with rtu.quiet := some (newTimer 2000 (stopScan p)) }) (.ofViews rfl) (beginVerify_keeps _)
  · exact .refl p

theorem tariffNotice_keeps (p : Part) : Keeps p (tariffNotice p) := by
  unfold tariffNotice
  extract_lets _ q
  have hq : Keeps p q := .ofViews rfl
  split
  · exact hq
  · exact (hq.trans (stopScan_keeps q)).trans (beginVerify_keeps _)
  · split
    · exact hq.trans (.ofViews rfl)
    · exact ((hq.trans (stopScan_keeps q)).trans (judgeRating_keeps _ _)).trans (beginVerify_keeps _)

theorem dialCall_keeps (p : Part) : Keeps p (dialCall p) := by
  unfold dialCall
  split
  · exact complete_keeps _ p
  · split
    · exact complete_keeps _ p
    · split
      · exact complete_keeps _ p
      · split
        · exact complete_keeps _ p
        · split <;> split
          · exact complete_keeps _ p
          · exact lookup_keeps _ p
          · exact complete_keeps _ p
          · exact lookup_keeps _ p

/-! ## The call's events (R97, R104, R105, R139 to R142) -/

theorem takeLineOutcome_keeps (o : LineOutcome) (p : Part) : Keeps p (takeLineOutcome o p) := by
  unfold takeLineOutcome
  split
  · exact (endCall_keeps _ p).trans (gateWork_keeps _)
  · exact .refl p

theorem takeAnswered_keeps (p : Part) : Keeps p (takeAnswered p) := by
  unfold takeAnswered
  split
  · exact .refl p
  · extract_lets _ q r
    have hr : Keeps p r := Keeps.after (setCall_keeps .talking q) rfl
    split
    · exact hr
    · exact (hr.trans (beginAnswerStep_keeps r)).trans (gateWork_keeps _)

theorem releaseCall_keeps (p : Part) : Keeps p (releaseCall p) := by
  unfold releaseCall
  split
  · exact (endCall_keeps _ p).trans (gateWork_keeps _)
  · exact complete_keeps _ p

theorem endGrace_keeps (p : Part) : Keeps p (endGrace p) := by
  unfold endGrace
  extract_lets _ q
  have hq : Keeps p q := .ofViews rfl
  split
  · exact hq
  · split
    · exact hq.trans (.ofViews rfl)
    · exact (hq.trans (endCall_keeps _ q)).trans (gateWork_keeps _)

theorem judgeFlashes_keeps (p : Part) : Keeps p (judgeFlashes p) := raise_keeps_if (.refl p) _ _

theorem restartAbuse_keeps (p : Part) : Keeps p (restartAbuse p) := by
  unfold restartAbuse
  split
  · exact .ofViews rfl
  · exact .refl p

theorem takeFlash_keeps (p : Part) : Keeps p (takeFlash p) :=
  Keeps.after ((judgeFlashes_keeps _).trans (restartAbuse_keeps _)) rfl

theorem takeLift_keeps (p : Part) : Keeps p (takeLift p) := by
  unfold takeLift
  split
  · exact enterCollecting_keeps p
  · exact .refl p

theorem takeHangUp_keeps (p : Part) : Keeps p (takeHangUp p) := by
  unfold takeHangUp
  split
  · exact (hangUpSettlement_keeps p).trans (gateWork_keeps _)
  · exact ((hangUpSettlement_keeps p).trans (setCall_keeps _ _)).trans (gateWork_keeps _)
  · exact ((((abandonLookup_keeps p).trans (completeIf_keeps _ _ _)).trans (hangUpSettlement_keeps _)).trans
      (setCall_keeps _ _)).trans (gateWork_keeps _)
  · exact Keeps.after ((endCall_keeps _ { p with rlu.settlementDue := true }).trans (gateWork_keeps _)) rfl
  · exact Keeps.after ((endCall_keeps _ { p with rlu.settlementDue := true }).trans (gateWork_keeps _)) rfl
  · exact Keeps.after ((endCall_keeps _ { p with rlu.settlementDue := true }).trans (gateWork_keeps _)) rfl
  · exact (hangUpSettlement_keeps p).trans (gateWork_keeps _)

theorem collectDigit_keeps (v : Nat) (p : Part) : Keeps p (collectDigit v p) := by
  unfold collectDigit appendDigit eraseDigit
  split
  · split
    · exact .ofViews rfl
    · split
      · exact .ofViews rfl
      · exact .refl p
  · split
    · exact clearDigits_keeps p
    · split
      · split
        · exact .refl p
        · exact .ofViews rfl
      · exact .refl p

/-! ## Reports on the line (R167 to R174) -/

theorem startTone_keeps (s : Nat) (rest : List Nat) (p : Part) : Keeps p (startTone s rest p) := .ofViews rfl

theorem pauseLoss_keeps (p : Part) : Keeps p (pauseLoss p) := by
  unfold pauseLoss
  split
  · exact .ofViews rfl
  · exact .refl p

theorem startBreak_keeps (s n : Nat) (rest : List Nat) (p : Part) : Keeps p (startBreak s n rest p) :=
  (pauseLoss_keeps p).trans (.ofViews rfl)

theorem startDigit_keeps (d : Nat) (rest : List Nat) (p : Part) : Keeps p (startDigit d rest p) := by
  unfold startDigit
  split <;> split
  · exact startBreak_keeps _ _ _ p
  · exact startTone_keeps _ _ p
  · exact startBreak_keeps _ _ _ p
  · exact startTone_keeps _ _ p

theorem sendFrame_keeps (r : ReportRecord) (p : Part) : Keeps p (sendFrame r p) := by
  unfold sendFrame
  split
  · exact .refl p
  · extract_lets _ q
    have hq : Keeps p q := Keeps.after (changeRecord_keeps (f := composed) (fun _ => ⟨rfl, rfl⟩) _ _) rfl
    split
    · split
      · exact hq
      · exact hq.trans (Keeps.after (startTone_keeps _ _ (markS 0 { q with lu.line := .sending })) rfl)
    · exact hq

theorem requeueSending_keeps (p : Part) : Keeps p (requeueSending p) := by
  unfold requeueSending
  split
  · exact changeRecord_keeps (f := requeued) (fun _ => ⟨rfl, rfl⟩) _ p
  · exact .refl p

theorem reportFailure_keeps (p : Part) : Keeps p (reportFailure p) := .ofViews rfl

theorem closeReport_keeps (c : Option Bool) (p : Part) : Keeps p (closeReport c p) := by
  unfold closeReport
  extract_lets _ q
  have hq : Keeps p q := .ofViews rfl
  split
  · exact hq.trans (countEvent_keeps _ q)
  · exact hq

theorem finishReport_keeps (p : Part) : Keeps p (finishReport p) :=
  (releaseLine_keeps _ p).trans (closeReport_keeps _ _)

theorem chooseRecord_keeps (p : Part) : Keeps p (chooseRecord p) := by
  unfold chooseRecord
  split
  · exact Keeps.after (sendFrame_keeps _ _) rfl
  · exact finishReport_keeps p

/-- The accepted record leaves the queue, or joins it again in its slot at the newest end. -/
theorem acceptRecord_keeps {p : Part} {r : ReportRecord} (hr : r ∈ p.cru.queue) : Keeps p (acceptRecord r p) := by
  unfold acceptRecord
  extract_lets others
  have hsub : others.Sublist p.cru.queue := List.filter_sublist
  have hfewer : reportQueueSound p → slotsSound (others.map fun x => (x.slot, x.kind)) := fun hp =>
    slotsSound_of_sublist (hsub.map _) ((reportQueueSound_iff p).1 hp)
  refine Keeps.trans ?_ (mark_keeps _ _)
  split
  · refine (Keeps.refl p).withQueue _ fun hp => ?_
    have hlt : others.length < p.cru.queue.length :=
      List.length_filter_lt_length_iff_exists.2 ⟨r, hr, by simp⟩
    have h8 : p.cru.queue.length ≤ 8 := hp.1
    rewrite [List.map_append]
    refine slotsSound_append (s := r.slot) (k := r.kind) (hfewer hp) ?_ (hp.2.1 r hr) ?_ ?_
    · simp only [List.length_map]; omega
    · simp [others]
    · intro hm
      simp only [others, List.map_map, List.mem_map, List.mem_filter, Function.comp_apply, bne_iff_ne] at hm
      obtain ⟨x, ⟨hx, hne⟩, hk⟩ := hm
      have hxr : x = r := List.inj_on_of_nodup_map hp.2.2.2 hx hr hk
      exact hne (by rw [hxr])
  · exact (Keeps.refl p).withQueue p.cru.sequence hfewer

theorem sendingRecord_mem {p : Part} {r : ReportRecord} (h : sendingRecord p = some r) : r ∈ p.cru.queue :=
  List.mem_of_find?_eq_some h

theorem frameAccepted_keeps (p : Part) : Keeps p (frameAccepted p) := by
  unfold frameAccepted
  split
  case h_1 c r hc hr =>
    extract_lets _ q _ a
    have hq : Keeps p q ∧ q.cru.queue = p.cru.queue := by
      simp only [q]
      split
      · exact ⟨.refl p, rfl⟩
      · exact ⟨(.ofViews rfl), rfl⟩
    have ha : Keeps p a := hq.1.trans (Keeps.after (acceptRecord_keeps
      (p := { q with cru.report := some { c with accepted := c.accepted + 1 } })
      (by rewrite [hq.2]; exact sendingRecord_mem hr)) rfl)
    split
    · exact ha.trans (finishReport_keeps a)
    · exact ha.trans (chooseRecord_keeps a)
  case h_2 => exact .refl p

theorem frameNotAccepted_keeps (p : Part) : Keeps p (frameNotAccepted p) := by
  unfold frameNotAccepted
  split
  · split
    · exact sendFrame_keeps _ p
    · exact (((requeueSending_keeps p).trans (releaseLine_keeps _ _)).trans (reportFailure_keeps _)).trans
        (closeReport_keeps _ _)
  · exact .refl p

set_option Elab.async false in
theorem reportOutcome_keeps (o : LineOutcome) (p : Part) : Keeps p (reportOutcome o p) := by
  unfold reportOutcome
  split
  · exact .refl p
  · extract_lets q
    have hq : Keeps p q := requeueSending_keeps p
    split
    · exact hq.trans (closeReport_keeps _ q)
    · exact (hq.trans (reportFailure_keeps q)).trans (closeReport_keeps _ _)

theorem reportLifted_keeps (p : Part) : Keeps p (reportLifted p) := by
  unfold reportLifted
  split
  · exact .refl p
  · exact (requeueSending_keeps p).trans (closeReport_keeps _ _)

/-! ## The line (R113 to R131) -/

theorem probeEnded_keeps (p : Part) : Keeps p (probeEnded p) := by
  unfold probeEnded
  split
  · exact .ofViews rfl
  · exact .refl p

theorem countFailedSeize_keeps (d : Nat) (p : Part) : Keeps p (countFailedSeize d p) := by
  unfold countFailedSeize
  split
  · exact .ofViews rfl
  · exact Keeps.after (raiseLineDown_keeps d { p with lu.failedSeizes := 0 }) rfl

theorem seizeFailure_keeps (w : Owner) (o : LineOutcome) (p : Part) : Keeps p (seizeFailure w o p) := by
  unfold seizeFailure
  split
  · split
    · exact .refl p
    · exact countFailedSeize_keeps _ p
  · exact .refl p

theorem handOutcome_keeps (w : Owner) (o : LineOutcome) (p : Part) : Keeps p (handOutcome w o p) := by
  unfold handOutcome
  split
  · exact takeLineOutcome_keeps o p
  · exact reportOutcome_keeps o p
  · exact probeEnded_keeps p
  · exact .refl p

theorem lineOutcome_keeps (o : LineOutcome) (p : Part) : Keeps p (lineOutcome o p) := by
  unfold lineOutcome
  extract_lets w q r
  have hq : Keeps p q := enterClearing_keeps p
  have hr : Keeps p r := hq.trans (.ofViews rfl)
  split
  · split
    · exact (hr.trans (seizeFailure_keeps w o r)).trans (handOutcome_keeps w o _)
    · exact (hr.trans (handOutcome_keeps w o r)).trans (seizeFailure_keeps w o _)
  · exact (hq.trans (seizeFailure_keeps w o q)).trans (handOutcome_keeps w o _)

theorem liftLine_keeps (p : Part) : Keeps p (liftLine p) := by
  unfold liftLine
  split
  · exact (enterClearing_keeps p).trans (reportLifted_keeps _)
  · exact (enterClearing_keeps p).trans (probeEnded_keeps _)
  · exact .refl p
  · exact .refl p

theorem enterAwaitAnswer_keeps (p : Part) : Keeps p (enterAwaitAnswer p) := .ofViews rfl

theorem dialToneFound_keeps (n : Nat) (p : Part) : Keeps p (dialToneFound n p) := by
  unfold dialToneFound
  extract_lets _ q _ r
  have hq : Keeps p q := Keeps.after (clearLineDown_keeps _) rfl
  have hr : Keeps p r := hq.trans (.ofViews rfl)
  split
  · exact (hq.trans (enterClearing_keeps q)).trans (probeEnded_keeps _)
  · split
    · exact hr.trans (enterAwaitAnswer_keeps r)
    · exact hr.trans (startDigit_keeps _ _ r)

theorem endSweep_keeps (p : Part) : Keeps p (endSweep p) := by
  unfold endSweep
  dsimp only
  split
  · exact dialToneFound_keeps _ p
  · split
    · exact lineOutcome_keeps _ p
    · exact .ofViews rfl

theorem searchDwell_keeps (f : Nat) (p : Part) : Keeps p (searchDwell f p) := by
  unfold searchDwell
  split
  · exact .ofViews rfl
  · extract_lets _ q
    have hq : Keeps p q := .ofViews rfl
    split
    · exact hq.trans (endSweep_keeps q)
    · exact hq.trans (.ofViews rfl)

theorem progressDwell_keeps (f : Nat) (p : Part) : Keeps p (progressDwell f p) := by
  unfold progressDwell
  split
  · extract_lets _ q
    have hq : Keeps p q := .ofViews rfl
    split
    · exact hq.trans (lineOutcome_keeps _ q)
    · exact hq
  · exact .refl p

theorem answerCall_keeps (p : Part) : Keeps p (answerCall p) := by
  unfold answerCall
  extract_lets _ q
  have hq : Keeps p q := .ofViews rfl
  split
  · exact hq.trans (takeAnswered_keeps q)
  · exact hq.trans (.ofViews rfl)
  · exact hq
  · exact hq

theorem endPause_keeps (p : Part) : Keeps p (endPause p) := Keeps.after (chooseRecord_keeps _) rfl

theorem followReversal_keeps (p : Part) : Keeps p (followReversal p) := by
  unfold followReversal
  split
  · split
    · split
      · exact .refl p
      · exact .ofViews rfl
    · exact .ofViews rfl
  · exact .refl p

theorem followClear_keeps (p : Part) : Keeps p (followClear p) := by
  unfold followClear
  split
  · exact .ofViews rfl
  · exact .refl p

theorem resumeLoss_keeps (p : Part) : Keeps p (resumeLoss p) := by
  unfold resumeLoss
  split
  · exact .ofViews rfl
  · exact .refl p

theorem followLoss_keeps (p : Part) : Keeps p (followLoss p) := by
  unfold followLoss
  split
  · split
    · exact .ofViews rfl
    · exact Keeps.after (resumeLoss_keeps { p with lu.spoiled := true }) rfl
  · exact .refl p

theorem senseLoop_keeps (sense : Option Polarity) (p : Part) : Keeps p (senseLoop sense p) := by
  unfold senseLoop
  split
  · exact .refl p
  · extract_lets _ _ q
    have hq : Keeps p q := .ofViews rfl
    split
    · exact hq.trans (currentSeen_keeps _ q)
    · exact hq.trans (((followLoss_keeps q).trans (followReversal_keeps _)).trans (followClear_keeps _))

theorem sendInCall_keeps (p : Part) : Keeps p (sendInCall p) := by
  unfold sendInCall
  split
  · exact .refl p
  · exact .ofViews rfl

theorem endSending_keeps (p : Part) : Keeps p (endSending p) := by
  unfold endSending
  extract_lets _ q
  have hq : Keeps p q := .ofViews rfl
  split
  · exact hq.trans (enterAwaitAnswer_keeps q)
  · exact hq.trans (.ofViews rfl)
  · split
    · exact hq.trans (.ofViews rfl)
    · exact hq.trans (sendInCall_keeps q)
  all_goals exact hq

theorem endTone_keeps (p : Part) : Keeps p (endTone p) := .ofViews rfl

theorem endGap_keeps (p : Part) : Keeps p (endGap p) := by
  unfold endGap
  split
  · exact startTone_keeps _ _ p
  · exact endSending_keeps p

theorem startMake_keeps (n : Nat) (p : Part) : Keeps p (startMake n p) := Keeps.after (resumeLoss_keeps _) rfl

theorem endBreak_keeps (p : Part) : Keeps p (endBreak p) := by
  unfold endBreak
  split
  · exact startMake_keeps _ p
  · split
    · exact startMake_keeps _ p
    · exact (enterAwaitAnswer_keeps p).trans (resumeLoss_keeps _)

theorem endMake_keeps (p : Part) : Keeps p (endMake p) := by
  unfold endMake
  extract_lets s
  split
  · exact startBreak_keeps _ _ _ p
  · split
    · exact startBreak_keeps _ _ _ p
    · exact .refl p

theorem takeInCall_keeps (d : Nat) (p : Part) : Keeps p (takeInCall d p) := by
  unfold takeInCall
  split
  · extract_lets _ q
    have hq : Keeps p q := .ofViews rfl
    split
    · exact hq.trans (sendInCall_keeps q)
    · exact hq
  · exact .refl p

theorem takeDialWord_keeps (v : Nat) (p : Part) : Keeps p (takeDialWord v p) := by
  unfold takeDialWord
  split
  · exact collectDigit_keeps v p
  · split
    · exact takeInCall_keeps v p
    · exact .refl p
  all_goals exact .refl p

theorem receiveSymbol_keeps (s : Nat) (p : Part) : Keeps p (receiveSymbol s p) := by
  unfold receiveSymbol handResult
  split
  · split
    · exact Keeps.after (frameAccepted_keeps _) rfl
    · split
      · exact Keeps.after (frameNotAccepted_keeps _) rfl
      · exact .refl p
  · exact .refl p

theorem handResult_frameNotAccepted_keeps (p : Part) : Keeps p (handResult frameNotAccepted p) :=
  Keeps.after (frameNotAccepted_keeps _) rfl

theorem hookDown_keeps (p : Part) : Keeps p (hookDown p) := Keeps.after (probeAsk_keeps _) rfl

theorem hookUp_keeps (p : Part) : Keeps p (hookUp p) := by
  unfold hookUp
  extract_lets _ _ q r
  have hq : Keeps p q := .ofViews rfl
  have hr : Keeps p r := by
    simp only [r]
    split
    · exact hq.trans (takeFlash_keeps q)
    · exact hq.trans (takeLift_keeps q)
  exact hr.trans (liftLine_keeps r)

end Sys2Proof.Machine
end

section
/-!
PROOFS. Coins, the start-up dump, the account and the mailbox's commands keep the invariants of a step.
-/

namespace Sys2Proof.Machine

/-! ## Coins (R5 to R18) -/

set_option Elab.async false in
theorem publishCoin_keeps (k v : Nat) (r : Reason) (m : Measurement) (p : Part) : Keeps p (publishCoin k v r m p) :=
  Keeps.after (setCause_keeps .coin _) rfl

theorem returnCoin_keeps (r : Reason) (p : Part) : Keeps p (returnCoin r p) := by
  unfold returnCoin
  extract_lets _ q
  have hq : Keeps p q := .ofViews rfl
  split
  · exact hq.trans (bookTypes_keeps _ q)
  · exact hq

theorem retryOnCoin_keeps (p : Part) : Keeps p (retryOnCoin p) := by
  unfold retryOnCoin
  split
  · split
    · exact .ofViews rfl
    · exact sendCharge_keeps _ p
  · exact .refl p

theorem sumValues_append (cs ds : List Coin) : sumValues (cs ++ ds) = sumValues cs + sumValues ds := by
  induction cs with
  | nil => simp [sumValues]
  | cons c cs ih => simp [sumValues, ih, Nat.add_assoc]

/-- A coin joins a rail that is not full, within the cap. -/
theorem joinRail_keeps {v : Nat} {p : Part} (h8 : p.rlu.rail.length < 8)
    (hv : p.rlu.banked + railValue p + v ≤ 9999) (k : Nat) (m : Measurement) : Keeps p (joinRail k v m p) := by
  unfold joinRail
  extract_lets _ q r
  have hq : Keeps p q := .ofViews rfl
  have hr : Keeps q r := by
    refine railChange_keeps ?_
    refine bookMoney_keeps_of ?_
    refine { credit := ?_, accepted := ?_ }
    · intro _
      refine ⟨?_, ?_⟩
      · show (p.rlu.rail ++ [Coin.mk k v]).length ≤ 8
        simp only [List.length_append, List.length_singleton]
        omega
      · show p.rlu.banked + sumValues (p.rlu.rail ++ [Coin.mk k v]) ≤ 9999
        simp only [sumValues_append, sumValues, railValue] at *
        omega
    · intro _ hp hd
      have hb : acceptedBalances q := hp hd
      simp only [acceptedBalances, addTo, railValue, sumValues_append, sumValues, BitVec.ofNat_add] at *
      rewrite [hb, BitVec.add_zero]
      ac_rfl
  exact (hq.trans hr).trans (retryOnCoin_keeps r)

theorem routeReason_none {v : Nat} {p : Part} (h : routeReason v p = .none) :
    p.rlu.rail.length < 8 ∧ p.rlu.banked + railValue p + v ≤ 9999 := by
  unfold routeReason at h
  repeat' split at h
  all_goals first | exact absurd h (by decide) | (constructor <;> omega)

theorem judgeBurst_keeps (p : Part) : Keeps p (judgeBurst p) := by
  unfold judgeBurst
  extract_lets
  split
  · exact raise_keeps _ _ p
  · split
    · exact clear_keeps _ p
    · exact .refl p

theorem takeOutcome_keeps (e : Measured) (p : Part) : Keeps p (takeOutcome e p) := Keeps.after (judgeBurst_keeps _) rfl

theorem addReject_keeps (i : Nat) (p : Part) : Keeps p (addReject i p) := by
  unfold addReject
  extract_lets n _ q
  have hq : Keeps p q := { memory := fun ⟨hm, hr⟩ => ⟨hm, writeWord_wf hr⟩ }
  exact raise_keeps_if hq _ _

theorem binReject_keeps (i : Nat) (p : Part) : Keeps p (binReject i p) := by
  unfold binReject
  split
  · split
    · exact .ofViews rfl
    · exact addReject_keeps i p
  · exact addReject_keeps i p

theorem addHeld_keeps (n i : Nat) (p : Part) : Keeps p (addHeld n i p) := by
  induction n generalizing p with
  | zero => exact .refl p
  | succ n ih => exact (addReject_keeps i p).trans (ih _)

theorem routeCoin_keeps (c : Classification) (m : Measurement) (p : Part) : Keeps p (routeCoin c m p) := by
  unfold routeCoin
  split
  · extract_lets r
    exact (((returnCoin_keeps r p).trans (publishCoin_keeps _ _ r m _)).trans (takeOutcome_keeps _ _)).trans
      (binReject_keeps _ _)
  · exact ((returnCoin_keeps _ p).trans (publishCoin_keeps _ _ _ m _)).trans (takeOutcome_keeps _ _)
  · extract_lets r q
    have hq : Keeps p q := by
      simp only [q]
      split
      case isTrue hr =>
        obtain ⟨h8, hv⟩ := routeReason_none hr
        exact joinRail_keeps h8 hv _ m
      case isFalse => exact returnCoin_keeps r p
    exact (hq.trans (publishCoin_keeps _ _ r m q)).trans (takeOutcome_keeps _ _)

theorem takeMeasurement_keeps (m : Measurement) (p : Part) : Keeps p (takeMeasurement m p) := by
  have hn : Keeps p (takeOutcome .notRejected (publishCoin 0 0 .refused m { p with cu.flap := none })) :=
    Keeps.after ((publishCoin_keeps _ _ _ m _).trans (takeOutcome_keeps _ _)) rfl
  unfold takeMeasurement
  split
  · split
    · exact (routeCoin_keeps _ m p).trans (gateWork_keeps _)
    · exact hn
  · exact hn

/-! ## The start-up dump (R36 to R38) -/

/-- The listing carries what it is given to carry, with one entry at least. -/
theorem sum_valueListing (p : Part) (left : Nat) (ks : List Nat) : sumValues (valueListing p left ks) ≤ left := by
  induction ks generalizing left with
  | nil => simp [valueListing, sumValues]
  | cons k ks ih =>
    cases ks with
    | nil => simp [valueListing, sumValues]
    | cons k' ks =>
      simp only [valueListing, sumValues]
      have := ih (left - min (typeValue k p) left)
      omega

theorem length_valueListing (p : Part) (left : Nat) (ks : List Nat) :
    (valueListing p left ks).length = ks.length := by
  induction ks generalizing left with
  | nil => rfl
  | cons k ks ih =>
    cases ks with
    | nil => rfl
    | cons k' ks => simp only [valueListing, List.length_cons, ih]

theorem listedRail_length (p : Part) : (listedRail p).length ≤ 8 := by
  rewrite [listedRail, length_valueListing, listedTypes, List.length_take]
  omega

theorem sum_listedRail (p : Part) :
    sumValues (listedRail p) ≤ 9999 ∧ sumValues (listedRail p) ≤ recordedRailValue p.cau.money := by
  have h := sum_valueListing p (min 9999 (recordedRailValue p.cau.money)) (listedTypes p.cau.money)
  rewrite [listedRail]
  omega

/-- The end of the dump, once it has begun. -/
theorem endDump_keeps {p : Part} (hd : p.rlu.dump ≠ .waiting) : Keeps p (endDump p) := by
  refine ((railChange_keeps ?_).trans (markS_keeps 0 _)).trans (gateWork_keeps _)
  refine { order := ?_, accepted := ?_, collected := ?_ }
  · rintro ⟨hs, hl⟩
    exact ⟨fun h => absurd (hs h).2 hd, hl.imp_right fun h => absurd h hd⟩
  · exact fun _ hp _ => hp hd
  · exact fun _ _ hc hb => ⟨by simp, hc, hb⟩

theorem dumpHeadEmpty_keeps {p : Part} (hd : p.rlu.dump ≠ .waiting) : Keeps p (dumpHeadEmpty p) := by
  unfold dumpHeadEmpty
  split
  · exact endDump_keeps hd
  · have hr : Keeps p (bookMoney (fun m => { m with
        suspense := addTo m.suspense (railValue p), railTypes := [], railCount := 0 }) { p with rlu.rail := [] }) := by
      refine bookMoney_keeps_of { credit := ?_, accepted := ?_ }
      · rintro ⟨_, hv⟩
        exact ⟨Nat.zero_le _, by simp only [railValue, sumValues]; omega⟩
      · intro _ hp hq
        have hb := hp hq
        simp only [acceptedBalances, addTo, railValue, sumValues] at *
        rewrite [hb, BitVec.add_zero]
        ac_rfl
    exact ((railChange_keeps hr).trans (raise_keeps _ _ _)).trans (endDump_keeps (by simpa [raise_rlu] using hd))

theorem dumpTurn_keeps (b : Bool) (p : Part) : Keeps p (dumpTurn b p) := by
  unfold dumpTurn
  extract_lets _ q
  have hq : Keeps p q := .ofViews rfl
  split
  case h_1 n hn =>
    have hd : q.rlu.dump ≠ .waiting := by rewrite [hn]; simp
    split
    · split
      · refine hq.trans (((railChange_keeps (.ofViews rfl)).trans (raise_keeps _ _ _)).trans (endDump_keeps ?_))
        simpa [raise_rlu] using hd
      · exact hq.trans (beginCycle_keeps _ q)
    · exact hq.trans (dumpHeadEmpty_keeps hd)
  case h_2 => exact hq
  case h_3 => exact hq

theorem bookMoney_withRlu (f : Money → Money) (r : Rlu) (p : Part) :
    { bookMoney f p with rlu := r } = bookMoney f { p with rlu := r } := by
  unfold bookMoney markRecord
  by_cases h : 1 ∈ p.cau.faulted <;> simp only [h, if_true, if_false]; rfl

/-- The dump begins after the account start load: the listing and the suspense carry what the totals give (R36). -/
theorem beginDump_keeps {p : Part} (hl : p.cau.load = .ended) (b : Bool) : Keeps p (beginDump b p) := by
  unfold beginDump
  extract_lets left q
  have hq : Keeps p q := by
    refine railChange_keeps ?_
    dsimp only
    rewrite [bookMoney_rlu, bookMoney_withRlu]
    refine bookMoney_keeps_of { credit := ?_, order := ?_, accepted := ?_, collected := ?_ }
    · intro _
      exact ⟨listedRail_length p, by simpa [railValue] using (sum_listedRail p).1⟩
    · rintro ⟨hs, _⟩
      exact ⟨fun h => absurd (hs h).1 (by rewrite [hl]; simp), .inl hl⟩
    · intro _ _ _
      have hsum : BitVec.ofNat 32 (uncarried p) + BitVec.ofNat 32 (sumValues (listedRail p))
          = p.cau.money.accepted - p.cau.money.refunded - p.cau.money.collected - p.cau.money.suspense := by
        rw [← BitVec.ofNat_add, uncarried, Nat.sub_add_cancel (sum_listedRail p).2, recordedRailValue,
          BitVec.ofNat_toNat, BitVec.setWidth_eq]
      simp only [acceptedBalances, moneyAtDump, addTo, railValue]
      rewrite [BitVec.add_assoc, BitVec.add_assoc p.cau.money.suspense, hsum]
      ring
    · intro _ _ hc hb
      simp only [collectedBalances, bankedAgrees, moneyAtDump, addTo] at *
      refine ⟨by simp, ?_, trivial⟩
      rewrite [hc, BitVec.add_zero]
      ac_rfl
  exact (raise_keeps_if hq _ _).trans (dumpTurn_keeps b _)

theorem countUnbooked_keeps {n : Nat} {p : Part} (hd : p.rlu.dump = .running n) : Keeps p (countUnbooked n p) := by
  have hne : p.rlu.dump ≠ .waiting := by rewrite [hd]; simp
  refine bookMoney_keeps_of { order := ?_, accepted := ?_, collected := ?_ }
  · rintro ⟨hs, hl⟩
    exact ⟨fun h => absurd (hs h).2 hne, hl.imp_right fun h => absurd h hne⟩
  · exact fun _ hp _ => hp hne
  · exact fun _ _ hc hb => ⟨by simp, hc, hb⟩

/-! ## The gate's sensors (R21 to R24) -/

theorem endCycle_kept (g : GateState) (p : Part) :
    (endCycle g p).rlu.rail = p.rlu.rail ∧ (endCycle g p).rlu.dump = p.rlu.dump := by
  unfold endCycle completeIf
  extract_lets _ q
  split
  · split <;> exact ⟨rfl, rfl⟩
  · exact ⟨rfl, rfl⟩

theorem collectDone_keeps (p : Part) : Keeps p (collectDone p) := by
  unfold collectDone
  split
  · exact (railChange_keeps (endCycle_keeps _ p)).trans (gateWork_keeps _)
  case h_2 c rest hr =>
    extract_lets q _ r
    have hq : Keeps p q := railChange_keeps
      ((endCycle_keeps _ p).trans (bookCollect_keeps ((endCycle_kept .hold p).1.trans hr)))
    clear_value q
    exact (hq.trans (Keeps.after (judgeVault_keeps r) rfl)).trans (gateWork_keeps _)

theorem vaultSensor_keeps (p : Part) : Keeps p (vaultSensor p) := by
  unfold vaultSensor
  split
  · exact collectDone_keeps p
  · exact .refl p

theorem oweFewer_keeps (p : Part) : Keeps p (oweFewer p) := .ofViews rfl

theorem refundDone_keeps (b : Bool) (p : Part) : Keeps p (refundDone b p) := by
  unfold refundDone
  split
  case h_1 n hn =>
    refine (railChange_keeps ?_).trans (dumpTurn_keeps b _)
    split
    · exact (endCycle_keeps _ p).trans (bookRefund_keeps ((endCycle_kept .hold p).1.trans ‹_›))
    · exact (endCycle_keeps _ p).trans (countUnbooked_keeps ((endCycle_kept .hold p).2.trans hn))
  all_goals
    refine (railChange_keeps ?_).trans (gateWork_keeps _)
    extract_lets q
    have hq : Keeps p q := oweFewer_keeps p
    split
    · exact hq.trans ((endCycle_keeps _ q).trans (bookRefund_keeps ((endCycle_kept .hold q).1.trans ‹_›)))
    · exact hq.trans (endCycle_keeps _ q)

theorem returnSensor_keeps (b : Bool) (p : Part) : Keeps p (returnSensor b p) := by
  unfold returnSensor
  split
  · exact refundDone_keeps b p
  · exact .refl p

theorem loseHead_keeps (p : Part) : Keeps p (loseHead p) := by
  unfold loseHead
  split
  · exact (endCycle_keeps _ p).trans (bookSuspense_keeps ((endCycle_kept .fault p).1.trans ‹_›))
  · exact endCycle_keeps _ p

theorem loseHead_dump (p : Part) : (loseHead p).rlu.dump = p.rlu.dump := by
  unfold loseHead
  split
  · simp [bookSuspense, dropHead, (endCycle_kept .fault p).2]
  · exact (endCycle_kept .fault p).2

theorem confirmMissing_keeps (p : Part) : Keeps p (confirmMissing p) := by
  unfold confirmMissing
  split
  · exact ((railChange_keeps (loseHead_keeps p)).trans (raise_keeps _ _ _)).trans (gateWork_keeps _)
  · split
    case h_1 n hn =>
      extract_lets q
      have hq : Keeps p q := (railChange_keeps (loseHead_keeps p)).trans (raise_keeps _ _ _)
      have hd : q.rlu.dump ≠ .waiting := by simp [q, raise_rlu, loseHead_dump, hn]
      clear_value q
      exact hq.trans (Keeps.after (endDump_keeps hd) rfl)
    all_goals
      exact ((railChange_keeps ((oweFewer_keeps p).trans (loseHead_keeps _))).trans (raise_keeps _ _ _)).trans
        (gateWork_keeps _)
  · exact .refl p
  · exact .refl p

theorem clearJam_keeps (p : Part) : Keeps p (clearJam p) := by
  unfold clearJam
  extract_lets q
  have hq : Keeps p q := clear_keeps _ p
  clear_value q
  split
  · exact ((hq.trans (railChange_keeps (.ofViews rfl))).trans (complete_keeps _ _)).trans (gateWork_keeps _)
  · exact hq.trans (complete_keeps _ q)
  all_goals exact hq.trans (.ofViews rfl)

/-! ## The account's start load (R45 to R47, R53) -/

/-- What the account start load reads of a record changes money, if at all, before the dump (R36): the start-up dump
has not begun. -/
theorem keepsMoney_of_loading {p q : Part} {n : Nat} (hl : p.cau.load = .reading n) (hd : q.rlu.dump = p.rlu.dump) :
    keepsAccepted p q ∧ keepsCollected p q := by
  have hw : startOrder p → p.rlu.dump = .waiting := fun ⟨_, h⟩ => h.resolve_left (by rewrite [hl]; simp)
  exact ⟨fun ho _ hq => absurd (hd.trans (hw ho)) hq, fun ho hp => absurd (hw ho) hp⟩

theorem takeRecord_keeps {p : Part} {r : Nat} (hl : p.cau.load = .reading r) (n : Nat) (ws : List Word) :
    Keeps p (takeRecord n ws p) := by
  have h := keepsMoney_of_loading (q := { p with cau.money := moneyOf ws }) hl rfl
  unfold takeRecord
  split
  · exact .ofViews rfl
  · exact { accepted := h.1, collected := h.2 }
  all_goals exact .ofViews rfl

theorem blankRecord_keeps {p : Part} {r : Nat} (hl : p.cau.load = .reading r) (n : Nat) : Keeps p (blankRecord n p) := by
  have h := keepsMoney_of_loading (q := { p with cau.money := Money.zero }) hl rfl
  unfold blankRecord
  split
  · exact .ofViews rfl
  · exact { accepted := h.1, collected := h.2 }
  all_goals exact .ofViews rfl

theorem takeRecord_load (n : Nat) (ws : List Word) (p : Part) : (takeRecord n ws p).cau.load = p.cau.load := by
  unfold takeRecord
  split <;> rfl

theorem faultRecord_load (n : Nat) (p : Part) : (faultRecord n p).cau.load = p.cau.load := by
  rewrite [faultRecord, raise_cau]
  unfold blankRecord
  split <;> rfl

theorem faultRecord_keeps {p : Part} {r : Nat} (hl : p.cau.load = .reading r) (n : Nat) : Keeps p (faultRecord n p) :=
  (blankRecord_keeps hl n).trans (Keeps.after (raise_keeps _ _ _) rfl)

theorem applyEarly_keeps (p : Part) : Keeps p (applyEarly p) := Keeps.after (foldl_countEvent_keeps _ _) rfl

set_option Elab.async false in
theorem judgeCapacity_cau (p : Part) : (judgeCapacity p).cau = p.cau := by
  unfold judgeCapacity
  split
  · rfl
  · extract_lets n q
    have hq : q.cau = p.cau := by
      simp only [q]
      split
      · exact raise_cau _ _ p
      · rfl
    split
    · exact (raise_cau _ _ q).trans hq
    · exact hq

theorem endAccountLoad_keeps {p : Part} {n : Nat} (hl : p.cau.load = .reading n) (b : Bool) :
    Keeps p (endAccountLoad b p) := by
  unfold endAccountLoad
  extract_lets _ q
  have hq : Keeps p q := by
    refine Keeps.trans ?_ (takeCapacity_keeps _)
    exact { order := fun ⟨hs, _⟩ => ⟨fun h => absurd (hs h).1 (by rewrite [hl]; simp), .inl rfl⟩ }
  have hload : q.cau.load = .ended := by simp only [q, takeCapacity, judgeCapacity_cau, markS_cau]
  exact hq.trans (beginDump_keeps hload b)

theorem loadOn_keeps {p : Part} {r : Nat} (hl : p.cau.load = .reading r) (n : Nat) :
    Keeps p { p with cau.load := .reading n } :=
  { order := fun ⟨hs, ho⟩ => ⟨fun h => absurd (hs h).1 (by rewrite [hl]; simp), .inr (ho.resolve_left (by rewrite [hl]; simp))⟩ }

theorem applyEarly_load (p : Part) : (applyEarly p).cau.load = p.cau.load := by
  have h : ∀ (es : List CountEvent) (q : Part), (es.foldl (fun q e => countEvent e q) q).cau.load = q.cau.load := by
    intro es
    induction es with
    | nil => exact fun q => rfl
    | cons e es ih =>
      intro q
      rewrite [List.foldl_cons, ih]
      unfold countEvent
      split <;> simp
  exact h p.cau.early _

theorem loadSlot_keeps (n : Nat) (ws : List Word) (b : Bool) (p : Part) : Keeps p (loadSlot n ws b p) := by
  unfold loadSlot
  split
  case isTrue hl =>
    extract_lets q _ r t
    have hq : Keeps p q ∧ q.cau.load = .reading n := by
      simp only [q]
      split
      · exact ⟨takeRecord_keeps hl n ws, (takeRecord_load n ws p).trans hl⟩
      · exact ⟨faultRecord_keeps hl n, (faultRecord_load n p).trans hl⟩
    have hr : Keeps p r := hq.1.trans (loadOn_keeps hq.2 (n + 1))
    have ht : Keeps p t ∧ t.cau.load = .reading (n + 1) := by
      simp only [t]
      split
      · exact ⟨hr.trans (applyEarly_keeps r), applyEarly_load r⟩
      · exact ⟨hr, rfl⟩
    split
    · exact ht.1.trans (requestRead_keeps _ t)
    · exact ht.1.trans (endAccountLoad_keeps ht.2 b)
  case isFalse => exact .refl p

/-! ## The scrubber, the slots and the vault's clearance (R48 to R55) -/

theorem endTurn_keeps (p : Part) : Keeps p (endTurn p) := .ofViews rfl

theorem scrubTurn_keeps (p : Part) : Keeps p (scrubTurn p) := by
  unfold scrubTurn
  extract_lets n
  split
  · exact endTurn_keeps p
  · exact .ofViews rfl

theorem relocate_keeps (n s t : Nat) (p : Part) : Keeps p (relocate n s t p) := .ofViews rfl

theorem hardSlot_keeps (n s : Nat) (p : Part) : Keeps p (hardSlot n s p) := by
  unfold hardSlot
  split
  · split
    · exact raise_keeps _ _ p
    · exact relocate_keeps _ _ _ p
  · exact raise_keeps _ _ p

theorem strikeSlot_keeps (n s : Nat) (p : Part) : Keeps p (strikeSlot n s p) := by
  unfold strikeSlot
  split
  · exact .ofViews rfl
  · split
    · exact .ofViews rfl
    · exact Keeps.after (hardSlot_keeps n s { p with cau.strikes := p.cau.strikes.set s none }) rfl

theorem scrubRead_keeps (n s : Nat) (ws : List Word) (p : Part) : Keeps p (scrubRead n s ws p) := by
  unfold scrubRead
  split
  · split
    · exact endTurn_keeps p
    · exact Keeps.after (q := markS 4 (markSlot s { p with cau.mismatches := countUp n p.cau.mismatches }))
        ((strikeSlot_keeps n s _).trans (endTurn_keeps _)) rfl
  · exact .refl p

theorem relocationsWritten_keeps (s : Nat) (p : Part) : Keeps p (relocationsWritten s p) := by
  unfold relocationsWritten
  split
  · exact Keeps.after (markRecord_keeps 0 _) rfl
  · exact .refl p

theorem clearingWritten_keeps (n : Nat) (p : Part) : Keeps p (clearingWritten n p) := by
  unfold clearingWritten
  split
  · extract_lets left _ q
    have hq : Keeps p q := .ofViews rfl
    split
    · exact hq.trans (completeIf_keeps _ _ q)
    · exact hq
  · exact .refl p

theorem clearanceWritten_keeps (n : Nat) (p : Part) : Keeps p (clearanceWritten n p) := by
  unfold clearanceWritten
  split
  · exact .refl p
  · dsimp only
    split
    · exact Keeps.after (completeIf_keeps 6 .done { p with cau.clearance := none }) rfl
    · exact .ofViews rfl

theorem slotWritten_keeps (s : Nat) (r : Option Nat) (p : Part) : Keeps p (slotWritten s r p) := by
  unfold slotWritten
  extract_lets q
  have hq : Keeps p q := Keeps.after (relocationsWritten_keeps s (touchSlot s p)) rfl
  split
  · exact hq.trans ((clearingWritten_keeps _ q).trans (clearanceWritten_keeps _ _))
  · exact hq

theorem clearAccountFault_keeps (p : Part) : Keeps p (clearAccountFault p) := by
  unfold clearAccountFault
  extract_lets records _ q r
  have hr : Keeps p r := Keeps.after ((foldl_markRecord_keeps records q).trans (clear_keeps _ _)) rfl
  split
  · exact hr.trans (complete_keeps _ r)
  · exact hr

theorem zeroVault_keeps (p : Part) : Keeps p (zeroVault p) :=
  (bookMoney_keeps_of (by exact .ofViews rfl)).trans (bookTypes_keeps _ _)

theorem awaitClearance_keeps (p : Part) : Keeps p (awaitClearance p) := .ofViews rfl

theorem clearVault_keeps (p : Part) : Keeps p (clearVault p) := by
  have hs : Keeps p (shiftCollections (clearanceNow p) p) := Keeps.after (markRecord_keeps 4 _) rfl
  exact ((((hs.trans (appendRecord_keeps _ _)).trans (zeroVault_keeps _)).trans (clear_keeps .vaultNearFull _)).trans
    (clear_keeps .vaultFull _)).trans (awaitClearance_keeps _)

theorem vaultClearedCommand_keeps (p : Part) : Keeps p (vaultClearedCommand p) := by
  unfold vaultClearedCommand
  split
  · exact complete_keeps _ p
  · split
    · exact complete_keeps _ p
    · split
      · exact complete_keeps _ p
      · split
        · exact complete_keeps _ p
        · exact clearVault_keeps p

/-! ## Door, key, cord and shock (R151 to R158) -/

theorem beginService_keeps (p : Part) : Keeps p (beginService p) := serviceChanges_keeps true p

theorem endService_keeps (p : Part) : Keeps p (endService p) := by
  unfold endService
  extract_lets _ q
  have hq : Keeps p q := Keeps.after (serviceChanges_keeps false { p with cru.doorMark := false }) rfl
  exact raise_keeps_if hq _ _

theorem doorChanges_keeps (b : Bool) (p : Part) : Keeps p (doorChanges b p) := by
  unfold doorChanges
  split
  · extract_lets _ q
    have hq : Keeps p q := .ofViews rfl
    split
    · split
      · exact hq.trans (.ofViews rfl)
      · exact hq.trans (raise_keeps _ _ q)
    · exact hq
  · exact .refl p

theorem keyChanges_keeps (b : Bool) (p : Part) : Keeps p (keyChanges b p) := by
  unfold keyChanges
  split
  · split
    · exact beginService_keeps p
    · exact endService_keeps p
  · exact .refl p

theorem judgeSettled_keeps (p : Part) : Keeps p (judgeSettled p) := raise_keeps_if (.refl p) _ _

/-- A key that settles OFF was in no position before, so that it begins and ends no service mode. -/
theorem keySettlesOff_keeps {p : Part} (hk : p.cru.key = none) :
    Keeps p { p with cru.keySettled := some false, cru.key := some false } := by
  refine { restriction := fun hp => ?_ }
  have h : derivedRestriction { p with cru.keySettled := some false, cru.key := some false } = derivedRestriction p := by
    have hh : highest { p with cru.keySettled := some false, cru.key := some false } allConditions
      = highest p allConditions := rfl
    simp only [derivedRestriction, serviceMode, hk, hh]
    rfl
  exact hp.trans h.symm

theorem settleSwitch_keeps (w : Switch) (b : Bool) (p : Part) : Keeps p (settleSwitch w b p) := by
  unfold settleSwitch
  cases w with
  | door =>
    dsimp only
    split
    · exact Keeps.after (judgeSettled_keeps _) rfl
    · exact .refl p
  | key =>
    dsimp only
    split
    case isTrue hk =>
      refine Keeps.trans ?_ (judgeSettled_keeps _)
      cases b with
      | true => exact Keeps.after (beginService_keeps _) rfl
      | false => exact keySettlesOff_keeps (Option.isNone_iff_eq_none.1 hk)
    case isFalse => exact .refl p

theorem cordChanges_keeps (b : Bool) (p : Part) : Keeps p (cordChanges b p) := by
  unfold cordChanges
  split
  · split
    · exact .refl p
    · exact raise_keeps _ _ p
  · exact clear_keeps _ p

theorem takePulse_keeps (p : Part) : Keeps p (takePulse p) := by
  have hj : ∀ q : Part, Keeps q (judgePulses q) := fun q => raise_keeps_if (.refl q) _ _
  have hr : ∀ q : Part, Keeps q (restartQuiet q) := by
    intro q
    unfold restartQuiet
    split
    · exact .ofViews rfl
    · exact .refl q
  exact Keeps.after ((hj _).trans (hr _)) rfl

/-! ## The mailbox's commands (R175 to R185) -/

theorem setTimeCommand_keeps (p : Part) : Keeps p (setTimeCommand p) := by
  unfold setTimeCommand
  extract_lets day second
  split
  · exact complete_keeps _ p
  · exact ((judgeBand_keeps_of (by exact .ofViews rfl)).trans (gateWork_keeps _)).trans (complete_keeps _ _)

theorem setAttentionCommand_keeps (p : Part) : Keeps p (setAttentionCommand p) := by
  unfold setAttentionCommand
  split
  · exact complete_keeps _ p
  · exact (setEnable_keeps _ p).trans (complete_keeps _ _)

theorem mapDumpCommand_keeps (p : Part) : Keeps p (mapDumpCommand p) := by
  unfold mapDumpCommand
  split
  · exact complete_keeps _ p
  · exact .ofViews rfl

theorem clearServiced_keeps (k : Condition) (p : Part) : Keeps p (clearServiced k p) := by
  unfold clearServiced
  split
  · split
    · exact (clear_keeps _ p).trans (complete_keeps _ _)
    · exact complete_keeps _ p
  · split
    · exact complete_keeps _ p
    · exact clearJam_keeps p
  · exact (clear_keeps _ p).trans (complete_keeps _ _)
  · split
    · exact clearAccountFault_keeps p
    · exact complete_keeps _ p
  all_goals exact .refl p

theorem clearConditionCommand_keeps (p : Part) : Keeps p (clearConditionCommand p) := by
  unfold clearConditionCommand
  split
  · exact complete_keeps _ p
  · split
    · split
      · exact clearServiced_keeps _ p
      · exact complete_keeps _ p
    · split
      · exact complete_keeps _ p
      · exact complete_keeps _ p

theorem reloadCommand_keeps (p : Part) : Keeps p (reloadCommand p) := by
  unfold reloadCommand
  split
  · exact complete_keeps _ p
  · split
    · exact complete_keeps _ p
    · split
      · exact complete_keeps _ p
      case isFalse hd =>
        have hd : p.rlu.dump = .ended := by
          by_contra h
          exact hd (.inr h)
        exact { order := fun ⟨_, hl⟩ => ⟨nofun, hl⟩ }

theorem reportNowCommand_keeps (p : Part) : Keeps p (reportNowCommand p) :=
  ((cancelBackoff_keeps p).trans (complete_keeps _ _)).trans (reportAsk_keeps _)

theorem testReportCommand_keeps (p : Part) : Keeps p (testReportCommand p) := by
  unfold testReportCommand
  split
  · exact complete_keeps _ p
  case isFalse hn =>
    split
    · exact complete_keeps _ p
    · refine (newRecord_keeps ?_ 0).trans (complete_keeps _ _)
      intro hm
      obtain ⟨r, hr, hk⟩ := List.mem_map.1 hm
      exact hn (List.any_eq_true.2 ⟨r, hr, by simp [hk]⟩)

theorem judgeCommand_keeps (n : Nat) (p : Part) : Keeps p (judgeCommand n p) := by
  unfold judgeCommand
  split
  · exact dialCall_keeps p
  · exact releaseCall_keeps p
  · exact setTimeCommand_keeps p
  · exact setAttentionCommand_keeps p
  · exact mapDumpCommand_keeps p
  · exact vaultClearedCommand_keeps p
  · exact clearConditionCommand_keeps p
  · exact reloadCommand_keeps p
  · exact reportNowCommand_keeps p
  · exact testReportCommand_keeps p
  · exact complete_keeps _ p

theorem takeCommand_keeps (n : Nat) (p : Part) : Keeps p (takeCommand n p) :=
  Keeps.after (judgeCommand_keeps n _) rfl

end Sys2Proof.Machine
end

section
/-!
PROOFS. Host accesses, the port, the loads and the starts keep the invariants of a step, and so does every step: O14 to
O23.
-/

namespace Sys2Proof.Machine

/-! ## Host accesses (R56 to R68) -/

set_option Elab.async false in
theorem offerCapture_keeps (a : Nat) (d : Word) (k : WindowKind) (p : Part) : Keeps p (offerCapture a d k p) := by
  unfold offerCapture
  split
  · exact .ofViews rfl
  · exact Keeps.after (setCause_keeps .capture _) rfl

theorem suppressWrite_keeps (a : Nat) (d : Word) (k : WindowKind) (o : Nat) (p : Part) :
    Keeps p (suppressWrite a d k o p) := by
  unfold suppressWrite
  extract_lets _ q
  have hq : Keeps p q := Keeps.after (offerCapture_keeps a d k _) rfl
  exact raise_keeps_if hq _ _

theorem unlockCapture_keeps (p : Part) : Keeps p (unlockCapture p) := by
  unfold unlockCapture
  split
  · exact .ofViews rfl
  · exact .refl p

theorem store_keeps (a : Nat) (d : Word) (p : Part) : Keeps p (store a d p) :=
  { memory := fun ⟨hm, hr⟩ => ⟨writeWord_wf hm, hr⟩ }

theorem mailboxEffect_keeps (o : Nat) (d : Word) (p : Part) : Keeps p (mailboxEffect o d p) := by
  unfold mailboxEffect
  split
  · exact takeCommand_keeps _ p
  · exact .ofViews rfl
  · exact .ofViews rfl
  · exact .ofViews rfl
  · exact .ofViews rfl
  · exact takeDialWord_keeps _ p
  · exact takeConsumerIndex_keeps _ p
  · exact .refl p

theorem writeEffect_keeps (a : Nat) (d : Word) (p : Part) : Keeps p (writeEffect a d p) := by
  unfold writeEffect
  split
  · exact mailboxEffect_keeps _ d p
  · exact .ofViews rfl
  · exact tariffNotice_keeps p
  all_goals exact .refl p

theorem readEffect_keeps (a : Nat) (p : Part) : Keeps p (readEffect a p) := by
  unfold readEffect
  extract_lets _ q
  have hq : Keeps p q := .ofViews rfl
  split
  · exact hq.trans (unlockCapture_keeps q)
  · exact hq

theorem takeAccess_keeps (a : HostAccess) (p : Part) : Keeps p (takeAccess a p) := by
  unfold takeAccess
  split
  · split
    · exact (store_keeps _ _ p).trans (writeEffect_keeps _ _ _)
    · exact .refl p
  · split
    · exact readEffect_keeps _ p
    · exact .refl p

theorem takeUnported_keeps {a : HostAccess} {p q : Part} (h : takeUnported a p = some q) : Keeps p q := by
  unfold takeUnported at h
  split at h
  · split at h
    · obtain rfl := Option.some.inj h
      exact .refl p
    · split at h
      · simp at h
      · obtain rfl := Option.some.inj h
        exact clearCauses_keeps _ p
      · obtain rfl := Option.some.inj h
        exact suppressWrite_keeps _ _ _ _ p
  · simp at h

theorem beginWrite_keeps (g : Group) (p : Part) : Keeps p (beginWrite g p) := .ofViews rfl

theorem chooseRun_keeps (n : Nat) (p : Part) : Keeps p (chooseRun n p) := by
  induction n generalizing p with
  | zero => exact .refl p
  | succ n ih =>
    unfold chooseRun
    split
    · exact beginWrite_keeps _ p
    · split
      · split
        · exact Keeps.after (ih (setAside _ p)) rfl
        · exact .ofViews rfl
      · split
        · exact beginWrite_keeps _ p
        · exact .refl p

theorem grantRun_keeps (p : Part) : Keeps p (grantRun p) := by
  unfold grantRun
  extract_lets q
  have hq : Keeps p q := chooseRun_keeps _ p
  clear_value q
  split
  · exact hq.trans (.ofViews rfl)
  · exact hq

theorem serveRounds_keeps (n : Nat) (p : Part) : Keeps p (serveRounds n p) := by
  induction n generalizing p with
  | zero => exact .refl p
  | succ n ih =>
    unfold serveRounds
    split
    · exact .refl p
    · split
      · exact .refl p
      · split
        case h_1 hq => exact Keeps.after ((takeUnported_keeps hq).trans (ih _)) rfl
        case h_2 =>
          split
          · exact .refl p
          · split
            · exact (grantRun_keeps p).trans (ih _)
            · exact Keeps.after ((takeAccess_keeps _ _).trans (ih _)) rfl

theorem serve_keeps (p : Part) : Keeps p (serve p) := serveRounds_keeps _ p

theorem hostAccess_keeps (a : HostAccess) (p : Part) : Keeps p (hostAccess a p) := Keeps.after (serve_keeps _) rfl

/-! ## The profile loads (R70 to R73) -/

theorem applyProfile_keepsButBand (f : Profile) (p : Part) : KeepsButBand p (applyProfile f p) := .ofViews rfl

theorem markPublication_keeps (p : Part) : Keeps p (markPublication p) := markAll_keeps _ p

/-- The account start load is begun by the end of the start profile load, which the dump has waited for. -/
theorem beginAccountLoad_keeps_of {p q : Part} (h : KeepsButBand p q) (hl : q.bpu.load = none)
    (hd : startOrder p → q.rlu.dump = .waiting) : KeepsButBand p (beginAccountLoad q) where
  attention hp := attentionFollows_congr rfl (h.attention hp)
  restriction hp := restrictionHolds_of_view rfl (h.restriction hp)
  memory hp := memoryCanonical_congr rfl (h.memory hp)
  credit hp := creditWithin_congr rfl (h.credit hp)
  ring hp := callRingWhole_congr rfl (h.ring hp)
  queue hp := reportQueueSound_congr rfl (h.queue hp)
  order hp := ⟨fun hs => absurd (hl.symm.trans hs) (by simp), .inr (hd hp)⟩
  accepted ho hp hq := acceptedBalances_congr rfl (h.accepted ho hp hq)
  collected ho hdp hc hb :=
    have ⟨hd', hc', hb'⟩ := h.collected ho hdp hc hb
    ⟨hd', collectedBalances_congr rfl hc', bankedAgrees_congr rfl hb'⟩

theorem beginVerify_load (p : Part) : (beginVerify p).bpu.load = p.bpu.load := by
  unfold beginVerify
  split <;> rfl

theorem beginFirstReads_keeps_of {p q : Part} (h : KeepsButBand p q) (hl : q.bpu.load = none)
    (hd : startOrder p → q.rlu.dump = .waiting) : KeepsButBand p (beginFirstReads q) := by
  unfold beginFirstReads
  extract_lets _ r
  have hr : KeepsButBand p r := h.trans (.ofViews rfl)
  split
  · exact (beginAccountLoad_keeps_of hr hl hd).trans (beginVerify_keeps _).toKeepsButBand
  · exact beginAccountLoad_keeps_of (hr.trans (beginVerify_keeps r).toKeepsButBand) ((beginVerify_load r).trans hl)
      (by rewrite [(beginVerify_rlu r).1]; exact hd)

theorem inner_load {p q : Part} (h : inner q = inner p) : q.bpu.load = p.bpu.load := by
  simp only [inner, Prod.mk.injEq] at h
  exact h.2.2.2.2.2.2.2.2.2.2.2.2.2.1

theorem appendRecord_load (r : RingRecord) (p : Part) : (appendRecord r p).bpu.load = p.bpu.load := by
  unfold appendRecord
  split <;> rfl

theorem markAll_load (gs : List Group) (p : Part) : (markAll gs p).bpu.load = p.bpu.load := by
  induction gs generalizing p with
  | nil => rfl
  | cons g gs ih => exact ih (mark g p)

/-- The part with the outcome of the start load applied. -/
theorem startOutcome_keeps (result : Except Nat Profile) (p : Part) :
    KeepsButBand p (startOutcome result p) ∧ (startOutcome result p).bpu.load = none := by
  have h : ∀ b : Option Bases,
      KeepsButBand p { p with bpu.load := none, bpu.profileWords := [], bpu.windows := b } := fun b =>
    { order := fun ⟨_, hl⟩ => ⟨nofun, hl⟩ }
  cases result with
  | ok f => exact ⟨(h (some f.bases)).trans (applyProfile_keepsButBand f _), rfl⟩
  | error detail =>
    have hr := raise_keeps .profileBad detail
      { p with bpu.load := none, bpu.profileWords := [], bpu.windows := some builtInBases }
    exact ⟨(h (some builtInBases)).trans hr.toKeepsButBand, inner_load (raise_inner .profileBad detail _)⟩

theorem endStartLoad_keeps {p : Part} (hl : p.bpu.load = some .start) (result : Except Nat Profile) :
    Keeps p (endStartLoad result p) := by
  have ⟨ho, hol⟩ := startOutcome_keeps result p
  have hd : (startOutcome result p).rlu = p.rlu := (startOutcome_rlu result p).1
  show Keeps p (reportAsk (probeAsk (gateWork (judgeBand (beginFirstReads (appendRecord
    (.start (startOutcome result p).started (startOutcome result p).rtu.clock)
    (markPublication (startOutcome result p))))))))
  generalize startOutcome result p = o at *
  have ha : KeepsButBand p (appendRecord (.start o.started o.rtu.clock) (markPublication o)) :=
    ho.trans ((markPublication_keeps o).trans (appendRecord_keeps _ _)).toKeepsButBand
  have hb := beginFirstReads_keeps_of ha (by rw [appendRecord_load, markPublication, markAll_load, hol])
    (fun hs => by rewrite [(appendRecord_rlu _ _).1, markPublication, (markAll_rlu _ o).1, hd]; exact (hs.1 hl).2)
  exact (((judgeBand_keeps_of hb).trans (gateWork_keeps _)).trans (probeAsk_keeps _)).trans (reportAsk_keeps _)

theorem endReload_keeps (result : Except Nat Profile) (p : Part) : Keeps p (endReload result p) := by
  unfold endReload
  extract_lets _ q r
  have hq : Keeps p q := { order := fun ⟨_, hl⟩ => ⟨nofun, hl⟩ }
  refine Keeps.trans ?_ (completeIf_keeps _ _ _)
  simp only [r]
  split
  · rename_i f
    have hb : KeepsButBand p (clear .profileBad (takeCapacity (applyProfile f q))) :=
      (hq.toKeepsButBand.trans (applyProfile_keepsButBand f q)).trans
        ((takeCapacity_keeps _).trans (clear_keeps _ _)).toKeepsButBand
    exact (((judgeBand_keeps_of hb).trans (gateWork_keeps _)).trans (probeAsk_keeps _)).trans (reportAsk_keeps _)
  · exact hq.trans (raise_keeps _ _ q)

theorem endProfileLoad_keeps (result : Except Nat Profile) (p : Part) : Keeps p (endProfileLoad result p) := by
  unfold endProfileLoad
  split
  · exact endStartLoad_keeps ‹_› result
  · exact endReload_keeps result p
  · exact .refl p

theorem takeProfileWords_keeps (n : Nat) (ws : List Word) (p : Part) : Keeps p (takeProfileWords n ws p) := by
  unfold takeProfileWords
  extract_lets all
  split
  · exact .ofViews rfl
  · exact endProfileLoad_keeps _ p
  · exact endProfileLoad_keeps _ p

/-! ## The port's runs (R66 to R69) -/

theorem writeWords_keeps (a : Nat) (ws : List Word) (p : Part) :
    Keeps p { freePort p with mem := writeWords p.mem a ws } :=
  { memory := fun ⟨hm, hr⟩ => ⟨writeWords_wf hm, hr⟩ }

theorem readDone_keeps {requester : PartRead → Option (Part → Part)}
    (hf : ∀ r f, requester r = some f → ∀ p, Keeps p (f p)) (p : Part) : Keeps p (readDone requester p) := by
  unfold readDone
  split
  · split
    · refine Keeps.trans ?_ (serve_keeps _)
      split
      · exact .ofViews rfl
      · exact Keeps.after (hf _ _ ‹_› (freePort p)) rfl
    · exact .refl p
  · exact .refl p
  · exact .refl p

theorem writeDone_keeps {owner : Group → Option Nat → Option (Part → Part)}
    (hf : ∀ g r f, owner g r = some f → ∀ p, Keeps p (f p)) (p : Part) : Keeps p (writeDone owner p) := by
  unfold writeDone
  split
  · split
    · exact ((writeWords_keeps _ _ p).trans (hf _ _ _ ‹_› _)).trans (serve_keeps _)
    · exact .refl p
  · exact .refl p
  · exact .refl p

theorem callSlotWritten_keeps (s : Nat) (p : Part) : Keeps p (callSlotWritten s p) := by
  unfold callSlotWritten
  split
  · exact .refl p
  · exact .ofViews rfl

theorem finalWritten_keeps (p : Part) : Keeps p (finalWritten p) := Keeps.after (setCause_keeps .result _) rfl

theorem cellZeroed_keeps (i : Nat) (p : Part) : Keeps p (cellZeroed i p) := by
  unfold cellZeroed
  split
  · refine Keeps.trans ?_ (addHeld_keeps _ i _)
    exact { memory := fun ⟨hm, hr⟩ => ⟨hm, writeWord_wf hr⟩ }
  · exact .refl p

theorem endMapDump_keeps (p : Part) : Keeps p (endMapDump p) := by
  unfold endMapDump
  extract_lets cleared _ q
  have hq : Keeps p q := .ofViews rfl
  refine Keeps.trans ?_ (completeIf_keeps _ _ _)
  split
  · exact hq.trans (clear_keeps _ q)
  · exact hq

theorem cellWritten_keeps (i : Nat) (p : Part) : Keeps p (cellWritten i p) := by
  unfold cellWritten
  extract_lets q
  have hq : Keeps p q := cellZeroed_keeps i p
  split
  · exact hq.trans (endMapDump_keeps q)
  · exact hq

theorem senseFlash_keeps (b : Bool) (p : Part) : Keeps p (senseFlash b p) := by
  unfold senseFlash
  split <;> exact .ofViews rfl

theorem failRead_keeps (r : FlashReader) (p : Part) : Keeps p (failRead r p) := by
  unfold failRead
  split
  · exact endProfileLoad_keeps _ p
  · exact scanFailsBack_keeps p

theorem advanceTo_keeps (t : Timer) (p : Part) : Keeps p (advanceTo t p) := by
  unfold advanceTo
  split
  · exact .refl p
  · exact .ofViews rfl

/-- What keeps the invariants keeps them at an expiry. -/
theorem onExpiry_keeps {f : Part → Part} (hf : ∀ p, Keeps p (f p)) (t : Option Timer) (p : Part) :
    Keeps p (onExpiry t f p) := by
  unfold onExpiry
  split
  · exact .refl p
  · exact (advanceTo_keeps _ p).trans (hf _)

set_option Elab.async false in
theorem failBack_keeps (r : FlashReader) (p : Part) : Keeps p (failBack r p) := by
  unfold failBack
  split
  · split
    · exact .refl p
    · refine Keeps.trans (onExpiry_keeps (fun q => ?_) _ p) (serve_keeps _)
      exact Keeps.after (failRead_keeps r { q with bpu.aside := q.bpu.aside.filter fun x => !isReadOf r x }) rfl
  · exact .ofViews rfl

/-! ## The clock (R92) -/

theorem secondPasses_keeps (p : Part) : Keeps p (secondPasses p) :=
  (judgeBand_keeps_of (by exact .ofViews rfl)).trans (gateWork_keeps _)

/-! ## The starts -/

/-- A part just started: what the units hold for the invariants is their state after a start. -/
structure Started (p q : Part) : Prop where
  memory : memoryCanonical p → memoryCanonical q
  attention : attentionView q = attentionView Part.reset
  restriction : restrictionView q = restrictionView Part.reset
  calendar : q.rtu.band = 0 ∧ q.rtu.calendar = none
  ring : ringView q = ringView Part.reset
  queue : queueView q = queueView Part.reset
  start : startView q = startView Part.reset
  credit : creditView q = creditView Part.reset

theorem cutWrite_wf {p : Part} (h : Memory.wf p.mem = true) : Memory.wf (cutWrite p) = true := by
  unfold cutWrite
  split
  · exact writeWords_wf h
  · exact h
  · exact h

theorem powerStarted_started (p : Part) : Started p (powerStarted p) where
  memory := fun ⟨hm, _⟩ => ⟨cutWrite_wf hm, rfl⟩
  attention := rfl
  restriction := rfl
  calendar := ⟨rfl, rfl⟩
  ring := rfl
  queue := rfl
  start := rfl
  credit := rfl

theorem lineStarted_started (p : Part) : Started p (lineStarted p) where
  memory := fun ⟨hm, _⟩ => ⟨cutWrite_wf hm, rfl⟩
  attention := rfl
  restriction := rfl
  calendar := ⟨rfl, rfl⟩
  ring := rfl
  queue := rfl
  start := rfl
  credit := rfl

/-! After a start the dump waits, and every invariant holds. -/

theorem Started.dumpWaits {p q : Part} (h : Started p q) : q.rlu.dump = .waiting := by
  have hs := h.start
  simp only [startView, Prod.mk.injEq] at hs
  exact hs.2.2

theorem Started.attentionFollows {p q : Part} (h : Started p q) : attentionFollows q :=
  attentionFollows_congr h.attention rfl

theorem Started.restrictionHolds {p q : Part} (h : Started p q) : restrictionHolds q :=
  restrictionHolds_of_view h.restriction rfl

theorem Started.bandHolds {p q : Part} (h : Started p q) : bandHolds q := by
  rewrite [Machine.bandHolds, h.calendar.1, h.calendar.2]
  rfl

theorem Started.creditWithin {p q : Part} (h : Started p q) : creditWithin q :=
  creditWithin_congr h.credit (by unfold Machine.creditWithin; decide)

theorem Started.callRingWhole {p q : Part} (h : Started p q) : callRingWhole q :=
  callRingWhole_congr h.ring (by unfold Machine.callRingWhole; decide)

theorem Started.reportQueueSound {p q : Part} (h : Started p q) : reportQueueSound q :=
  reportQueueSound_congr h.queue (by unfold Machine.reportQueueSound; decide)

theorem Started.startOrder {p q : Part} (h : Started p q) : startOrder q :=
  startOrder_congr h.start (by unfold Machine.startOrder; decide)

theorem chooseRun_rlu (n : Nat) (p : Part) :
    (chooseRun n p).rlu = p.rlu ∧ (chooseRun n p).bpu.load = p.bpu.load := by
  induction n generalizing p with
  | zero => exact ⟨rfl, rfl⟩
  | succ n ih =>
    unfold chooseRun
    split
    · exact ⟨rfl, rfl⟩
    · split
      · split
        · exact ih _
        · exact ⟨rfl, rfl⟩
      · split <;> exact ⟨rfl, rfl⟩

theorem grantRun_rlu (p : Part) : (grantRun p).rlu = p.rlu ∧ (grantRun p).bpu.load = p.bpu.load := by
  unfold grantRun
  extract_lets q
  have hq : q.rlu = p.rlu ∧ q.bpu.load = p.bpu.load := chooseRun_rlu _ p
  split <;> exact hq

theorem takeAccess_read_rlu (t : Target) (p : Part) : (takeAccess (.read t) p).rlu = p.rlu
    ∧ (takeAccess (.read t) p).bpu.load = p.bpu.load := by
  simp only [takeAccess]
  split
  · unfold readEffect unlockCapture
    extract_lets
    split
    · split <;> exact ⟨rfl, rfl⟩
    · exact ⟨rfl, rfl⟩
  · exact ⟨rfl, rfl⟩

/-- In the start profile load the accesses at the host bus port do not reach the rail (R72): a write is held, and a read
changes nothing there. -/
theorem serveRounds_held (n : Nat) {p : Part} (h : p.bpu.load = some .start) : (serveRounds n p).rlu = p.rlu := by
  induction n generalizing p with
  | zero => rfl
  | succ n ih =>
    unfold serveRounds
    split
    · rfl
    case h_2 a rest _ =>
      cases a with
      | write t d => simp [isHeld, h]
      | read t =>
        simp only [isHeld, takeUnported, Bool.false_eq_true, if_false]
        split
        · rfl
        · split
          · exact (ih ((grantRun_rlu p).2.trans h)).trans (grantRun_rlu p).1
          · have hr := takeAccess_read_rlu t { p with
              bpu.hostQueue := rest
              bpu.starvation := if workReady p then p.bpu.starvation + 1 else p.bpu.starvation }
            exact (ih (hr.2.trans h)).trans hr.1

/-! ## Every step -/

theorem dwell_keeps (figure : Nat) (p : Part) :
    Keeps p (if p.lu.line = .searching then searchDwell figure p else progressDwell figure p) := by
  split
  · exact searchDwell_keeps figure p
  · exact progressDwell_keeps figure p

theorem voltage_keeps (present : Bool) (p : Part) :
    Keeps p (if p.pins.voltage = present then p
      else
        let q := { p with pins.voltage := present }
        if q.lu.line = .idle then { q with lu.voltWatch := if present then none else some (newTimer 5000 q) }
        else q) := by
  split
  · exact .refl p
  · dsimp only
    split <;> exact .ofViews rfl

theorem partRunGrant_keeps (b : Bool) (p : Part) :
    Keeps p (if mayGrant (senseFlash b p) then grantRun (senseFlash b p) else senseFlash b p) := by
  split
  · exact (senseFlash_keeps b p).trans (grantRun_keeps _)
  · exact senseFlash_keeps b p

theorem hookDebounced_keeps (off : Bool) (p : Part) :
    Keeps p (if p.cc.off = off then { p with pins.hookOff := off, samplers.hook := heldFor off 30 }
      else if off then hookUp { p with pins.hookOff := off, samplers.hook := heldFor off 30 }
      else hookDown { p with pins.hookOff := off, samplers.hook := heldFor off 30 }) := by
  split
  · exact .ofViews rfl
  · split
    · exact Keeps.after (hookUp_keeps _) rfl
    · exact Keeps.after (hookDown_keeps _) rfl

theorem slotOwner_keeps (g : Group) (r : Option Nat) (f : Part → Part) (h : slotOwner g r = some f) (p : Part) :
    Keeps p (f p) := by
  unfold slotOwner at h
  split at h
  · obtain rfl := Option.some.inj h
    exact slotWritten_keeps _ r p
  all_goals simp at h

theorem cellOwner_keeps (g : Group) (r : Option Nat) (f : Part → Part) (h : cellOwner g r = some f) (p : Part) :
    Keeps p (f p) := by
  unfold cellOwner at h
  split at h
  · obtain rfl := Option.some.inj h
    exact cellWritten_keeps _ p
  all_goals simp at h

theorem finalOwner_keeps (o : Part) (g : Group) (r : Option Nat) (f : Part → Part) (h : finalOwner o g r = some f)
    (p : Part) : Keeps p (f p) := by
  cases g with
  | result =>
    dsimp only [finalOwner] at h
    generalize showsFinal _ o = b at h
    cases b with
    | true =>
      obtain rfl := Option.some.inj h
      exact finalWritten_keeps p
    | false => simp at h
  | account _ | status _ | report _ | call _ | cell _ => simp [finalOwner] at h

theorem plainOwner_keeps (o : Part) (g : Group) (r : Option Nat) (f : Part → Part) (h : plainOwner o g r = some f)
    (p : Part) : Keeps p (f p) := by
  cases g with
  | result =>
    dsimp only [plainOwner] at h
    generalize showsFinal _ o = b at h
    cases b with
    | true => simp at h
    | false =>
      obtain rfl := Option.some.inj h
      exact .refl p
  | call s =>
    obtain rfl := Option.some.inj h
    exact callSlotWritten_keeps s p
  | status _ | report _ =>
    obtain rfl := Option.some.inj h
    exact .refl p
  | account _ | cell _ => simp [plainOwner] at h

theorem profileReader_keeps (ws : List Word) (r : PartRead) (f : Part → Part) (h : profileReader ws r = some f)
    (p : Part) : Keeps p (f p) := by
  unfold profileReader at h
  split at h
  · obtain rfl := Option.some.inj h
    exact takeProfileWords_keeps _ _ p
  all_goals simp at h

theorem headerReader_keeps (n c : Word) (r : PartRead) (f : Part → Part) (h : headerReader n c r = some f)
    (p : Part) : Keeps p (f p) := by
  unfold headerReader at h
  split at h
  · obtain rfl := Option.some.inj h
    exact takeHeader_keeps n c p
  all_goals simp at h

theorem entryReader_keeps (ws : List Word) (r : PartRead) (f : Part → Part) (h : entryReader ws r = some f)
    (p : Part) : Keeps p (f p) := by
  unfold entryReader at h
  split at h
  · obtain rfl := Option.some.inj h
    exact takeEntry_keeps _ _ p
  all_goals simp at h

theorem loadReader_keeps (ws : List Word) (b : Bool) (r : PartRead) (f : Part → Part) (h : loadReader ws b r = some f)
    (p : Part) : Keeps p (f p) := by
  unfold loadReader at h
  split at h
  · obtain rfl := Option.some.inj h
    exact loadSlot_keeps _ _ b p
  all_goals simp at h

theorem scrubReader_keeps (ws : List Word) (r : PartRead) (f : Part → Part) (h : scrubReader ws r = some f)
    (p : Part) : Keeps p (f p) := by
  unfold scrubReader at h
  split at h
  · obtain rfl := Option.some.inj h
    exact scrubRead_keeps _ _ _ p
  all_goals simp at h

/-- What a command leaves of the part: the invariants, or a part just started with its dump waiting. -/
def KeepsOrStarts (p q : Part) : Prop :=
  Keeps p q ∨ ∃ r, Started p r ∧ Keeps r q ∧ q.rlu.dump = .waiting

theorem of_next {s t : State} {q : Part} {rest : List Instr} (hq : KeepsOrStarts s.part q)
    (h : (Host.Outcome.next { part := q, pending := rest } : Host.Outcome State Fault Refusal) = .next t) :
    KeepsOrStarts s.part t.part := by
  injection h with h
  rwa [← h]

theorem of_next_keeps {s t : State} {q : Part} {rest : List Instr}
    (h : (Host.Outcome.next { part := q, pending := rest } : Host.Outcome State Fault Refusal) = .next t)
    (hq : Keeps s.part q) : KeepsOrStarts s.part t.part := of_next (.inl hq) h

theorem of_next_expiry {s t : State} {limit : Option Timer} {f : Part → Part} {rest : List Instr}
    (h : (Host.Outcome.next { part := onExpiry limit f s.part, pending := rest } : Host.Outcome State Fault Refusal)
      = .next t) (hf : ∀ q, Keeps q (f q)) : KeepsOrStarts s.part t.part :=
  of_next_keeps h (onExpiry_keeps hf limit s.part)

/-- Every command but the starts keeps the invariants. -/
theorem exec_keepsOrStarts {c : Instr} {s t : State} (h : exec c s = .next t) : KeepsOrStarts s.part t.part := by
  cases c with
  | powerStart =>
    exact of_next (.inr ⟨_, powerStarted_started s.part, .refl _, rfl⟩) h
  | lineStart =>
    refine of_next (.inr ⟨_, lineStarted_started s.part, serve_keeps _, ?_⟩) h
    unfold serve
    rewrite [serveRounds_held _ rfl]
    rfl
  | hostPassWrite | argumentWrite | dial | release | setTime | setAttention | mapDump | vaultCleared | reloadProfile
  | reportNow | testReport | unknownCommand | dialWordWrite | consumerIndexWrite | changeWordWrite | suppressedWrite
  | accountWrite | profileWrite | tariffWrite | captureUnlockRead | hostWriteHeld =>
    exact of_next_keeps h (hostAccess_keeps _ s.part)
  | clearCondition shown =>
    exact of_next_keeps h (Keeps.after (hostAccess_keeps (.write (.window .mailbox 0) 7) (senseChutes shown s.part)) rfl)
  | partRunGrant b => exact of_next_keeps h (partRunGrant_keeps b s.part)
  | groupWriteComplete => exact of_next_keeps h (writeDone_keeps (plainOwner_keeps s.part) s.part)
  | resultWordWritten => exact of_next_keeps h (writeDone_keeps (finalOwner_keeps s.part) s.part)
  | mapCellWritten => exact of_next_keeps h (writeDone_keeps cellOwner_keeps s.part)
  | accountSlotWritten => exact of_next_keeps h (writeDone_keeps slotOwner_keeps s.part)
  | profileReadDone ws => exact of_next_keeps h (readDone_keeps (profileReader_keeps ws) s.part)
  | scanHeaderRead n c => exact of_next_keeps h (readDone_keeps (headerReader_keeps n c) s.part)
  | scanEntryRead ws => exact of_next_keeps h (readDone_keeps (entryReader_keeps ws) s.part)
  | startLoadSlotRead ws b => exact of_next_keeps h (readDone_keeps (loadReader_keeps ws b) s.part)
  | scrubReadDone ws => exact of_next_keeps h (readDone_keeps (scrubReader_keeps ws) s.part)
  | flashReady => exact of_next_keeps h (.ofViews rfl)
  | flashReadFailBack r => exact of_next_keeps h (failBack_keeps r s.part)
  | scrubTurn => exact of_next_expiry h scrubTurn_keeps
  | coinMeasurement d a m => exact of_next_keeps h (takeMeasurement_keeps _ s.part)
  | flapRelease => exact of_next_expiry h (fun _ => .ofViews rfl)
  | vaultConfirm => exact of_next_keeps h (Keeps.after (vaultSensor_keeps (vaultInterrupted s.part)) rfl)
  | returnConfirm b =>
    exact of_next_keeps h (Keeps.after (returnSensor_keeps b { returnInterrupted s.part with pins.headOccupied := b }) rfl)
  | confirmLimitExpiry => exact of_next_expiry h confirmMissing_keeps
  | quietTimerExpiry =>
    exact of_next_expiry h (fun _ => Keeps.after (beginVerify_keeps _) rfl)
  | clockSecond => exact of_next_expiry h secondPasses_keeps
  | stepEnd => exact of_next_expiry h (fun q => (endStep_keeps q).trans (gateWork_keeps _))
  | graceExpiry => exact of_next_expiry h endGrace_keeps
  | clearingEnd => exact of_next_expiry h endClearing_keeps
  | loopCurrentChange sense => exact of_next_keeps h (senseLoop_keeps sense s.part)
  | loopLimitExpiry => exact of_next_expiry h (lineOutcome_keeps _)
  | searchLimitExpiry => exact of_next_expiry h (lineOutcome_keeps _)
  | dwellFigure figure => exact of_next_keeps h (dwell_keeps figure.toNat s.part)
  | dtmfToneEnd => exact of_next_expiry h endTone_keeps
  | dtmfGapEnd => exact of_next_expiry h endGap_keeps
  | pulseBreakEnd => exact of_next_expiry h endBreak_keeps
  | pulseMakeEnd => exact of_next_expiry h endMake_keeps
  | polarityChange sense =>
    refine of_next_keeps h ?_
    dsimp only
    split
    · exact senseLoop_keeps _ s.part
    · exact .refl s.part
  | reversalHoldEnd => exact of_next_expiry h answerCall_keeps
  | clearHoldEnd => exact of_next_expiry h (lineOutcome_keeps _)
  | answerTimeout => exact of_next_expiry h (lineOutcome_keeps _)
  | timedAnswerExpiry => exact of_next_expiry h answerCall_keeps
  | reportPauseEnd => exact of_next_expiry h endPause_keeps
  | lossTimerExpiry => exact of_next_expiry h (lineOutcome_keeps _)
  | ackWaitExpiry => exact of_next_expiry h handResult_frameNotAccepted_keeps
  | dtmfSymbolReceived symbol => exact of_next_keeps h (receiveSymbol_keeps _ s.part)
  | loopVoltageChange present => exact of_next_keeps h (voltage_keeps present s.part)
  | voltageWatchExpiry =>
    exact of_next_expiry h (fun _ => Keeps.after (raiseLineDown_keeps 1 _) rfl)
  | probeTimerExpiry =>
    exact of_next_expiry h (fun _ => Keeps.after (probeAsk_keeps _) rfl)
  | hookDebounced off => exact of_next_keeps h (hookDebounced_keeps off s.part)
  | hangUpTimerExpiry =>
    exact of_next_expiry h (fun _ => Keeps.after ((takeHangUp_keeps _).trans (probeAsk_keeps _)) rfl)
  | abuseTimerExpiry =>
    exact of_next_expiry h (fun _ => Keeps.after (clear_keeps .hookAbuse _) rfl)
  | flashAgeOut => exact of_next_expiry h (fun _ => .ofViews rfl)
  | doorDebounced b =>
    exact of_next_keeps h (Keeps.after (doorChanges_keeps b { s.part with pins.doorOpen := b, samplers.door := heldFor b 50 }) rfl)
  | keyDebounced b =>
    exact of_next_keeps h (Keeps.after (keyChanges_keeps b { s.part with pins.keyOn := b, samplers.key := heldFor b 50 }) rfl)
  | switchSettled w b =>
    refine of_next_keeps h ?_
    cases w with
    | door => exact Keeps.after (settleSwitch_keeps _ b _) rfl
    | key => exact Keeps.after (settleSwitch_keeps _ b _) rfl
  | cordTimerExpiry b =>
    exact of_next_keeps h (Keeps.after (cordChanges_keeps b { s.part with pins.cordOpen := b, samplers.cord := heldFor b 2000 }) rfl)
  | shockPulse =>
    exact of_next_keeps h (Keeps.after (takePulse_keeps { s.part with pins.shockClosed := false, samplers.shock := heldFor false 0 }) rfl)
  | shockQuietExpiry =>
    exact of_next_expiry h (fun _ => Keeps.after (clear_keeps .shock _) rfl)
  | pulseAgeOut => exact of_next_expiry h (fun _ => .ofViews rfl)
  | hookQuietExpiry =>
    exact of_next_expiry h (fun _ => Keeps.after (reportAsk_keeps _) rfl)
  | backoffExpiry =>
    exact of_next_expiry h (fun q => (cancelBackoff_keeps q).trans (reportAsk_keeps _))

/-- Every step keeps the invariants, or starts the part. -/
theorem step_keepsOrStarts {s t : State} (h : step s = .next t) : KeepsOrStarts s.part t.part := by
  unfold step at h
  split at h
  · exact of_next_keeps h (.ofViews rfl)
  case h_2 c rest _ => exact exec_keepsOrStarts (s := { s with pending := rest }) h

/-! ## The obligations -/

/-- An invariant that `Keeps` carries and that a start establishes holds after every step. -/
theorem step_preserves {inv : Part → Prop} (hk : ∀ p q, Keeps p q → inv p → inv q)
    (hs : ∀ p q, Started p q → inv p → inv q) {s t : State} (hp : inv s.part) (h : step s = .next t) : inv t.part := by
  obtain hkeeps | ⟨r, hr, hrt, _⟩ := step_keepsOrStarts h
  · exact hk _ _ hkeeps hp
  · exact hk _ _ hrt (hs _ _ hr hp)

/-- Settles O14: every command judges the line after the causes and the enable mask it changes. -/
theorem attentionFollowsAlways : Obligations.AttentionFollowsAlways := by
  unfold Obligations.AttentionFollowsAlways
  exact fun s t => step_preserves (fun _ _ hk => hk.attention) fun _ _ hs _ => hs.attentionFollows

/-- Settles O15: a changed row and a changed key are followed by a derivation. -/
theorem restrictionDerivedAlways : Obligations.RestrictionDerivedAlways := by
  unfold Obligations.RestrictionDerivedAlways
  exact fun s t => step_preserves (fun _ _ hk => hk.restriction) fun _ _ hs _ => hs.restrictionHolds

/-- Settles O16: a changed clock and a changed calendar are followed by a judgement of the band. -/
theorem bandFollowsClock : Obligations.BandFollowsClock := by
  unfold Obligations.BandFollowsClock
  exact fun s t => step_preserves (fun _ _ hk => hk.band) fun _ _ hs _ => hs.bandHolds

/-- Settles O17: every write keeps the canonical form, that of a group cut short by a start too. -/
theorem memoryStaysCanonical : Obligations.MemoryStaysCanonical := by
  unfold Obligations.MemoryStaysCanonical
  exact fun s t => step_preserves (fun _ _ hk => hk.memory) fun _ _ hs => hs.memory

/-- Settles O18: a coin joins within the cap, a listing is within it, and every other change takes credit away. -/
theorem creditStaysWithin : Obligations.CreditStaysWithin := by
  unfold Obligations.CreditStaysWithin
  exact fun s t => step_preserves (fun _ _ hk => hk.credit) fun _ _ hs _ => hs.creditWithin

/-- Settles O19: a record moves the producer index, freed slots the consumer index, and the count goes with each. -/
theorem callRingStaysWhole : Obligations.CallRingStaysWhole := by
  unfold Obligations.CallRingStaysWhole
  exact fun s t => step_preserves (fun _ _ hk => hk.ring) fun _ _ hs _ => hs.callRingWhole

/-- Settles O20: a record joins in an empty slot, or in that of the record it displaces, when none of its kind is queued.
-/
theorem reportQueueStaysSound : Obligations.ReportQueueStaysSound := by
  unfold Obligations.ReportQueueStaysSound
  exact fun s t => step_preserves (fun _ _ hk => hk.queue) fun _ _ hs _ => hs.reportQueueSound

/-- Settles O21: each stage of a start is begun by the end of the one before it. -/
theorem startKeepsOrder : Obligations.StartKeepsOrder := by
  unfold Obligations.StartKeepsOrder
  exact fun s t => step_preserves (fun _ _ hk => hk.order) fun _ _ hs _ => hs.startOrder

/-- Settles O22: each booking moves a coin's value between the totals, and the dump's begins with the listing. -/
theorem acceptedMoneyBalances : Obligations.AcceptedMoneyBalances := by
  unfold Obligations.AcceptedMoneyBalances
  intro s t ho hp h hd
  obtain hk | ⟨r, hr, hrt, _⟩ := step_keepsOrStarts h
  · exact hk.accepted ho hp hd
  · exact hrt.accepted hr.startOrder (fun hn => absurd hr.dumpWaits hn) hd

/-- Settles O23: each booking moves banked credit in MONEY as on the rail, and a start returns the dump to waiting. -/
theorem collectedMoneyBalances : Obligations.CollectedMoneyBalances := by
  unfold Obligations.CollectedMoneyBalances
  intro s t ho hd hc hb h
  obtain hk | ⟨r, _, _, hw⟩ := step_keepsOrStarts h
  · exact .inr (hk.collected ho hd hc hb).2
  · exact .inl hw

end Sys2Proof.Machine
end

section
/-!
PROOFS. Host accesses (R56 to R68): O3 to O11. What a write stores, what its word has as its effect, and what a
suppressed one leaves.
-/

namespace Sys2Proof.Machine

/-! ## Words stored -/

set_option Elab.async false in
/-- A word stored leaves every other word alone. -/
theorem memoryKeptBut_stored {p q : Part} {a : Nat} {d : Word} (h : q.mem = writeWord p.mem a d) :
    memoryKeptBut a 1 p q := fun c hc => by
  rewrite [h]
  exact readWord_writeWord_other (by omega)

theorem readWord_stored {p q : Part} {a : Nat} {d : Word} (hm : Memory.wf p.mem = true)
    (h : q.mem = writeWord p.mem a d) : readWord q.mem a = d := by
  rewrite [h]
  exact readWord_writeWord_same hm

/-- A write to an address in no window passes. -/
theorem treatmentAt_outside {a : Nat} {p : Part} (h : windowAt a p = none) : treatmentAt a p = .pass := by
  rw [treatmentAt, h]

/-- A write to an address in no window has no effect beyond memory. -/
theorem writeEffect_outside {a : Nat} {p : Part} (h : windowAt a p = none) (d : Word) : writeEffect a d p = p := by
  rw [writeEffect, h]

/-- A write that cannot be taken, as it is held or finds the port busy, waits at the host bus port. -/
theorem hostAccess_waits {t : Target} {d : Word} {p : Part} (hq : p.bpu.hostQueue = [])
    (hw : p.bpu.load = some .start ∨ p.bpu.port.isSome = true ∧ takeUnported (.write t d) p = none) :
    hostAccess (.write t d) p = { p with bpu.hostQueue := [.write t d] } := by
  unfold hostAccess serve
  rewrite [hq]
  show serveRounds 4 { p with bpu.hostQueue := [.write t d] } = _
  by_cases hl : p.bpu.load = some .start
  · simp [serveRounds, isHeld, hl]
  · obtain ⟨hport, hu⟩ := hw.resolve_left hl
    have hu' : takeUnported (.write t d) { p with bpu.hostQueue := [] } = none := by rwa [emptied_queue hq]
    simp [serveRounds, isHeld, hl, hu', hport]

/-! ## The dial word (R120, R136, R140) -/

/-- In TALKING the dial word reaches the line alone. -/
theorem takeDialWord_talking {v : Nat} {p : Part} (h : p.cc.call = .talking) : takeDialWord v p =
    if v ≤ 15 ∧ (p.lu.settings.map (·.inCall)) = some true then takeInCall v p else p := by
  rw [takeDialWord, h]

/-- What an in-call digit does to the line: it joins the queue where that has room, and is sent at once while the sender
rests. -/
theorem takeInCall_frame (d : Nat) (p : Part) : takeInCall d p = { p with lu := (takeInCall d p).lu } := by
  unfold takeInCall sendInCall startTone
  split
  · dsimp only
    split
    · split <;> rfl
    · rfl
  · rfl

/-- The digits after a dial word in COLLECTING, and the mark of S2 where they or the count have changed (R136). -/
theorem collectDigit_eq {v : Nat} {p : Part} (hd : p.cc.digits.length ≤ 20) (hi : p.cc.ignored ≤ 255) :
    collectDigit v p =
      { p with
        bpu.dirty := if digitsAfter v p.cc.digits p.cc.ignored = (p.cc.digits, p.cc.ignored) then p.bpu.dirty
          else insertGroup (.status 2) p.bpu.dirty
        cc.digits := (digitsAfter v p.cc.digits p.cc.ignored).1
        cc.ignored := (digitsAfter v p.cc.digits p.cc.ignored).2 } := by
  unfold collectDigit digitsAfter
  by_cases hv : v ≤ 15
  · simp only [hv, if_true, appendDigit]
    by_cases hlt : p.cc.digits.length < 20
    · simp [hlt, markS, mark]
    · by_cases hig : p.cc.ignored < 255
      · have hmin : min 255 (p.cc.ignored + 1) = p.cc.ignored + 1 := by omega
        rewrite [hmin]
        simp [hlt, hig, markS, mark]
      · have hmin : min 255 (p.cc.ignored + 1) = p.cc.ignored := by omega
        simp [hlt, hig, hmin]
  · simp only [hv, if_false]
    by_cases he : v = 0xFE
    · simp only [he, if_true, clearDigits, Prod.mk.injEq]
      by_cases hn : p.cc.digits = [] ∧ p.cc.ignored = 0
      · obtain ⟨hn, h0⟩ := hn
        simp [hn, h0]
        rw [← hn, ← h0]
      · have hn' : ¬ ([] = p.cc.digits ∧ 0 = p.cc.ignored) := fun h => hn ⟨h.1.symm, h.2.symm⟩
        simp only [hn, hn', if_false]
        rfl
    · simp only [he, if_false]
      by_cases hf : v = 0xFF
      · simp only [hf, if_true, eraseDigit]
        by_cases hn : p.cc.digits = []
        · simp [hn]
          rw [← hn]
        · have hne : p.cc.digits.dropLast ≠ p.cc.digits := by
            intro h
            have hlen := congrArg List.length h
            rewrite [List.length_dropLast] at hlen
            have := List.length_pos_iff.2 hn
            omega
          simp [hn, hne, markS, mark]
      · simp [hf]

/-! ## Suppressed writes and the capture record (R62 to R65) -/

/-- A write into another window than the account's is counted and captured, and does no more. -/
theorem suppressWrite_eq {a : Nat} {k : WindowKind} (hk : k ≠ .account) (d : Word) (o : Nat) (p : Part) :
    suppressWrite a d k o p = suppressed (BitVec.ofNat 18 a) d k p := by
  unfold suppressWrite offerCapture suppressed
  rewrite [if_neg hk]
  by_cases hl : p.bpu.capture.locked = true
  · simp only [markS_bpu_capture, hl, if_true]
    rfl
  · rewrite [if_neg hl, if_neg (by simpa using hl)]
    rfl

/-- A write into the account is suppressed and raises ACCOUNT_TAMPER with the word's offset (R60). -/
theorem suppressWrite_account (a : Nat) (d : Word) (o : Nat) (p : Part) :
    suppressWrite a d .account o p = raise .accountTamper o (suppressed (BitVec.ofNat 18 a) d .account p) := by
  unfold suppressWrite offerCapture suppressed
  rewrite [if_pos rfl]
  by_cases hl : p.bpu.capture.locked = true
  · simp only [markS_bpu_capture, hl, if_true]
    rfl
  · rewrite [if_neg hl, if_neg (by simpa using hl)]
    rfl

/-- What a suppressed write leaves alone. -/
theorem suppressed_frame (a : Addr) (d : Word) (k : WindowKind) (p : Part) :
    suppressed a d k p = { p with bpu := (suppressed a d k p).bpu } ∧ (suppressed a d k p).bpu.refused =
      min 65535 (p.bpu.refused + 1) ∧ (suppressed a d k p).bpu.hostQueue = p.bpu.hostQueue := by
  unfold suppressed
  split <;> exact ⟨rfl, rfl, rfl⟩

/-- The raise of a condition leaves the refused count and the capture record alone. -/
theorem outer_capture {p q : Part} (h : outer q = outer p) :
    q.bpu.refused = p.bpu.refused ∧ q.bpu.capture = p.bpu.capture := by
  simp only [outer, Prod.mk.injEq] at h
  obtain ⟨-, -, -, -, -, -, -, -, -, -, -, -, -, hr, hc⟩ := h
  exact ⟨hr, hc⟩

/-! ## Notices (R61, R82, R84, R90) -/

/-- What a notice makes of one entry: an unlocked one is invalid, a locked one stale. -/
theorem invalidateCache_getElem {cache : List CacheEntry} {i : Nat} {e : CacheEntry} (h : cache[i]? = some e) :
    ∃ e' : CacheEntry, (invalidateCache cache)[i]? = some e'
      ∧ (e.valid = true → e.locked = true → e' = { e with stale := true })
      ∧ (e.valid = true → e.locked = false → e'.valid = false) ∧ (e.valid = false → e' = e) := by
  refine ⟨if e.valid then (if e.locked then { e with stale := true } else CacheEntry.invalid) else e, ?_, ?_, ?_, ?_⟩
  · simp [invalidateCache, h]
  · intro hv hl; simp [hv, hl]
  · intro hv hl; simp [hv, hl, CacheEntry.invalid]
  · intro hv; simp [hv]

theorem invalidateCache_length (cache : List CacheEntry) : (invalidateCache cache).length = cache.length := by
  simp [invalidateCache]

/-- A write to the TARIFF window, arriving at a free port: the word is stored and the notice given. -/
theorem exec_tariffWrite {b : Bases} {s : State} {o : Nat} (h : HostReady b s.part) (ho : o < 1602) (d : Word) :
    exec (.tariffWrite o d) s =
      .next { s with part := tariffNotice (stored (b.tariff + o) d (granted s.part)) } := by
  show onPart (hostAccess (.write (.window .tariff o) d)) s = _
  have hw : windowAt (b.tariff + o) (stored (b.tariff + o) d (granted s.part)) = some (.tariff, o) :=
    windowAt_installed (k := .tariff) h.1 h.2.1 ho
  rewrite [onPart, hostAccess_window h (treatmentAt_installed h.1 h.2.1 ho)]
  rw [show baseOfBases b .tariff = b.tariff from rfl, writeEffect, hw]

/-- The result shows a code given to a DIAL that is judged. -/
theorem refuseDial_rating {c : ResultCode} {p : Part} (hf : p.bpu.inFlight = some 1) (hr : p.bpu.result = .pending)
    (hc : p.cc.call = .rating) : refuseDial c p =
      complete c (setCause .call (markS 0 { p with cc.call := .collecting })) := by
  simp [refuseDial, setCall, hc, completeIf, awaits, hf, hr]

/-- The part after a TARIFF notice, before the scan in progress is told. -/
def tariffTouched (p : Part) : Part :=
  { p with rtu.cache := invalidateCache p.rtu.cache, rtu.quiet := some (newTimer 2000 p) }

theorem tariffNotice_idle {p : Part} (h : p.rtu.engine = .idle) : tariffNotice p = tariffTouched p := by
  simp [tariffNotice, tariffTouched, h]

theorem beginVerify_none {p : Part} (h : p.rtu.verifyDue = false) : beginVerify p = p := by
  simp [beginVerify, h]

theorem tariffNotice_verify {p : Part} (h : p.rtu.engine = .verify) (hdue : p.rtu.verifyDue = false) :
    tariffNotice p = stopScan (tariffTouched p) := by
  have hn : tariffNotice p = beginVerify (stopScan (tariffTouched p)) := by simp [tariffNotice, tariffTouched, h]
  rw [hn, beginVerify_none]
  exact hdue

theorem tariffNotice_restart {p : Part} {number : List Nat} {n : Nat} (h : p.rtu.engine = .lookup number n)
    (hn : n < 3) :
    tariffNotice p = beginScan { stopScan (tariffTouched p) with rtu.engine := .lookup number (n + 1) } := by
  simp [tariffNotice, tariffTouched, h, hn]

theorem tariffNotice_fourth {p : Part} {number : List Nat} (h : p.rtu.engine = .lookup number 3)
    (hdue : p.rtu.verifyDue = false) (hf : p.bpu.inFlight = some 1) (hr : p.bpu.result = .pending)
    (hc : p.cc.call = .rating) :
    tariffNotice p =
      complete .rateUnavailable (setCause .call (markS 0 { stopScan (tariffTouched p) with cc.call := .collecting })) := by
  have hn : tariffNotice p = beginVerify (judgeRating .unavailable (stopScan (tariffTouched p))) := by
    simp [tariffNotice, tariffTouched, h]
  rw [hn, judgeRating, refuseDial_rating (p := stopScan (tariffTouched p)) hf hr hc, beginVerify_none]
  exact hdue

/-! ## The obligations -/

/-- Settles O3, from the treatment of a write outside the windows, the host bus port's wait and the in-call queue. -/
theorem passWritesStoredOrHeld : Obligations.PassWritesStoredOrHeld := by
  unfold Obligations.PassWritesStoredOrHeld
  refine ⟨fun b s a d hready hwf hout => ?_, fun s a d hl hq => ?_, fun s a d hl hq hport hout => ?_,
    fun b s v hready hwf hcall => ?_⟩
  · have heq : exec (.hostPassWrite a d) s = .next { s with part := stored a.toNat d (granted s.part) } := by
      show onPart (hostAccess (.write (.address a) d)) s = _
      rw [onPart, hostAccess_pass hready rfl (treatmentAt_outside hout),
        writeEffect_outside (p := stored a.toNat d (granted s.part))
          ((windowAt_congr (p := s.part) rfl a.toNat).trans hout)]
    exact ⟨_, heq, readWord_stored hwf rfl, memoryKeptBut_stored rfl, rfl⟩
  · exact congrArg (fun q => Host.Outcome.next { s with part := q }) (hostAccess_waits hq (.inl hl))
  · refine congrArg (fun q => Host.Outcome.next { s with part := q }) (hostAccess_waits hq (.inr ⟨hport, ?_⟩))
    simp only [takeUnported, addressOf, treatmentAt_outside hout]
  · let p := stored (b.mailbox + 6) v (granted s.part)
    have heq : exec (.dialWordWrite v) s = .next { s with part := takeDialWord v.toNat p } := by
      show onPart (hostAccess (.write (.window .mailbox 6) v)) s = _
      rewrite [onPart, hostAccess_mailbox hready (by decide) (by decide) (.inl (by decide))]
      rfl
    rewrite [takeDialWord_talking (p := p) hcall] at heq
    refine ⟨_, heq, ?_⟩
    by_cases hin : v.toNat ≤ 15 ∧ (s.part.lu.settings.map (·.inCall)) = some true
    · rewrite [if_pos (show v.toNat ≤ 15 ∧ (p.lu.settings.map (·.inCall)) = some true from hin), takeInCall_frame]
      refine ⟨readWord_stored hwf rfl, memoryKeptBut_stored rfl, rfl, rfl, ⟨fun hn => ?_, fun ht hp => ?_,
        fun ht hp hq => ?_⟩, rfl, rfl, rfl⟩
      · have hnot : ¬ (p.lu.line = .connected ∧ p.lu.owner = .customer ∧ p.lu.inCall.length < 16
            ∧ (p.lu.copy.map (·.pulse)) = some false) := fun h => hn ⟨hin.1, hin.2, h⟩
        show (takeInCall v.toNat p).lu = p.lu
        rw [takeInCall, if_neg hnot]
      · have hyes : p.lu.line = .connected ∧ p.lu.owner = .customer ∧ p.lu.inCall.length < 16
            ∧ (p.lu.copy.map (·.pulse)) = some false := ht.2.2
        show (takeInCall v.toNat p).lu = _
        rewrite [takeInCall, if_pos hyes]
        dsimp only
        rewrite [if_neg (show p.lu.sender.phase ≠ .idle from hp)]
        rfl
      · have hyes : p.lu.line = .connected ∧ p.lu.owner = .customer ∧ p.lu.inCall.length < 16
            ∧ (p.lu.copy.map (·.pulse)) = some false := ht.2.2
        have hnil : p.lu.inCall = [] := hq
        show (takeInCall v.toNat p).lu = _
        rewrite [takeInCall, if_pos hyes]
        dsimp only
        rewrite [if_pos (show p.lu.sender.phase = .idle from hp), hnil]
        have hkept : ∀ x : Sender, { s.part.lu with sender := x } = { s.part.lu with sender := x, inCall := [] } :=
          fun x => by rw [← hq]
        rewrite [hkept]
        rfl
    · rewrite [if_neg (show ¬ (v.toNat ≤ 15 ∧ (p.lu.settings.map (·.inCall)) = some true) from hin)]
      exact ⟨readWord_stored hwf rfl, memoryKeptBut_stored rfl, rfl, rfl,
        ⟨fun _ => rfl, fun ht => absurd ⟨ht.1, ht.2.1⟩ hin, fun ht => absurd ⟨ht.1, ht.2.1⟩ hin⟩, rfl, rfl, rfl⟩

/-- Settles O4, word by word. -/
theorem argumentWriteCopies : Obligations.ArgumentWriteCopies := by
  unfold Obligations.ArgumentWriteCopies
  intro b s n d hready hwf h1 h4
  have heq : exec (.argumentWrite n d) s =
      .next { s with part := mailboxEffect n d (stored (b.mailbox + n) d (granted s.part)) } := by
    show onPart (hostAccess (.write (.window .mailbox n) d)) s = _
    rw [onPart, hostAccess_mailbox hready (by omega) (by omega) (.inl (by omega))]
  obtain rfl | rfl | rfl | rfl : n = 1 ∨ n = 2 ∨ n = 3 ∨ n = 4 := by omega
  all_goals exact ⟨_, heq, readWord_stored hwf rfl, memoryKeptBut_stored rfl, rfl⟩

/-- Settles O5, from the digits that a dial word leaves in COLLECTING. -/
theorem dialWordCollects : Obligations.DialWordCollects := by
  unfold Obligations.DialWordCollects
  intro b s v hready hwf htalk hdigits hignored
  let p := stored (b.mailbox + 6) v (granted s.part)
  have heq : exec (.dialWordWrite v) s = .next { s with part := takeDialWord v.toNat p } := by
    show onPart (hostAccess (.write (.window .mailbox 6) v)) s = _
    rewrite [onPart, hostAccess_mailbox hready (by decide) (by decide) (.inl (by decide))]
    rfl
  by_cases hcall : s.part.cc.call = .collecting
  · have hcol : takeDialWord v.toNat p = collectDigit v.toNat p := by
      rw [takeDialWord, show p.cc.call = .collecting from hcall]
    rewrite [hcol, collectDigit_eq (p := p) hdigits hignored] at heq
    exact ⟨_, _, heq, readWord_stored hwf rfl, memoryKeptBut_stored rfl, (if_pos hcall).symm, rfl⟩
  · have hrest : takeDialWord v.toNat p = p := by
      have hc : p.cc.call ≠ .collecting := hcall
      have ht : p.cc.call ≠ .talking := htalk
      unfold takeDialWord
      cases h : p.cc.call <;> simp_all
    rewrite [hrest] at heq
    refine ⟨_, _, heq, readWord_stored hwf rfl, memoryKeptBut_stored rfl, (if_neg hcall).symm, ?_⟩
    rewrite [if_pos rfl]
    rfl

/-- Settles O6, from the slots that a written index frees. -/
theorem consumerIndexFrees : Obligations.ConsumerIndexFrees := by
  unfold Obligations.ConsumerIndexFrees
  intro b s v hready hwf hv
  let p := stored (b.mailbox + 7) v (granted s.part)
  have heq : exec (.consumerIndexWrite v) s = .next { s with part := takeConsumerIndex v.toNat p } := by
    show onPart (hostAccess (.write (.window .mailbox 7) v)) s = _
    rewrite [onPart, hostAccess_mailbox hready (by decide) (by decide) (.inl (by decide))]
    rfl
  have hmod : v.toNat % 64 = v.toNat := Nat.mod_eq_of_lt hv
  have hfreed : freedBy (v.toNat % 64) p.cc.consumer p.cc.heldCount
      = freed v.toNat s.part.cc.consumer s.part.cc.heldCount := by rewrite [hmod]; rfl
  unfold takeConsumerIndex at heq
  dsimp only at heq
  rewrite [hfreed, hmod] at heq
  dsimp only
  by_cases hf : 1 ≤ freed v.toNat s.part.cc.consumer s.part.cc.heldCount
      ∧ freed v.toNat s.part.cc.consumer s.part.cc.heldCount ≤ s.part.cc.heldCount
  · rewrite [if_pos (show _ ∧ _ ≤ p.cc.heldCount from hf)] at heq
    refine ⟨_, heq, readWord_stored hwf rfl, memoryKeptBut_stored rfl, ?_⟩
    rewrite [if_pos hf]
    rfl
  · rewrite [if_neg (show ¬ (_ ∧ _ ≤ p.cc.heldCount) from hf)] at heq
    refine ⟨_, heq, readWord_stored hwf rfl, memoryKeptBut_stored rfl, ?_⟩
    rewrite [if_neg hf]
    rfl

/-- Settles O7: the change word is interpreted on its arrival, with the port busy or free. -/
theorem changeWordClears : Obligations.ChangeWordClears := by
  unfold Obligations.ChangeWordClears
  intro b s v hw hb hl hq
  have heq : exec (.changeWordWrite v) s = .next { s with part := clearCauses v s.part } := by
    show onPart (hostAccess (.write (.window .status 0) v)) s = _
    rw [onPart, hostAccess_interpret hq hl (addressOf_window hw .status 0)
      (treatmentAt_installed hw hb (k := .status) (by decide))]
  refine ⟨_, heq, fun i hi => ?_, lineFor_eq_decide _ _, rfl⟩
  show (s.part.bpu.causes &&& ~~~(v.setWidth 9)).getLsbD i = _
  simp [hi]

/-- Settles O8: each of these words is suppressed on its arrival, and so is every command while one is in flight. -/
theorem suppressedWritesCaptured : Obligations.SuppressedWritesCaptured := by
  unfold Obligations.SuppressedWritesCaptured
  have hcommand : ∀ {b : Bases} {p : Part} (code : Word), p.bpu.windows = some b → wellPlaced b = true →
      p.bpu.load ≠ some .start → p.bpu.hostQueue = [] → p.bpu.inFlight.isSome = true →
      commandWrite code p = suppressed (BitVec.ofNat 18 b.mailbox) code .mailbox p :=
    fun code hw hb hl hq hi =>
      (commandWrite_suppressed hw hb hq hl hi).trans (suppressWrite_eq (by decide) code 0 _)
  refine ⟨fun s a d k o hl hq hwin hk => ?_, fun b s c code hw hb hl hq hi hc => ?_,
    fun b s shown hw hb hl hq hi => ?_⟩
  · have hk' : k ≠ .account := by
      rintro rfl
      simp at hk
    have ht : treatmentAt a.toNat s.part = .suppress k o := by
      rewrite [treatmentAt, hwin]
      obtain ⟨rfl, ho⟩ | ⟨rfl, ho⟩ | rfl | rfl | rfl := hk
      · exact if_pos ho
      · exact if_neg ho
      all_goals rfl
    show onPart (hostAccess (.write (.address a) d)) s = _
    rw [onPart, hostAccess_suppress hq hl rfl ht, suppressWrite_eq hk', BitVec.ofNat_toNat, BitVec.setWidth_eq]
  · have hexec : exec c s = onPart (commandWrite code) s := by
      rcases hc with hc | rfl
      · simp only [List.mem_cons, Prod.mk.injEq, List.not_mem_nil, or_false] at hc
        rcases hc with ⟨rfl, rfl⟩ | ⟨rfl, rfl⟩ | ⟨rfl, rfl⟩ | ⟨rfl, rfl⟩ | ⟨rfl, rfl⟩ | ⟨rfl, rfl⟩ | ⟨rfl, rfl⟩ | ⟨rfl, rfl⟩
          | ⟨rfl, rfl⟩
        all_goals rfl
      · rfl
    rw [hexec, onPart, hcommand code hw hb hl hq hi]
  · show onPart (fun p => commandWrite 7 (senseChutes shown p)) s = _
    rw [onPart, hcommand (p := senseChutes shown s.part) 7 hw hb hl hq hi]

/-- Settles O9, from the raise of ACCOUNT_TAMPER behind the capture. -/
theorem accountWriteTampers : Obligations.AccountWriteTampers := by
  unfold Obligations.AccountWriteTampers
  intro b s o d hw hb hl hq hlen ho
  let p := suppressed (BitVec.ofNat 18 (b.account + o)) d .account s.part
  have heq : exec (.accountWrite o d) s = .next { s with part := raise .accountTamper o p } := by
    show onPart (hostAccess (.write (.window .account o) d)) s = _
    rewrite [onPart, hostAccess_suppress hq hl (addressOf_window hw .account o)
      (treatmentAt_installed hw hb (k := .account) ho), suppressWrite_account]
    rfl
  obtain ⟨hframe, hrefused, -⟩ := suppressed_frame (BitVec.ofNat 18 (b.account + o)) d .account s.part
  have hp : p = { s.part with bpu := p.bpu } := hframe
  have hcru : p.cru = s.part.cru := by rw [hp]
  have hcap := outer_capture (raise_outer .accountTamper o p)
  have hrow : ∀ k, rowOf k p = rowOf k s.part := fun k => by rw [rowOf, rowOf, hcru]
  refine ⟨_, heq, ?_, fun k hk => ?_, hcap.1.trans hrefused, hcap.2, ?_, ?_, ?_, ?_, ?_, ?_, ?_, ?_, rfl⟩
  · show rowOf .accountTamper (raise .accountTamper o p) = _
    rewrite [rowOf_raise_same (by rewrite [hcru]; exact hlen), hrow]
    rw [hp]
  · exact (rowOf_of_rows_set_ne hk (raise_rows _ o p)).trans (hrow k)
  · exact (raise_mem _ o p).trans (by rw [hp])
  · exact (raise_cau _ o p).trans (by rw [hp])
  · exact (raise_rlu _ o p).trans (by rw [hp])
  · exact (inner_cu (raise_inner _ o p)).trans (by rw [hp])
  · exact (raise_rtu _ o p).trans (by rw [hp])
  · exact (raise_cc _ o p).trans (by rw [hp])
  · exact (raise_tick _ o p).trans (by rw [hp])
  · exact (outer_pins (raise_outer _ o p)).trans (by rw [hp])

/-- Settles O10, from the notice that each flash window's write gives and what the scan engine makes of it. -/
theorem flashWindowWritesPass : Obligations.FlashWindowWritesPass := by
  unfold Obligations.FlashWindowWritesPass
  refine ⟨fun b s o d hready hwf ho => ?_, fun b s o d hready hwf ho hidle => ?_,
    fun b s o d number n hready ho hengine hn => ?_, fun b s o d number hready ho hengine hdue hflight hresult hcall => ?_,
    fun b s o d hready ho hengine hdue => ?_⟩
  · have hw : windowAt (0x20000 + o) (stored (0x20000 + o) d (granted s.part)) = some (.profile, o) :=
      windowAt_installed (k := .profile) hready.1 hready.2.1 ho
    let p := stored (0x20000 + o) d (granted s.part)
    have heq : exec (.profileWrite o d) s =
        .next { s with part := markS 0 { p with bpu.profileChanged := true } } := by
      show onPart (hostAccess (.write (.window .profile o) d)) s = _
      rw [onPart, hostAccess_window hready (treatmentAt_installed hready.1 hready.2.1 ho),
        show baseOfBases b .profile = 0x20000 from rfl, writeEffect, hw]
    exact ⟨_, heq, readWord_stored hwf rfl, memoryKeptBut_stored rfl, rfl⟩
  all_goals have heq := exec_tariffWrite hready ho d
  · rewrite [tariffNotice_idle (p := stored _ _ (granted s.part)) hidle] at heq
    exact ⟨_, heq, readWord_stored hwf rfl, memoryKeptBut_stored rfl, invalidateCache_length _,
      fun i e h => invalidateCache_getElem h, rfl⟩
  · rewrite [tariffNotice_restart (p := stored _ _ (granted s.part)) hengine hn] at heq
    refine ⟨_, heq, ?_⟩
    simp only [beginScan, requestRead, stopScan, withdrawReads, tariffTouched, stored, granted, Scan.fresh, newTimer, and_self]
  · rewrite [tariffNotice_fourth (p := stored _ _ (granted s.part)) hengine hdue hflight hresult hcall] at heq
    refine ⟨_, heq, ?_⟩
    simp [complete, setCause, markS, stopScan, withdrawReads, tariffTouched, stored, granted, newTimer]
  · rewrite [tariffNotice_verify (p := stored _ _ (granted s.part)) hengine hdue] at heq
    exact ⟨_, heq, rfl, rfl, rfl, rfl, invalidateCache_length _, rfl, rfl, rfl, rfl⟩

/-- Settles O11: word 51 of STATUS is the last of S5. -/
theorem captureUnlocks : Obligations.CaptureUnlocks := by
  unfold Obligations.CaptureUnlocks
  intro b s a hready ha
  have hw : windowAt a.toNat (granted s.part) = some (.status, 51) := by
    rewrite [ha]
    exact windowAt_installed (k := .status) hready.1 hready.2.1 (by decide)
  obtain ⟨-, -, -, hq, hport, hs⟩ := hready
  show onPart (hostAccess (.read (.address a))) s = _
  rewrite [onPart, hostAccess_read hq hport hs rfl, readEffect, hw]
  simp only [if_true, unlockCapture]
  by_cases hl : s.part.bpu.capture.locked = true
  · rewrite [if_pos hl, if_pos (show (granted s.part).bpu.capture.locked = true from hl)]
    rfl
  · rewrite [if_neg hl, if_neg (show ¬ (granted s.part).bpu.capture.locked = true from hl)]
    rfl

end Sys2Proof.Machine
end

section
/-!
PROOFS. The machine's steps and starts (O1, O2, O12, O13), and the mailbox commands that are judged in one stage (O33,
O38).
-/

namespace Sys2Proof.Machine

/-! ## Steps -/

/-- Settles O1: a step is that by definition. -/
theorem stepTakesFront : Obligations.StepTakesFront := by
  unfold Obligations.StepTakesFront
  intro c rest s
  rfl

set_option Elab.async false in
/-- The order that free values choose leaves no command out and adds none. -/
theorem arrange_perm (n k : Nat) (due : List Instr) : (arrange n k due).Perm due := by
  induction n generalizing k due with
  | zero => rfl
  | succ n ih =>
    match due with
    | [] => rfl
    | [c] => rfl
    | c :: d :: rest =>
      have hlt : Config.tieOrder k % (rest.length + 2) < (c :: d :: rest).length := Nat.mod_lt _ (by simp)
      have hfront : (c :: d :: rest).getD (Config.tieOrder k % (rest.length + 2)) c
          = (c :: d :: rest)[Config.tieOrder k % (rest.length + 2)] := List.getD_eq_getElem _ _ hlt
      rewrite [arrange, hfront]
      exact ((ih _ _).cons _).trans (List.getElem_cons_eraseIdx_perm hlt)

/-- Settles O2, from the order of the commands that fall due. -/
theorem idleStepPasses : Obligations.IdleStepPasses := by
  unfold Obligations.IdleStepPasses
  intro s hempty
  refine ⟨idleTick s, by rw [step, hempty], rfl, rfl, rfl, ?_⟩
  have hqueue : (idleTick s).pending
      = arrange (dueNow s.part (tickPasses s.part)).length s.part.free (dueNow s.part (tickPasses s.part)) := by
    rewrite [idleTick, hempty]
    rfl
  rewrite [hqueue]
  exact arrange_perm _ _ _

/-! ## Starts -/

/-- A write that is cut leaves its first words, and every other word as it was (R66). -/
theorem cutWrite_startMemory {p q : Part} (hwf : Memory.wf p.mem = true) (hq : q.mem = cutWrite p) :
    startMemory p q := by
  unfold startMemory
  unfold cutWrite at hq
  cases hport : p.bpu.port with
  | none => rewrite [hport] at hq; exact fun a => by rw [hq]
  | some run =>
    rewrite [hport] at hq
    cases run with
    | read r d => exact fun a => by rw [hq]
    | write group record address words =>
      dsimp only at hq ⊢
      have hlt := Nat.mod_lt (Config.cutWords p.free) (Nat.succ_pos words.length)
      generalize Config.cutWords p.free % (words.length + 1) = n at hq hlt
      have hlen : (words.take n).length = n := by simp; omega
      refine ⟨n, by omega, fun i hi => ?_, fun a ha => ?_⟩
      · rewrite [hq, readWord_writeWords_at hwf (by omega)]
        simp [wordAt, List.getD, List.getElem_take, show i < words.length by omega]
      · rw [hq, readWord_writeWords_other (by omega)]

/-- With no host access waiting, nothing is presented at a line start. -/
theorem lineStarted_serve {p : Part} (h : p.bpu.hostQueue = []) : serve (lineStarted p) = lineStarted p :=
  serveRounds_idle (by simp [lineStarted, h]) _

/-- Settles O12, from the words that a cut write leaves and the empty host queue. -/
theorem startsReset : Obligations.StartsReset := by
  unfold Obligations.StartsReset
  refine ⟨fun s hwf => ⟨_, rfl, cutWrite_startMemory hwf rfl, rfl, rfl⟩, fun s hqueue => ?_⟩
  refine ⟨{ s with part := serve (lineStarted s.part) }, _, rfl, rfl, ?_⟩
  rewrite [lineStarted_serve hqueue]
  cases hc : s.part.rtu.clock <;> simp [lineStarted, powerStarted, rtuAfterLine, Part.reset, hqueue, hc, Bpu.fresh,
    Rtu.fresh, Lu.fresh]

/-- Settles O13, field by field. -/
theorem resetHolds : Obligations.ResetHolds := by
  unfold Obligations.ResetHolds
  refine ⟨rfl, rfl, rfl, rfl, rfl, rfl, rfl, rfl, rfl, rfl, rfl, rfl, rfl, rfl, rfl, rfl, fun k => ?_, rfl, rfl, ?_⟩
  · cases k <;> rfl
  · unfold attentionFollows restrictionHolds bandHolds memoryCanonical creditWithin callRingWhole reportQueueSound
      startOrder agesDense
    decide

/-! ## The mailbox commands of one stage -/

theorem mapDumpCommand_refused {p : Part} (h : 1 < p.bpu.arg1.toNat) : mapDumpCommand p = resulted .range p := if_pos h

theorem mapDumpCommand_taken {p : Part} (h : p.bpu.arg1.toNat ≤ 1) :
    mapDumpCommand p = markCells { p with cu.dump := some { clear := p.bpu.arg1.toNat == 1, held := 0 } } := by
  have heq : (p.bpu.arg1 == 1) = (p.bpu.arg1.toNat == 1) := by
    rewrite [Bool.eq_iff_iff, beq_iff_eq, beq_iff_eq, ← BitVec.toNat_inj]
    rfl
  rw [mapDumpCommand, if_neg (by omega), heq]

theorem reloadCommand_noService {p : Part} (h : p.cru.key ≠ some true) : reloadCommand p = resulted .notService p := by
  have hs : serviceMode p = false := by simpa [serviceMode] using h
  rewrite [reloadCommand, hs]
  rfl

theorem reloadCommand_notAllowed {p : Part} (hkey : p.cru.key = some true)
    (h : (p.cc.call ≠ .idle ∧ p.cc.call ≠ .collecting) ∨ p.rlu.rail ≠ [] ∨ p.rlu.dump ≠ .ended) :
    reloadCommand p = resulted .notAllowed p := by
  have hs : serviceMode p = true := by simp [serviceMode, hkey]
  unfold reloadCommand
  rewrite [if_neg (by simp [hs])]
  obtain ⟨hi, hc⟩ | h := h
  · rewrite [if_pos (by simp [callExists, hi, hc])]
    rfl
  · rewrite [if_pos (c := 0 < p.rlu.rail.length ∨ p.rlu.dump ≠ .ended) (by simpa [List.length_pos_iff] using h), ite_self]
    rfl

theorem reloadCommand_taken {p : Part} (hkey : p.cru.key = some true)
    (hcall : p.cc.call = .idle ∨ p.cc.call = .collecting) (hrail : p.rlu.rail = []) (hdump : p.rlu.dump = .ended) :
    reloadCommand p = requestRead (.profile 0) (markS 0 { p with
      bpu.profileChanged := false, bpu.load := some .reload, bpu.profileWords := [] }) := by
  have hs : serviceMode p = true := by simp [serviceMode, hkey]
  have hx : callExists p = false := by rcases hcall with h | h <;> simp [callExists, h]
  simp [reloadCommand, hs, hx, hrail, hdump]

/-- A line in use grants no report call (R167). -/
theorem reportAsk_refused {p : Part} (h : p.lu.line ≠ .idle) : reportAsk p = p := by
  have hr : reportReady p = false := by simp [reportReady, lineFree, h]
  unfold reportAsk
  split <;> simp [hr]

theorem judgeCommand_unknown {code : Nat} (h : code = 0 ∨ 10 < code) (p : Part) :
    judgeCommand code p = complete .unknown p := by
  match code, h with
  | 0, _ => rfl
  | n + 11, _ => rfl

/-- Settles O33, from the judgement of each of the four commands. -/
theorem commandsTaken : Obligations.CommandsTaken := by
  unfold Obligations.CommandsTaken
  refine ⟨fun b s code hready hfree hcode => ?_, fun b s hready hfree => ?_, fun b s hready hfree => ?_,
    fun b s hready hfree => ?_⟩
  · exact (onPart_commandWrite hready hfree code).trans (by rewrite [judgeCommand_unknown hcode]; rfl)
  · intro p
    have htaken : exec .mapDump s = .next { s with part := mapDumpCommand p } := onPart_commandWrite hready hfree 5
    refine ⟨fun h => ?_, fun h => ?_⟩
    · rw [htaken, mapDumpCommand_refused (p := p) h]
    · rewrite [htaken, mapDumpCommand_taken (p := p) h]
      rfl
  · intro p
    have htaken : exec .reloadProfile s = .next { s with part := reloadCommand p } :=
      onPart_commandWrite hready hfree 8
    refine ⟨fun h => ?_, fun hkey h => ?_, fun hkey hcall hrail hdump => ?_⟩
    · rw [htaken, reloadCommand_noService (p := p) h]
    · rw [htaken, reloadCommand_notAllowed (p := p) hkey h]
    · rewrite [htaken, reloadCommand_taken (p := p) hkey hcall hrail hdump]
      rfl
  · intro p q
    have htaken : exec .reportNow s = .next { s with part := reportNowCommand p } :=
      onPart_commandWrite hready hfree 9
    have hq : reportNowCommand p = reportAsk q := by
      have hbackoff : p.cru.backoff = s.part.cru.backoff := rfl
      unfold reportNowCommand cancelBackoff
      rewrite [hbackoff]
      rfl
    have hline : q.lu = s.part.lu := by dsimp only [q, resulted]; split <;> rfl
    refine ⟨by rw [htaken, hq], fun h => ?_⟩
    rw [htaken, hq, reportAsk_refused (by rewrite [hline]; exact h)]

/-! ## TEST_REPORT -/

/-- Asking for a report call touches the line, the report call and the marks alone. -/
theorem reportAsk_frame (p : Part) : reportAsk p = { p with
    lu := (reportAsk p).lu
    cru.report := (reportAsk p).cru.report
    bpu.dirty := (reportAsk p).bpu.dirty } := by
  unfold reportAsk
  split
  · split
    · unfold grantSeize
      dsimp only
      split <;> rfl
    · rfl
  · rfl

/-- Asking for a report call takes no mark away. -/
theorem mem_reportAsk_dirty {g : Group} {p : Part} (h : g ∈ p.bpu.dirty) : g ∈ (reportAsk p).bpu.dirty := by
  unfold reportAsk
  split
  · split
    · unfold grantSeize
      dsimp only
      split
      · exact mem_insertGroup_of_mem h
      · exact mem_insertGroup_of_mem (mem_insertGroup_of_mem h)
    · exact h
  · exact h

/-- A record that a report of no URGENT kind makes (R162, R166). -/
theorem joinRecord_routine {kind : ReportKind} (hk : kind.urgent = false) (detail slot : Nat) (p : Part) :
    joinRecord kind detail slot p = reportAsk (mark (.report slot)
      { p with
        cru.sequence := p.cru.sequence + 1
        cru.queue := p.cru.queue ++
          [{ kind, sending := false, sequence := p.cru.sequence + 1, count := 1, first := p.rtu.clock,
             last := p.rtu.clock, detail, attempts := 0, sent := none, updated := false, firstMerge := none,
             slot }] }) := by
  simp [joinRecord, hk]

theorem testReportCommand_queued {p : Part} (h : ∃ r ∈ p.cru.queue, r.kind = .test) :
    testReportCommand p = resulted .kindQueued p := by
  obtain ⟨r, hr, hk⟩ := h
  exact if_pos (List.any_eq_true.2 ⟨r, hr, by simp [hk]⟩)

theorem testReportCommand_unqueued {p : Part} (h : ∀ r ∈ p.cru.queue, r.kind ≠ .test) :
    testReportCommand p =
      if 8 ≤ p.cru.queue.length then complete .notAllowed p else complete .done (newRecord .test 0 p) := by
  have hany : (p.cru.queue.any fun r => r.kind == .test) = false :=
    List.any_eq_false.2 fun r hr => by simpa using h r hr
  rewrite [testReportCommand, hany]
  rfl

theorem newRecord_room {kind : ReportKind} {detail : Nat} {p : Part} (h : p.cru.queue.length < 8) :
    newRecord kind detail p = joinRecord kind detail (emptySlot p.cru.queue) p := if_pos h

/-- Settles O38, from the queue's room and the frame of asking for a report call. -/
theorem testReportJoins : Obligations.TestReportJoins := by
  unfold Obligations.TestReportJoins
  intro b s hready hfree p
  have htaken : exec .testReport s = .next { s with part := testReportCommand p } := onPart_commandWrite hready hfree 10
  refine ⟨fun h => ?_, fun hnone hfull => ?_, fun hnone hroom => ?_⟩
  · rw [htaken, testReportCommand_queued (p := p) h]
  · rewrite [htaken, testReportCommand_unqueued (p := p) hnone, if_pos (c := 8 ≤ p.cru.queue.length) hfull]
    rfl
  · obtain ⟨hslot, hfresh⟩ := emptySlot_spec hroom
    rewrite [htaken, testReportCommand_unqueued (p := p) hnone,
      if_neg (c := 8 ≤ p.cru.queue.length) (Nat.not_le.2 hroom), newRecord_room (p := p) hroom,
      joinRecord_routine rfl, reportAsk_frame]
    refine ⟨_, _, rfl, hslot, fun r hr h => hfresh (List.mem_map.2 ⟨r, hr, h⟩), rfl, rfl, rfl, rfl, rfl, rfl, ?_, rfl,
      mem_insertGroup_self _ _, rfl, rfl, rfl, rfl, rfl, rfl⟩
    exact mem_insertGroup_of_mem (mem_reportAsk_dirty (mem_insertGroup_self _ _))

end Sys2Proof.Machine
end

section
/-!
PROOFS. Classification and the adaptive nominals (O24), and the durations of steps (O25).
-/

namespace Sys2Proof.Machine

/-! ## Classification (R3) -/

set_option Elab.async false in
theorem typeMatches_iff {m : Measurement} {c : CoinSlot} :
    typeMatches m.d.toNat m.a.toNat c = true ↔ withinTolerance m c := by
  simp [typeMatches, withinTolerance]

/-- No type matches, and none wins. -/
theorem winner_none {m : Measurement} {slots : List CoinSlot} (h : ∀ c ∈ slots, ¬ withinTolerance m c) (n : Nat) :
    winner m.d.toNat m.a.toNat n slots = none := by
  induction slots generalizing n with
  | nil => rfl
  | cons s rest ih =>
    have hs : typeMatches m.d.toNat m.a.toNat s = false := by
      rewrite [Bool.eq_false_iff, Ne, typeMatches_iff]
      exact h s List.mem_cons_self
    rewrite [winner, ih (fun c hc => h c (List.mem_cons_of_mem s hc))]
    simp [hs]

/-- A winner is a matching type of the table, with its distance. -/
theorem winner_mem {m : Measurement} {slots : List CoinSlot} {n k x : Nat} {w : CoinSlot}
    (h : winner m.d.toNat m.a.toNat n slots = some (k, w, x)) :
    w ∈ slots ∧ withinTolerance m w ∧ x = nominalDistance m w := by
  induction slots generalizing n with
  | nil => cases h
  | cons s rest ih =>
    have hwhole : ∀ {u : Nat × CoinSlot × Nat}, winner m.d.toNat m.a.toNat (n + 1) rest = some u → u = (k, w, x) →
        w ∈ s :: rest ∧ withinTolerance m w ∧ x = nominalDistance m w := by
      rintro u hu rfl
      obtain ⟨hmem, hrest⟩ := ih hu
      exact ⟨List.mem_cons_of_mem s hmem, hrest⟩
    have hfirst : typeMatches m.d.toNat m.a.toNat s = true →
        (n, s, distance m.d.toNat s.d + distance m.a.toNat s.a) = (k, w, x) →
        w ∈ s :: rest ∧ withinTolerance m w ∧ x = nominalDistance m w := by
      rintro hm heq
      obtain ⟨-, rfl, rfl⟩ := Prod.mk.injEq .. ▸ heq
      exact ⟨List.mem_cons_self, typeMatches_iff.1 hm, rfl⟩
    rewrite [winner] at h
    split at h
    case h_1 =>
      split at h
      · exact hfirst ‹_› (Option.some.inj h)
      · cases h
    case h_2 hrest =>
      split at h
      · rename_i hboth
        exact hfirst (Bool.and_eq_true_iff.1 hboth).1 (Option.some.inj h)
      · exact hwhole hrest (Option.some.inj h)

/-- The matching type at the smallest distance wins, the lowest number of those that share it. -/
theorem winner_eq {m : Measurement} {slots : List CoinSlot} {i : Nat} {c : CoinSlot} (hc : slots[i]? = some c)
    (hm : withinTolerance m c)
    (hbest : ∀ (j : Nat) (x : CoinSlot), slots[j]? = some x → withinTolerance m x →
      nominalDistance m c < nominalDistance m x ∨ (nominalDistance m c = nominalDistance m x ∧ i ≤ j)) (n : Nat) :
    winner m.d.toNat m.a.toNat n slots = some (n + i, c, nominalDistance m c) := by
  induction slots generalizing i n with
  | nil => simp at hc
  | cons s rest ih =>
    rewrite [winner]
    cases i with
    | zero =>
      obtain rfl : s = c := by simpa using hc
      cases hrest : winner m.d.toNat m.a.toNat (n + 1) rest with
      | none => simp [typeMatches_iff.2 hm, nominalDistance]
      | some u =>
        obtain ⟨k, w, x⟩ := u
        obtain ⟨hmem, hw, rfl⟩ := winner_mem hrest
        obtain ⟨j, hj⟩ := List.mem_iff_getElem?.1 hmem
        have hle : distance m.d.toNat s.d + distance m.a.toNat s.a ≤ nominalDistance m w := by
          have := hbest (j + 1) w (by simpa using hj) hw
          unfold nominalDistance at this ⊢
          omega
        simp only [typeMatches_iff.2 hm, hle, decide_true, Bool.and_self, if_true]
        rfl
    | succ i =>
      rewrite [ih (by simpa using hc) fun j x hx hw => by
        have := hbest (j + 1) x (by simpa using hx) hw
        omega]
      have hs : ¬ (typeMatches m.d.toNat m.a.toNat s = true
          ∧ distance m.d.toNat s.d + distance m.a.toNat s.a ≤ nominalDistance m c) := by
        rintro ⟨hs, hle⟩
        have := hbest 0 s rfl (typeMatches_iff.1 hs)
        unfold nominalDistance at this hle
        omega
      simp only [Bool.and_eq_true, decide_eq_true_eq, if_neg hs]
      rw [Nat.add_assoc, Nat.add_comm 1 i]

/-- The clamp around the profile nominal, within 0 to 65,535 (R4). -/
theorem clampNominal {profile : Nat} (hp : profile ≤ 65535) (half moved : Nat) :
    (min (min 65535 ((profile : Int) + half)) (max (max 0 ((profile : Int) - half)) moved)).toNat =
      max (profile - half) (min (min 65535 (profile + half)) moved) := by
  have hlow : max 0 ((profile : Int) - half) = ((profile - half : Nat) : Int) := by omega
  have hhigh : min 65535 ((profile : Int) + half) = ((min 65535 (profile + half) : Nat) : Int) := by omega
  have hle : profile - half ≤ min 65535 (profile + half) := by omega
  rw [hlow, hhigh, ← Nat.cast_max, ← Nat.cast_min, Int.toNat_natCast, max_min_distrib_left, max_eq_right hle]

/-- A nominal moves by a sixteenth of the difference, truncated toward zero (R4). -/
theorem nominal_moved (measured nominal : Nat) : (nominal : Int) + ((measured : Int) - nominal).tdiv 16 =
    ((if nominal ≤ measured then nominal + (measured - nominal) / 16
      else nominal - (nominal - measured) / 16 : Nat) : Int) := by
  split
  case isTrue h =>
    rewrite [← Int.ofNat_sub h]
    rfl
  case isFalse h =>
    have hdiv : (nominal - measured) / 16 ≤ nominal := (Nat.div_le_self _ _).trans (Nat.sub_le _ _)
    rewrite [← Int.neg_sub, ← Int.ofNat_sub (Nat.le_of_not_le h), Int.neg_tdiv, Int.ofNat_sub hdiv]
    rfl

/-- Settles O24, from the winner among the matching types and the clamp of a nominal. -/
theorem coinsClassified : Obligations.CoinsClassified := by
  unfold Obligations.CoinsClassified
  refine ⟨fun table m => ⟨fun h => if_pos h, fun hlow hhigh hnone => ?_, fun i c hlow hhigh hc hm hbest => ?_⟩,
    fun measured nominal profile tolerance hp => ?_⟩
  · rw [classifyCoin, if_neg (by omega), winner_none hnone]
  · rw [classifyCoin, if_neg (by omega), winner_eq hc hm hbest, Nat.add_comm 1 i]
  · rewrite [moveNominal, nominal_moved]
    exact clampNominal hp (tolerance / 2) _

/-! ## Step durations (R96) -/

/-- A step that is not clamped keeps its fraction. -/
theorem stepDuration_whole {s r e : Nat} (hr : 0 < r) (he : e < r) (hlow : 500 * r ≤ 60000 * s)
    (hhigh : 60000 * s + r ≤ 3600000 * r) :
    stepDuration s r e = ((60000 * s + e) / r, (60000 * s + e) % r) := by
  have h500 : ¬ (60000 * s + e) / r < 500 := Nat.not_lt.2 ((Nat.le_div_iff_mul_le hr).2 (by omega))
  have hmax : ¬ 3600000 < (60000 * s + e) / r :=
    Nat.not_lt.2 (Nat.le_of_lt ((Nat.div_lt_iff_lt_mul hr).2 (by omega)))
  simp only [stepDuration, if_neg h500, if_neg hmax]

/-- R96: no fraction of a millisecond is lost over unclamped steps. -/
theorem runSteps_whole {s r : Nat} (hr : 0 < r) (hlow : 500 * r ≤ 60000 * s) (hhigh : 60000 * s + r ≤ 3600000 * r)
    (k : Nat) {e : Nat} (he : e < r) :
    runSteps s r k e = ((60000 * s * k + e) / r, (60000 * s * k + e) % r) := by
  induction k generalizing e with
  | zero => simp [runSteps, Nat.div_eq_of_lt he, Nat.mod_eq_of_lt he]
  | succ k ih =>
    have hsum : 60000 * s * (k + 1) + e
        = 60000 * s * k + (60000 * s + e) % r + r * ((60000 * s + e) / r) := by
      have := Nat.div_add_mod (60000 * s + e) r
      rewrite [Nat.mul_succ]
      omega
    rewrite [runSteps, stepDuration_whole hr he hlow hhigh]
    simp only [ih (Nat.mod_lt _ hr)]
    rw [hsum, Nat.add_mul_div_left _ _ hr, Nat.add_mul_mod_self_left, Nat.add_comm]

/-- Settles O25, from the sum of unclamped steps and the two clamps. -/
theorem stepDurations : Obligations.StepDurations := by
  unfold Obligations.StepDurations
  refine ⟨fun s r k e hr he hlow hhigh => runSteps_whole hr hlow hhigh k he, fun s r e hr he => ⟨fun h => ?_,
    fun h => ?_, ?_⟩⟩
  · simp only [stepDuration, if_pos h]
  · simp only [stepDuration, if_neg (show ¬ (60000 * s + e) / r < 500 by omega), if_pos h]
  · have hmod := Nat.mod_lt (60000 * s + e) hr
    unfold stepDuration
    dsimp only
    split
    · exact ⟨by omega, by omega, hr⟩
    · split
      · exact ⟨by omega, by omega, hr⟩
      · exact ⟨by omega, by omega, hmod⟩

end Sys2Proof.Machine
end

section
/-!
PROOFS. Marks and causes that only grow, what a raise makes of the condition table (O30) and of the report queue (O31).
-/

namespace Sys2Proof.Machine

/-! ## Marks and causes that only grow -/

/-- No mark is taken away, and no cause is cleared. -/
structure Publishes (p q : Part) : Prop where
  dirty : ∀ g ∈ p.bpu.dirty, g ∈ q.bpu.dirty
  causes : ∀ i : Nat, p.bpu.causes.getLsbD i = true → q.bpu.causes.getLsbD i = true

set_option Elab.async false in
theorem Publishes.of_bpu {p q : Part} (h : q.bpu = p.bpu) : Publishes p q :=
  ⟨fun g hg => by rewrite [h]; exact hg, fun i hi => by rewrite [h]; exact hi⟩

theorem Publishes.refl (p : Part) : Publishes p p := .of_bpu rfl

theorem Publishes.trans {p q r : Part} (h : Publishes p q) (k : Publishes q r) : Publishes p r :=
  ⟨fun g hg => k.dirty g (h.dirty g hg), fun i hi => k.causes i (h.causes i hi)⟩

/-- The last operation said first, so that what it is applied to is known. -/
theorem Publishes.ofLast {p q r : Part} (k : Publishes q r) (h : Publishes p q) : Publishes p r := h.trans k

/-- What follows a change outside the registers that publish. -/
theorem Publishes.after {p q r : Part} (k : Publishes q r) (h : q.bpu = p.bpu) : Publishes p r :=
  (Publishes.of_bpu h).trans k

theorem mark_publishes (g : Group) (p : Part) : Publishes p (mark g p) :=
  ⟨fun _ hg => mem_insertGroup_of_mem hg, fun _ hi => hi⟩

theorem markS_publishes (k : Nat) (p : Part) : Publishes p (markS k p) := mark_publishes _ p

theorem setCause_publishes (c : Cause) (p : Part) : Publishes p (setCause c p) :=
  ⟨fun g hg => mem_insertGroup_of_mem hg, fun i hi => by
    rw [setCause_bpu_causes, BitVec.getLsbD_or, hi, Bool.true_or]⟩

/-- A mark set in between stays. -/
theorem Publishes.marked {p q : Part} {g : Group} (h : Publishes (mark g p) q) : g ∈ q.bpu.dirty :=
  h.dirty g (mem_insertGroup_self g _)

/-- A cause set in between stays. -/
theorem Publishes.caused {p q : Part} {c : Cause} (h : Publishes (setCause c p) q) :
    q.bpu.causes.getLsbD (causePosition c) = true := h.causes _ (setCause_getLsbD c p)

theorem currentSeen_publishes (sense : Polarity) (p : Part) : Publishes p (currentSeen sense p) :=
  Publishes.after (markS_publishes 0 _) rfl

theorem grantSeize_publishes (owner : Owner) (number : List Nat) (p : Part) :
    Publishes p (grantSeize owner number p) := by
  unfold grantSeize
  dsimp only
  split
  · exact Publishes.after (markS_publishes 0 _) rfl
  · exact .ofLast (currentSeen_publishes _ _) (.after (markS_publishes 0 _) rfl)

theorem probeAsk_publishes (p : Part) : Publishes p (probeAsk p) := by
  unfold probeAsk
  split
  · exact Publishes.after (grantSeize_publishes .probe [] _) rfl
  · exact .refl p

theorem reportAsk_publishes (p : Part) : Publishes p (reportAsk p) := by
  unfold reportAsk
  split
  · split
    · exact Publishes.after (grantSeize_publishes .report _ _) rfl
    · exact .refl p
  · exact .refl p

theorem cancelBackoff_publishes (p : Part) : Publishes p (cancelBackoff p) := by
  unfold cancelBackoff
  split
  · exact Publishes.after (markS_publishes 4 _) rfl
  · exact .refl p

theorem joinRecord_publishes (kind : ReportKind) (detail slot : Nat) (p : Part) :
    Publishes p (joinRecord kind detail slot p) := by
  unfold joinRecord
  refine Publishes.trans ?_ (reportAsk_publishes _)
  split
  · exact .ofLast (cancelBackoff_publishes _) (.after (mark_publishes _ _) rfl)
  · exact Publishes.after (mark_publishes _ _) rfl

theorem countDropped_publishes (p : Part) : Publishes p (countDropped p) :=
  Publishes.after (markS_publishes 4 _) rfl

theorem newRecord_publishes (kind : ReportKind) (detail : Nat) (p : Part) :
    Publishes p (newRecord kind detail p) := by
  unfold newRecord
  split
  · exact joinRecord_publishes _ _ _ p
  · split
    · split
      · exact .ofLast (joinRecord_publishes _ _ _ _) (.after (countDropped_publishes _) rfl)
      · exact countDropped_publishes p
    · exact countDropped_publishes p

theorem changeRecord_publishes (slot : Nat) (f : ReportRecord → ReportRecord) (p : Part) :
    Publishes p (changeRecord slot f p) := Publishes.after (mark_publishes _ _) rfl

theorem enqueueRaise_publishes (k : Condition) (detail : Nat) (first : Bool) (p : Part) :
    Publishes p (enqueueRaise k detail first p) := by
  unfold enqueueRaise
  split
  · exact changeRecord_publishes _ _ p
  · split
    · exact newRecord_publishes _ _ p
    · exact .refl p

theorem deriveRestriction_publishes (p : Part) : Publishes p (deriveRestriction p) := by
  unfold deriveRestriction
  split
  · exact .refl p
  · exact .ofLast (setCause_publishes .service _) (.after (markS_publishes 0 _) rfl)

/-! ## A raise, as far as the condition table (R149) -/

/-- The part with a raise put into the condition table, before the report queue has it. -/
def raisedTable (k : Condition) (detail : Nat) (p : Part) : Part :=
  setCause .condition (markS 7 (deriveRestriction (setRow k (raisedRow p.rtu.clock detail (rowOf k p)) p)))

theorem raise_eq (k : Condition) (detail : Nat) (p : Part) : raise k detail p =
    if k = .profileBad then raisedTable k detail p
    else enqueueRaise k detail (!isActive k p) (raisedTable k detail p) := rfl

/-- The condition table's part of a raise reaches the rows, the restriction, the marks, the causes and the line. -/
theorem raisedTable_frame (k : Condition) (detail : Nat) (p : Part) : raisedTable k detail p = { p with
    bpu.dirty := (raisedTable k detail p).bpu.dirty
    bpu.causes := (raisedTable k detail p).bpu.causes
    bpu.attention := (raisedTable k detail p).bpu.attention
    cru.rows := (raisedTable k detail p).cru.rows
    cru.restriction := (raisedTable k detail p).cru.restriction } := by
  obtain ⟨dirty, causes, attention, restriction, hframe⟩ :=
    deriveRestriction_frame (setRow k (raisedRow p.rtu.clock detail (rowOf k p)) p)
  rewrite [raisedTable, hframe]
  rfl

theorem raisedTable_restrictionHolds (k : Condition) (detail : Nat) (p : Part) :
    restrictionHolds (raisedTable k detail p) :=
  restrictionHolds_congr ((setCause_cru _ _).trans (markS_cru _ _)) (deriveRestriction_holds _)

theorem raisedTable_publishes (k : Condition) (detail : Nat) (p : Part) : Publishes p (raisedTable k detail p) :=
  .ofLast (setCause_publishes .condition _)
    (.ofLast (markS_publishes 7 _) (.after (deriveRestriction_publishes _) rfl))

/-- What the report queue makes of a raise leaves the condition table as it is. -/
theorem raise_after_table (k : Condition) (detail : Nat) (p : Part) :
    sensors (raise k detail p) = sensors (raisedTable k detail p) ∧ Publishes (raisedTable k detail p) (raise k detail p) := by
  rewrite [raise_eq]
  split
  · exact ⟨rfl, .refl _⟩
  · exact ⟨enqueueRaise_sensors _ _ _ _, enqueueRaise_publishes _ _ _ _⟩

theorem raise_publishes (k : Condition) (detail : Nat) (p : Part) : Publishes p (raise k detail p) :=
  (raisedTable_publishes k detail p).trans (raise_after_table k detail p).2

theorem raise_restrictionHolds (k : Condition) (detail : Nat) (p : Part) : restrictionHolds (raise k detail p) := by
  have h := (raise_after_table k detail p).1
  exact restrictionHolds_of_view
    (by simp only [restrictionView, sensors_rows h, sensors_key h, sensors_restriction h])
    (raisedTable_restrictionHolds k detail p)

theorem raise_marks_S7 (k : Condition) (detail : Nat) (p : Part) : Group.status 7 ∈ (raise k detail p).bpu.dirty :=
  ((setCause_publishes .condition _).trans (raise_after_table k detail p).2).dirty _ (mem_insertGroup_self _ _)

theorem raise_sets_condition (k : Condition) (detail : Nat) (p : Part) :
    (raise k detail p).bpu.causes.getLsbD (causePosition .condition) = true :=
  (raise_after_table k detail p).2.caused

theorem rowOf_raise_ne {j k : Condition} (hjk : j ≠ k) (detail : Nat) (p : Part) :
    rowOf j (raise k detail p) = rowOf j p := rowOf_of_rows_set_ne hjk (raise_rows k detail p)

theorem raise_pins (k : Condition) (detail : Nat) (p : Part) : (raise k detail p).pins = p.pins :=
  outer_pins (raise_outer k detail p)

theorem raise_cu (k : Condition) (detail : Nat) (p : Part) : (raise k detail p).cu = p.cu :=
  inner_cu (raise_inner k detail p)

/-- Settles O30, from the row that a raise writes and what the report queue leaves alone. -/
theorem raiseApplies : Obligations.RaiseApplies := by
  unfold Obligations.RaiseApplies
  exact fun k detail p hlen => ⟨rowOf_raise_same hlen k detail, fun j hjk => rowOf_raise_ne hjk detail p,
    raise_restrictionHolds k detail p, raise_marks_S7 k detail p, raise_sets_condition k detail p,
    raise_mem k detail p, raise_tick k detail p, raise_pins k detail p, raise_cu k detail p, raise_rlu k detail p,
    raise_cau k detail p, raise_rtu k detail p, raise_cc k detail p⟩

/-! ## The report queue (R163) -/

theorem reportAsk_queue (p : Part) : (reportAsk p).cru.queue = p.cru.queue := by rw [reportAsk_frame]

theorem cancelBackoff_frame (p : Part) : cancelBackoff p = { p with
    cru.backoff := none
    bpu.dirty := (cancelBackoff p).bpu.dirty } := by
  unfold cancelBackoff
  split
  · rfl
  · next h =>
    have hnone : p.cru.backoff = none := by simpa using h
    rw [← hnone]

/-- A record joins at the newest end of the queue. -/
theorem joinRecord_queue (kind : ReportKind) (detail slot : Nat) (p : Part) :
    (joinRecord kind detail slot p).cru.queue = p.cru.queue ++
      [{ kind, sending := false, sequence := p.cru.sequence + 1, count := 1, first := p.rtu.clock, last := p.rtu.clock,
         detail, attempts := 0, sent := none, updated := false, firstMerge := none, slot }] := by
  rewrite [joinRecord, reportAsk_queue]
  split
  · rewrite [cancelBackoff_frame]
    rfl
  · rfl

theorem find?_kind_none {k : Condition} {queue : List ReportRecord} (h : ∀ r ∈ queue, r.kind ≠ .condition k) :
    (queue.find? fun r => r.kind == .condition k) = none :=
  List.find?_eq_none.2 fun r hr => by simpa using h r hr

/-- With one record of a kind at most, the one found is the one that is there. -/
theorem find?_kind_some {k : Condition} {queue : List ReportRecord} (hkinds : (queue.map (·.kind)).Nodup)
    {r : ReportRecord} (hr : r ∈ queue) (hk : r.kind = .condition k) :
    (queue.find? fun r => r.kind == .condition k) = some r := by
  cases hf : queue.find? fun r => r.kind == .condition k with
  | none => exact absurd (by simp [hk]) (List.find?_eq_none.1 hf r hr)
  | some x =>
    have hx : x.kind = .condition k := by simpa using List.find?_some hf
    exact congrArg some (List.inj_on_of_nodup_map hkinds (List.mem_of_find?_eq_some hf) hr (hx.trans hk.symm))

theorem enqueueRaise_unqueued {k : Condition} {p : Part} (h : ∀ r ∈ p.cru.queue, r.kind ≠ .condition k) (detail : Nat)
    (first : Bool) : enqueueRaise k detail first p = if first then newRecord (.condition k) detail p else p := by
  rw [enqueueRaise, find?_kind_none h]

set_option Elab.async false in
theorem enqueueRaise_queued {k : Condition} {p : Part} (hkinds : (p.cru.queue.map (·.kind)).Nodup) {r : ReportRecord}
    (hr : r ∈ p.cru.queue) (hk : r.kind = .condition k) (detail : Nat) (first : Bool) :
    enqueueRaise k detail first p = changeRecord r.slot (mergeRecord p.rtu.clock detail) p := by
  rw [enqueueRaise, find?_kind_some hkinds hr hk]

/-- Settles O31, from what the report queue finds of the kind. -/
theorem raiseReports : Obligations.RaiseReports := by
  unfold Obligations.RaiseReports
  intro k detail p
  have htable := raisedTable_frame k detail p
  have hqueue : (raisedTable k detail p).cru.queue = p.cru.queue := by rw [htable]
  have hseq : (raisedTable k detail p).cru.sequence = p.cru.sequence := by rw [htable]
  have hclock : (raisedTable k detail p).rtu = p.rtu := by rw [htable]
  refine ⟨fun h => by rw [raise_eq, if_pos h, hqueue], fun r hk hsound hr hkind => ?_, fun hk hclear hnone hroom => ?_,
    fun hactive hnone => ?_⟩
  · obtain ⟨-, -, -, hkinds⟩ := hsound
    rewrite [raise_eq, if_neg hk, enqueueRaise_queued (by rewrite [hqueue]; exact hkinds) (by rewrite [hqueue]; exact hr) hkind]
    simp [changeRecord, mergeRecord, satAdd, hqueue, hclock]
  · obtain ⟨hslot, hfresh⟩ := emptySlot_spec hroom
    refine ⟨emptySlot p.cru.queue, ?_, hslot, fun r hr h => hfresh (List.mem_map.2 ⟨r, hr, h⟩)⟩
    rw [raise_eq, if_neg hk, enqueueRaise_unqueued (by rewrite [hqueue]; exact hnone), hclear, Bool.not_false, if_pos rfl,
      newRecord_room (by rewrite [hqueue]; exact hroom), joinRecord_queue, hqueue, hseq, hclock]
  · rw [raise_eq, enqueueRaise_unqueued (by rewrite [hqueue]; exact hnone), hactive, Bool.not_true,
      if_neg Bool.false_ne_true, ite_self, hqueue]

end Sys2Proof.Machine
end

section
/-!
PROOFS. DIAL (O39): its refusals in order, a free number placed at once, and a miss that waits for a scan.
-/

namespace Sys2Proof.Machine

/-- The line setting asks for pulse dialling. -/
def pulseSet (p : Part) : Bool := match p.lu.settings with
  | some l => l.pulse
  | none => false

/-! ## The refusals of DIAL, in order (R137) -/

set_option Elab.async false in
theorem dialCall_notAllowed {p : Part} (h : p.cc.call ≠ .collecting) : dialCall p = resulted .notAllowed p := if_pos h

theorem dialCall_notOffhook {p : Part} (hcall : p.cc.call = .collecting) (h : p.cc.off = false) :
    dialCall p = resulted .notOffhook p := by
  unfold dialCall
  rewrite [if_neg (not_not.2 hcall), h]
  rfl

theorem dialCall_noDigits {p : Part} (hcall : p.cc.call = .collecting) (hoff : p.cc.off = true)
    (h : p.cc.digits = []) : dialCall p = resulted .noDigits p := by
  unfold dialCall
  rewrite [if_neg (not_not.2 hcall), hoff, if_neg (by decide), if_pos h]
  rfl

theorem dialCall_restricted {p : Part} (hcall : p.cc.call = .collecting) (hoff : p.cc.off = true)
    (hdigits : p.cc.digits ≠ []) (h : p.cru.restriction = .noCalls) : dialCall p = resulted .restricted p := by
  unfold dialCall
  rewrite [if_neg (not_not.2 hcall), hoff, if_neg (by decide), if_neg hdigits, if_pos h]
  rfl

/-- Past the first four refusals DIAL is judged by the digits alone. -/
theorem dialCall_open {p : Part} (hcall : p.cc.call = .collecting) (hoff : p.cc.off = true)
    (hdigits : p.cc.digits ≠ []) (h : p.cru.restriction ≠ .noCalls) :
    dialCall p = if pulseSet p && !decimal p.cc.digits then complete .invalidNumber p else lookup p.cc.digits p := by
  unfold dialCall
  rewrite [if_neg (not_not.2 hcall), hoff, if_neg (by decide), if_neg hdigits, if_neg h]
  unfold pulseSet
  cases p.lu.settings <;> rfl

/-! ## A free number is placed at once (R138) -/

theorem answerAtTaking_free {number : List Nat} {p : Part} {i : Nat} (h : freeIndex number p.rtu.freeList = some i) :
    answerAtTaking number p = some (.free i, p) := by
  rw [answerAtTaking, h]

theorem answerAtTaking_missed {number : List Nat} {p : Part} (hfree : freeIndex number p.rtu.freeList = none)
    (hprobe : probe (ratingKey number) p.rtu.cache = none) : answerAtTaking number p = none := by
  rw [answerAtTaking, hfree, hprobe]

/-- The seize of an open line that shows no current (R112). -/
theorem grantSeize_noCurrent {p : Part} (h : p.pins.loop = none) (owner : Owner) (number : List Nat) :
    grantSeize owner number p = markS 0 { p with
      lu.line := .seizing
      lu.owner := owner
      lu.waitingSeize := none
      lu.copy := p.lu.settings
      lu.number := number
      lu.clearing := none
      lu.voltWatch := none
      lu.loopLimit := some (newTimer 500 p)
      lu.searchLimit := some (newTimer 3000 p) } := by
  simp [grantSeize, h]

theorem askCustomerSeize_idle {p : Part} {l : LineSettings} (hset : p.lu.settings = some l) (h : p.lu.line = .idle)
    (number : List Nat) : askCustomerSeize number p = grantSeize .customer number p := by
  simp [askCustomerSeize, hset, h]

theorem setCall_of_ne {c : CallState} {p : Part} (h : p.cc.call ≠ c) :
    setCall c p = setCause .call (markS 0 { p with cc.call := c }) := if_neg h

theorem completeIf_awaited {code : Nat} {result : ResultCode} {p : Part} (hf : p.bpu.inFlight = some code)
    (hr : p.bpu.result = .pending) : completeIf code result p = complete result p := by
  simp [completeIf, awaits, hf, hr]

/-- A FREE call that no restriction refuses is placed (R138). -/
theorem judgeRating_free {p : Part} (h : p.cru.restriction ≠ .noCalls) (i : Nat) :
    judgeRating (.free i) p = placeCall .freeClass i none p := if_neg h

/-- A FREE call is placed with its line seized at once, where the line is IDLE without current. -/
theorem placeCall_free {p : Part} {l : LineSettings} (hset : p.lu.settings = some l) (hline : p.lu.line = .idle)
    (hloop : p.pins.loop = none) (hcall : p.cc.call = .collecting) (hf : p.bpu.inFlight = some 1)
    (hr : p.bpu.result = .pending) (i : Nat) :
    let t := placeCall .freeClass i none p
    t.bpu.result = .placed ∧ t.cc.call = .placing
      ∧ t.cc.placed = some { cls := .freeClass, index := i, entry := none, digits := p.cc.digits,
                             startTime := p.rtu.clock, answer := none, collected := 0, ending := none }
      ∧ t.cc.steps = 0 ∧ t.cc.charged = 0 ∧ t.cc.digits = p.cc.digits ∧ t.lu.line = .seizing ∧ t.lu.owner = .customer
      ∧ t.lu.number = p.cc.digits ∧ t.lu.copy = some l ∧ t.lu.loopLimit = some { start := p.tick, limit := 500 }
      ∧ t.lu.searchLimit = some { start := p.tick, limit := 3000 } ∧ t.rtu.cache = p.rtu.cache ∧ t.rlu = p.rlu
      ∧ t.cau = p.cau ∧ t.cru = p.cru ∧ t.cu = p.cu ∧ t.mem = p.mem := by
  intro t
  have ht : t = placeCall .freeClass i none p := rfl
  rewrite [placeCall, askCustomerSeize_idle (by simpa using hset) (by simpa using hline),
    grantSeize_noCurrent (by simpa using hloop), setCall_of_ne (by simp [hcall]),
    completeIf_awaited (by simpa using hf) (by simpa using hr)] at ht
  simp [ht, complete, hset, newTimer]

/-! ## A miss waits for a scan (R138) -/

theorem beginLookup_idle {p : Part} (h : p.rtu.engine ≠ .verify) (number : List Nat) :
    beginLookup number p = setCall .rating (beginScan { p with rtu.engine := .lookup number 0 }) := by
  simp [beginLookup, h]

/-- Settles O39, from the refusals in order and the answer at the taking. -/
theorem dialJudged : Obligations.DialJudged := by
  unfold Obligations.DialJudged
  intro b s hready hfree p c pulse
  have htaken : exec .dial s = .next { s with part := dialCall p } := onPart_commandWrite hready hfree 1
  have hpulse : pulseSet p = pulse := rfl
  refine ⟨fun h => ?_, fun hcall h => ?_, fun hcall hoff h => ?_, fun hcall hoff hdigits h => ?_,
    fun hcall hoff hdigits hres hp hd => ?_, fun hcall hoff hdigits hres hvalid => ?_⟩
  · rw [htaken, dialCall_notAllowed (p := p) h]
  · rw [htaken, dialCall_notOffhook (p := p) hcall h]
  · rw [htaken, dialCall_noDigits (p := p) hcall hoff h]
  · rw [htaken, dialCall_restricted (p := p) hcall hoff hdigits h]
  · have hdec : decimal p.cc.digits = false := by
      obtain ⟨d, hd, hlt⟩ := hd
      exact List.all_eq_false.2 ⟨d, hd, by simpa using hlt⟩
    rewrite [htaken, dialCall_open (p := p) hcall hoff hdigits hres, hpulse, hp, hdec]
    rfl
  · have hopen : dialCall p = lookup c.digits p := by
      rw [dialCall_open (p := p) hcall hoff hdigits hres, if_neg]
      · rfl
      · obtain h | h := hvalid
        · simp [hpulse, h]
        · have hdec : decimal p.cc.digits = true := List.all_eq_true.2 fun d hd => by simpa using h d hd
          simp [hdec]
    rewrite [htaken, hopen]
    refine ⟨fun i l hfree hset hline hloop => ?_, fun hfree hprobe hengine => ?_⟩
    · rewrite [lookup_answered (answerAtTaking_free (p := p) hfree), judgeRating_free (p := p) hres]
      exact ⟨_, rfl, placeCall_free (p := p) hset hline hloop hcall rfl rfl i⟩
    · rewrite [lookup_missed (answerAtTaking_missed (p := p) hfree hprobe), beginLookup_idle (p := p) hengine]
      rfl

end Sys2Proof.Machine
end

section
/-!
PROOFS. The clock and the quiet timer (O49), the voltage watch (O57) and the scrubber (O46).
-/

namespace Sys2Proof.Machine

/-! ## The clock and the quiet timer -/

set_option Elab.async false in
/-- A verification that is due begins at once with the engine IDLE. -/
theorem beginVerify_due {p : Part} (hdue : p.rtu.verifyDue = true) (h : p.rtu.engine = .idle) :
    beginVerify p = beginScan { p with rtu.engine := .verify, rtu.verifyDue := false } := if_pos ⟨hdue, h⟩

/-- A verification waits while the engine is in use. -/
theorem beginVerify_waits {p : Part} (h : p.rtu.engine ≠ .idle) : beginVerify p = p := if_neg fun hb => h hb.2

/-- Settles O49, from the band judged with no call being charged and the engine's state. -/
theorem clockAndQuietTimer : Obligations.ClockAndQuietTimer := by
  unfold Obligations.ClockAndQuietTimer
  refine fun s => ⟨fun hdue hidle hrest => ?_, fun hdue hengine => ?_, fun hdue hengine => ?_⟩
  · intro clock band q hvalid
    have hclock : nextSecond s.part.rtu.clock = clock := by
      dsimp only [clock]
      generalize s.part.rtu.clock = c at hvalid ⊢
      rcases c with _ | ⟨day, second⟩
      · rfl
      · obtain ⟨hday, -⟩ := hvalid
        unfold nextSecond
        dsimp only
        split
        · rfl
        · split
          · next h6 => rw [h6]
          · rw [Nat.mod_eq_of_lt (by omega)]
    have hq : markS 6 { s.part with
        rtu.clock := nextSecond s.part.rtu.clock, rtu.second := s.part.rtu.second + 1000 } = q := by
      rw [hclock]
    show onPart (fun p => onExpiry (some (phaseTimer p)) secondPasses p) s = _
    rewrite [onPart, onExpiry_due hdue, secondPasses, hq, gateWork_judgeBand_rest (p := q) hidle hrest,
      judgeBand_idle (p := q) hidle]
    rfl
  · show onPart (fun p => onExpiry p.rtu.quiet _ p) s = _
    rewrite [onPart, onExpiry_due hdue, beginVerify_due rfl (by exact hengine)]
    rfl
  · show onPart (fun p => onExpiry p.rtu.quiet _ p) s = _
    rw [onPart, onExpiry_due hdue, beginVerify_waits (by exact hengine)]

/-! ## The voltage watch -/

/-- The raise that makes LINE_DOWN active starts the probe timer (R131). -/
theorem raiseLineDown_eq (detail : Nat) (p : Part) : raiseLineDown detail p = raise .lineDown detail { p with
    lu.probe := if isActive .lineDown p then p.lu.probe else some (newTimer 300000 p) } := by
  unfold raiseLineDown
  split <;> rfl

/-- Settles O57, from the change of voltage and the raise of LINE_DOWN. -/
theorem voltageWatched : Obligations.VoltageWatched := by
  unfold Obligations.VoltageWatched
  refine fun s => ⟨fun present hne hidle => ?_, fun present h => ?_, fun hdue => ?_⟩
  · show onPart (fun p => if p.pins.voltage = present then p else _) s = _
    rewrite [onPart, if_neg (Ne.symm hne), if_pos hidle]
    rfl
  · show onPart (fun p => if p.pins.voltage = present then p else _) s = _
    rewrite [onPart]
    split
    case isTrue heq => rw [← heq]
    case isFalse hne => rw [if_neg (h.resolve_left (Ne.symm hne))]
  · show onPart (fun p => onExpiry p.lu.voltWatch _ p) s = _
    rewrite [onPart, onExpiry_due hdue, raiseLineDown_eq]
    rfl

/-! ## The scrubber -/

/-- A part read that nothing withdrew hands its words to the unit that asked for it, and the port is free. -/
theorem readDone_read {requester : PartRead → Option (Part → Part)} {purpose : ReadPurpose} {f : Part → Part} {p : Part}
    (h : readAtPort purpose p) (hf : ∀ limit, requester { purpose, limit } = some f)
    (ho : outer (f (freePort p)) = outer (freePort p)) : readDone requester p = f (freePort p) := by
  obtain ⟨hqueue, limit, hport⟩ := h
  unfold readDone
  rewrite [hport]
  simp only [hf, Bool.false_eq_true, if_false]
  exact serveRounds_idle ((outer_hostQueue ho).trans hqueue) _

theorem fit_of_length {n : Nat} {words : List Word} (h : words.length = n) : fit n words = words := by
  simp [fit, ← h]

@[simp] theorem endTurn_outer (p : Part) : outer (endTurn p) = outer p := rfl

@[simp] theorem relocate_outer (n slot spare : Nat) (p : Part) : outer (relocate n slot spare p) = outer p :=
  rfl

@[simp] theorem hardSlot_outer (n slot : Nat) (p : Part) : outer (hardSlot n slot p) = outer p := by
  unfold hardSlot
  split
  · split <;> simp
  · simp

@[simp] theorem strikeSlot_outer (n slot : Nat) (p : Part) : outer (strikeSlot n slot p) = outer p := by
  unfold strikeSlot
  split
  · rfl
  · split
    · rfl
    · simp only [hardSlot_outer]
      rfl

@[simp] theorem scrubRead_outer (n slot : Nat) (words : List Word) (p : Part) :
    outer (scrubRead n slot words p) = outer p := by
  unfold scrubRead
  split
  · split
    · exact endTurn_outer p
    · simp only [endTurn_outer, scrubMismatch, strikeSlot_outer, markS_outer, markSlot_outer]
      rfl
  · rfl

/-- A mismatch on a slot that is not hard (R49). -/
theorem scrubMismatch_first {n slot : Nat} {p : Part}
    (h : ∀ struck, p.cau.strikes.getD slot none = some struck → struck + 8 < p.cau.pass) :
    endTurn (scrubMismatch n slot p) = turnEnded { p with
      bpu.dirty := insertGroup (.status 4) (insertGroup (.account slot) p.bpu.dirty)
      cau.mismatches := p.cau.mismatches.set n (min 65535 (p.cau.mismatches.getD n 0 + 1))
      cau.strikes := p.cau.strikes.set slot (some p.cau.pass) } := by
  have hq : ∀ struck, (markS 4 (markSlot slot { p with cau.mismatches := countUp n p.cau.mismatches })).cau.strikes.getD
      slot none = some struck → struck + 8
        < (markS 4 (markSlot slot { p with cau.mismatches := countUp n p.cau.mismatches })).cau.pass := h
  rewrite [scrubMismatch, strikeSlot_first hq]
  rfl

/-- Settles O46, from what has a turn skipped and what the comparison finds. -/
theorem scrubberCompares : Obligations.ScrubberCompares := by
  unfold Obligations.ScrubberCompares
  refine fun s => ⟨?_, fun n slot t words hread hlen hturn => ?_⟩
  · intro n slot hdue
    have htaken : exec .scrubTurn s = .next { s with part := scrubTurn s.part } := by
      show onPart (fun p => onExpiry p.cau.scrub scrubTurn p) s = _
      rw [onPart, onExpiry_due hdue]
    refine ⟨fun h => ?_, fun hfaulted hdirty hport hheader => ?_⟩
    · have hskip : turnSkipped n s.part = true := turnSkipped_iff.2 h
      rewrite [htaken, scrubTurn, if_pos hskip]
      rfl
    · have hskip : ¬ turnSkipped n s.part = true := by
        rewrite [turnSkipped_iff]
        rintro (h | h | ⟨record, address, words, h⟩ | ⟨h, hne⟩)
        · exact hfaulted h
        · exact hdirty h
        · exact hport record address words h
        · exact hne (hheader h)
      rewrite [htaken, scrubTurn, if_neg hskip]
      rfl
  · have htaken : exec (.scrubReadDone words) s = .next { s with part := scrubRead n slot words (freePort s.part) } := by
      show onPart (readDone (scrubReader words)) s = _
      rw [onPart, readDone_read hread (f := scrubRead n slot words) (fun limit => ?_) (scrubRead_outer n slot words _)]
      rw [scrubReader, fit_of_length hlen]
    have hcompared : scrubRead n slot words (freePort s.part) =
        if t.touched || words == recordWords n s.part then endTurn (freePort s.part)
        else endTurn (scrubMismatch n slot (freePort s.part)) := by
      unfold scrubRead
      rewrite [show (freePort s.part).cau.turn = some t from hturn]
      rfl
    rewrite [htaken, hcompared]
    refine ⟨fun h => ?_, fun htouched hdiffer hstrike => ?_⟩
    · rewrite [if_pos (by simpa using h)]
      rfl
    · rewrite [if_neg (by simp [htouched, hdiffer]), scrubMismatch_first (p := freePort s.part) hstrike]
      rfl

end Sys2Proof.Machine
end

section
/-!
PROOFS. The door and the service key (O59).
-/

namespace Sys2Proof.Machine

/-! ## Service mode and the restriction -/

set_option Elab.async false in
theorem derivedRestriction_service {p : Part} (h : p.cru.key = some true) : derivedRestriction p = .noCalls := by
  simp [derivedRestriction, serviceMode, h]

theorem deriveRestriction_restriction (p : Part) : (deriveRestriction p).cru.restriction = derivedRestriction p := by
  rw [deriveRestriction_holds, derivedRestriction_congr (deriveRestriction_rows p) (deriveRestriction_key p)]

/-- A change of service mode reaches the restriction, the marks, the causes and the line. -/
theorem serviceChanges_frame (p : Part) : serviceChanges p = { p with
    bpu.dirty := (serviceChanges p).bpu.dirty
    bpu.causes := (serviceChanges p).bpu.causes
    bpu.attention := (serviceChanges p).bpu.attention
    cru.restriction := derivedRestriction p } := by
  obtain ⟨dirty, causes, attention, restriction, hframe⟩ := deriveRestriction_frame p
  have hr : restriction = derivedRestriction p := by rw [← deriveRestriction_restriction, hframe]
  rewrite [serviceChanges, hframe, hr]
  rfl

theorem serviceChanges_restrictionHolds (p : Part) : restrictionHolds (serviceChanges p) := by
  rewrite [serviceChanges_frame]
  exact derivedRestriction_congr rfl rfl

/-- A change of service mode marks S0 and sets SERVICE, and what follows keeps them (R152). -/
theorem serviceChanges_announced {p q : Part} (h : Publishes (serviceChanges p) q) :
    q.bpu.causes.getLsbD 6 = true ∧ Group.status 0 ∈ q.bpu.dirty :=
  ⟨h.caused, h.dirty _ (mem_insertGroup_self _ _)⟩

theorem sensors_doorMark {p q : Part} (h : sensors q = sensors p) : q.cru.doorMark = p.cru.doorMark := by
  simp only [sensors, Prod.mk.injEq] at h
  obtain ⟨-, -, -, hmark, -⟩ := h
  exact hmark

/-! ## The changes of the switches -/

theorem doorChanges_opened {p : Part} (h : p.cru.door = some false) : doorChanges true p =
    if p.cru.key = some true then { p with cru.door := some true, cru.doorMark := true }
    else raise .vaultForced 1 { p with cru.door := some true } := by
  simp [doorChanges, h, serviceMode]

theorem doorChanges_closed {p : Part} (h : p.cru.door = some true) :
    doorChanges false p = { p with cru.door := some false } := by
  simp [doorChanges, h]

theorem keyChanges_on {p : Part} (h : p.cru.key = some false) :
    keyChanges true p = serviceChanges { p with cru.key := some true } := by
  simp [keyChanges, h, beginService]

/-- The door with which service mode ends is the one that stands (R152). -/
theorem keyChanges_off {p : Part} (h : p.cru.key = some true) : keyChanges false p =
    if p.cru.door = some true then
      raise .vaultForced 2 (serviceChanges { p with cru.key := some false, cru.doorMark := false })
    else serviceChanges { p with cru.key := some false, cru.doorMark := false } := by
  have hdoor : (serviceChanges { p with cru.key := some false, cru.doorMark := false }).cru.door = p.cru.door := by
    rw [serviceChanges_frame]
  simp [keyChanges, h, endService, hdoor]

theorem settleSwitch_door {p : Part} (h : p.cru.door = none) (opened : Bool) : settleSwitch .door opened p =
    judgeSettled { p with cru.door := some opened, cru.doorSettled := some opened } := by
  simp [settleSwitch, h]

theorem settleSwitch_key_off {p : Part} (h : p.cru.key = none) : settleSwitch .key false p =
    judgeSettled { p with cru.key := some false, cru.keySettled := some false } := by
  simp [settleSwitch, h]

/-- A key that settles ON is judged by no raise (R157). -/
theorem settleSwitch_key_on {p : Part} (h : p.cru.key = none) : settleSwitch .key true p =
    serviceChanges { p with cru.key := some true, cru.keySettled := some true } := by
  have hkey : (serviceChanges { p with cru.key := some true, cru.keySettled := some true }).cru.keySettled
      = some true := by
    rw [serviceChanges_frame]
  have hset : settleSwitch .key true p =
      judgeSettled (serviceChanges { p with cru.key := some true, cru.keySettled := some true }) := by
    simp [settleSwitch, h, beginService]
  rw [hset, judgeSettled, hkey, if_neg (by simp)]

/-- Settles O59, from the changes of the switches and the frame of a change of service mode. -/
theorem doorAndKeyAct : Obligations.DoorAndKeyAct := by
  unfold Obligations.DoorAndKeyAct
  intro s held
  refine ⟨fun hdoor => ?_, fun hdoor => ?_, fun hkey => ?_, fun hkey => ?_, fun opened hdoor => ?_, fun hkey => ?_,
    fun hkey => ?_⟩
  · intro p
    show onPart (fun p => doorChanges true _) s = _
    rewrite [onPart, doorChanges_opened (by exact hdoor)]
    rfl
  · show onPart (fun p => doorChanges false _) s = _
    rewrite [onPart, doorChanges_closed (by exact hdoor)]
    rfl
  · let p := { s.part with pins.keyOn := true, samplers.key := held true, cru.key := some true }
    have htaken : exec (.keyDebounced true) s = .next { s with part := serviceChanges p } := by
      show onPart (fun p => keyChanges true _) s = _
      rewrite [onPart, keyChanges_on (by exact hkey)]
      rfl
    obtain ⟨hcause, hmark⟩ := serviceChanges_announced (.refl (serviceChanges p))
    refine ⟨_, htaken, ?_, ?_, hcause, hmark, ?_⟩ <;> rw [serviceChanges_frame]
    · exact derivedRestriction_service (p := p) rfl
    · exact ⟨rfl, rfl, rfl, rfl, rfl, rfl, rfl⟩
  · let p := { s.part with
      pins.keyOn := false, samplers.key := held false, cru.key := some false, cru.doorMark := false }
    have htaken : exec (.keyDebounced false) s = .next { s with
        part := if s.part.cru.door = some true then raise .vaultForced 2 (serviceChanges p) else serviceChanges p } := by
      show onPart (fun p => keyChanges false _) s = _
      rewrite [onPart, keyChanges_off (by exact hkey)]
      rfl
    rewrite [htaken]
    have hframe := serviceChanges_frame p
    split
    case isTrue hdoor =>
      have hsens := (raise_after_table .vaultForced 2 (serviceChanges p)).1
      obtain ⟨hcause, -⟩ := serviceChanges_announced (raise_publishes .vaultForced 2 (serviceChanges p))
      refine ⟨_, rfl, ?_, ?_, raise_restrictionHolds _ _ _, hcause, ?_, ?_, ?_, ?_, ?_⟩
      · rw [sensors_key hsens, raisedTable_frame, hframe]
      · rw [sensors_doorMark hsens, raisedTable_frame, hframe]
      · rewrite [raise_rows, raise_rows, hframe]
        rfl
      · rw [raise_rlu, hframe]
      · rw [raise_cau, hframe]
      · rw [raise_cc, hframe]
      · rw [raise_mem, hframe]
    case isFalse hdoor =>
      obtain ⟨hcause, -⟩ := serviceChanges_announced (.refl (serviceChanges p))
      refine ⟨_, rfl, ?_, ?_, serviceChanges_restrictionHolds p, hcause, ?_⟩ <;> rw [hframe]
      exact ⟨rfl, rfl, rfl, rfl, rfl⟩
  · intro p
    show onPart (fun p => settleSwitch .door opened _) s = _
    rewrite [onPart, settleSwitch_door (by exact hdoor), judgeSettled]
    simp only [Option.some.injEq]
    rfl
  · intro p
    show onPart (fun p => settleSwitch .key false _) s = _
    rewrite [onPart, settleSwitch_key_off (by exact hkey), judgeSettled]
    simp only [and_true]
    rfl
  · let p := { s.part with
      pins.keyOn := true, samplers.key := held true, cru.key := some true, cru.keySettled := some true }
    have htaken : exec (.switchSettled .key true) s = .next { s with part := serviceChanges p } := by
      show onPart (fun p => settleSwitch .key true _) s = _
      rewrite [onPart, settleSwitch_key_on (by exact hkey)]
      rfl
    obtain ⟨hcause, hmark⟩ := serviceChanges_announced (.refl (serviceChanges p))
    refine ⟨_, htaken, ?_, ?_, ?_, hcause, hmark, ?_⟩ <;> rw [serviceChanges_frame]
    · exact derivedRestriction_service (p := p) rfl
    · exact ⟨rfl, rfl, rfl, rfl, rfl, rfl⟩

end Sys2Proof.Machine
end

section
/-!
PROOFS. The dirty-group set in R67's order and the grant of the port to the part (O40).
-/

namespace Sys2Proof.Machine

/-! ## The order of the dirty-group set (R67) -/

set_option Elab.async false in
theorem groupRank_lt_of_fits {g : Group} (hfits : groupFits g) (h : isCell g = false) : groupRank g < 90 := by
  cases g <;> simp only [groupFits, isCell, groupRank, Bool.true_eq_false] at * <;> omega

theorem groupRank_ge_of_cell {g : Group} (h : isCell g = true) : 90 ≤ groupRank g := by
  cases g <;> simp_all [isCell, groupRank]

/-- Groups that fit share no place. -/
theorem groupRank_injective {g h : Group} (hg : groupFits g) (hh : groupFits h) (heq : groupRank g = groupRank h) :
    g = h := by
  cases g <;> cases h <;> simp only [groupFits, groupRank, reduceCtorEq, Group.account.injEq, Group.status.injEq,
    Group.report.injEq, Group.call.injEq, Group.cell.injEq] at * <;> omega

theorem mem_insertGroup_iff {g x : Group} {dirty : List Group} : x ∈ insertGroup g dirty ↔ x = g ∨ x ∈ dirty := by
  induction dirty with
  | nil => simp [insertGroup]
  | cons h t ih =>
    unfold insertGroup
    split
    case isTrue heq => simp [heq]
    case isFalse =>
      split
      · simp
      · rewrite [List.mem_cons, ih, List.mem_cons]
        exact or_left_comm

/-- Marking a group keeps the order. -/
theorem insertGroup_ordered {g : Group} (hg : groupFits g) {dirty : List Group} (hfits : ∀ x ∈ dirty, groupFits x)
    (h : dirtyOrdered dirty) : dirtyOrdered (insertGroup g dirty) := by
  induction dirty with
  | nil => exact List.pairwise_singleton _ _
  | cons d t ih =>
    obtain ⟨hd, ht⟩ := List.pairwise_cons.1 h
    unfold insertGroup
    split
    case isTrue => exact h
    case isFalse hne =>
      split
      case isTrue hlt =>
        refine List.pairwise_cons.2 ⟨fun x hx => ?_, h⟩
        obtain rfl | hx := List.mem_cons.1 hx
        · exact hlt
        · exact hlt.trans (hd x hx)
      case isFalse hge =>
        refine List.pairwise_cons.2 ⟨fun x hx => ?_, ih (fun x hx => hfits x (List.mem_cons_of_mem d hx)) ht⟩
        obtain rfl | hx := mem_insertGroup_iff.1 hx
        · exact Nat.lt_of_le_of_ne (Nat.not_lt.1 hge) fun heq =>
            hne (groupRank_injective hg (hfits d List.mem_cons_self) heq.symm)
        · exact hd x hx

/-- Marking every cell keeps the order. -/
theorem markedCells_ordered {dirty : List Group} (hfits : ∀ x ∈ dirty, groupFits x) (h : dirtyOrdered dirty) :
    dirtyOrdered (dirty.filter (fun g => !isCell g) ++ (List.range 256).map Group.cell) := by
  refine List.pairwise_append.2 ⟨h.filter _, ?_, fun x hx y hy => ?_⟩
  · refine List.pairwise_map.2 (List.pairwise_lt_range.imp fun hlt => ?_)
    simp only [groupRank]
    omega
  · obtain ⟨hmem, hcell⟩ := List.mem_filter.1 hx
    obtain ⟨i, -, rfl⟩ := List.mem_map.1 hy
    exact (groupRank_lt_of_fits (hfits x hmem) (by simpa using hcell)).trans_le (groupRank_ge_of_cell rfl)

/-- The first group above the cells has the lowest place of all. -/
theorem firstAbove_least {g : Group} {dirty : List Group} (hfits : ∀ x ∈ dirty, groupFits x) (h : dirtyOrdered dirty)
    (hfirst : dirty.find? (fun x => !isCell x) = some g) : ∀ x ∈ dirty, groupRank g ≤ groupRank x := by
  have hmem := List.mem_of_find?_eq_some hfirst
  have hcell : isCell g = false := by simpa using List.find?_some hfirst
  cases dirty with
  | nil => simp at hmem
  | cons d t =>
    obtain ⟨hd, -⟩ := List.pairwise_cons.1 h
    have hg : g = d := by
      cases hc : isCell d with
      | false => simpa [hc] using hfirst.symm
      | true =>
        refine (List.mem_cons.1 hmem).resolve_right fun ht => ?_
        have := groupRank_lt_of_fits (hfits g hmem) hcell
        have := groupRank_ge_of_cell hc
        have := hd g ht
        omega
    intro x hx
    obtain rfl | hx := List.mem_cons.1 hx
    · rw [hg]
    · rewrite [hg]
      exact (hd x hx).le

/-! ## The grant (R67 to R69) -/

theorem senseFlash_eq (busy : Bool) (p : Part) : senseFlash busy p = flashShows busy p := by cases busy <;> rfl

theorem hostIdle_of_noneWaits {p : Part} (h : noneWaits p) : hostIdle p = true := by
  obtain h | ⟨hl, target, data, rest, h⟩ := h
  · simp [hostIdle, h]
  · simp [hostIdle, h, isHeld, hl]

/-- With the port free and no host access waiting for it, the part is granted a run where it has work. -/
theorem exec_partRunGrant {s : State} {busy : Bool} (hport : s.part.bpu.port = none) (h : noneWaits s.part) :
    exec (.partRunGrant busy) s = .next
      { s with
        part := if workReady (flashShows busy s.part) then grantRun (flashShows busy s.part)
          else flashShows busy s.part } := by
  have hgrant : mayGrant (flashShows busy s.part) = workReady (flashShows busy s.part) := by
    have hidle : hostIdle (flashShows busy s.part) = true := by
      refine hostIdle_of_noneWaits ?_
      cases busy <;> exact h
    have hnone : (flashShows busy s.part).bpu.port = none := by cases busy <;> exact hport
    rewrite [mayGrant, hidle, hnone]
    rfl
  show onPart (fun p => if mayGrant (senseFlash busy p) then grantRun (senseFlash busy p) else senseFlash busy p) s = _
  rw [onPart, senseFlash_eq, hgrant]

theorem writable_open {b : Bases} {p : Part} (h : p.bpu.windows = some b) : writable p = p.bpu.dirty := by
  simp [writable, h]

theorem writable_closed {p : Part} (h : p.bpu.windows = none) : writable p = [] := by simp [writable, h]

theorem chooseRun_write {p : Part} {g : Group} (h : firstGroup p = some g) (n : Nat) :
    chooseRun (n + 1) p = beginWrite g p := by
  rw [chooseRun, h]

theorem chooseRun_read {p : Part} {r : PartRead} {rest : List PartRead} (h : firstGroup p = none)
    (hw : p.bpu.waiting = r :: rest) (hf : (ofFlash r.purpose && p.pins.flashBusy) = false) (n : Nat) :
    chooseRun (n + 1) p = { p with bpu.waiting := rest, bpu.port := some (.read r false) } := by
  rewrite [chooseRun, h, hw]
  simp [hf]

theorem chooseRun_aside {p : Part} {r : PartRead} {rest : List PartRead} (h : firstGroup p = none)
    (hw : p.bpu.waiting = r :: rest) (hf : (ofFlash r.purpose && p.pins.flashBusy) = true) (n : Nat) :
    chooseRun (n + 1) p = chooseRun n (setAside r p) := by
  rewrite [chooseRun, h, hw]
  simp [hf]

theorem chooseRun_cell {p : Part} {g : Group} {rest : List Group} (h : firstGroup p = none)
    (hw : p.bpu.waiting = []) (hd : writable p = g :: rest) (n : Nat) : chooseRun (n + 1) p = beginWrite g p := by
  rw [chooseRun, h, hw, hd]

theorem chooseRun_nothing {p : Part} (h : firstGroup p = none) (hw : p.bpu.waiting = []) (hd : writable p = [])
    (n : Nat) : chooseRun (n + 1) p = p := by
  rw [chooseRun, h, hw, hd]

theorem firstGroup_none {p : Part} (h : p.bpu.windows = none ∨ ∀ g ∈ p.bpu.dirty, isCell g = true) :
    firstGroup p = none := by
  unfold firstGroup writable
  refine List.find?_eq_none.2 fun g hg => ?_
  split at hg
  case isTrue hw =>
    obtain h | h := h
    · simp [h] at hw
    · simp [h g hg]
  case isFalse => simp at hg

/-- A run that takes the port sets the starvation count back (R68). -/
theorem grantRun_taken {p q : Part} (h : chooseRun (p.bpu.waiting.length + 1) p = q) (hport : q.bpu.port.isSome = true) :
    grantRun p = { q with bpu.starvation := 0 } := by
  rewrite [grantRun, h]
  exact if_pos hport

/-- A grant that gives no run leaves the starvation count (log entry 26). -/
theorem grantRun_untaken {p q : Part} (h : chooseRun (p.bpu.waiting.length + 1) p = q) (hport : q.bpu.port = none) :
    grantRun p = q := by
  rewrite [grantRun, h]
  exact if_neg (by simp [hport])

/-- Settles O40, from the order that marking keeps and the choice of a run. -/
theorem partRunGranted : Obligations.PartRunGranted := by
  unfold Obligations.PartRunGranted
  refine ⟨fun dirty hordered hfits => ⟨fun g hg => ⟨insertGroup_ordered hg hfits hordered, fun x => mem_insertGroup_iff⟩,
    fun g => hordered.filter _, markedCells_ordered hfits hordered, fun g hg => firstAbove_least hfits hordered hg⟩,
    fun i j hi hj k m hk => ?_, fun s busy hport hnone => ?_⟩
  · simp only [groupRank]
    omega
  · intro p closed
    have hgrant : exec (.partRunGrant busy) s = .next { s with part := if workReady p then grantRun p else p } :=
      exec_partRunGrant hport hnone
    have hwindows : p.bpu.windows = s.part.bpu.windows := by cases busy <;> rfl
    have hfree : p.bpu.port = none := by cases busy <;> exact hport
    have hbusy : p.pins.flashBusy = busy := by cases busy <;> rfl
    have hready : ∀ {r rest}, p.bpu.waiting = r :: rest → workReady p = true := fun h => by simp [workReady, h]
    refine ⟨fun b g hw hg => ?_, fun r rest hcells hwaiting hflash => ?_, fun r hdirty hwaiting hb hflash hlimit => ?_,
      fun b i rest hw hdirty hcells hwaiting => ?_, fun hclosed hwaiting => ?_⟩
    · have hopen := writable_open (hwindows.trans hw)
      have hwork : workReady p = true := by
        have hmem := List.mem_of_find?_eq_some hg
        have hne : writable p ≠ [] := by rewrite [hopen]; exact List.ne_nil_of_mem hmem
        simp [workReady, hne]
      rewrite [hgrant, if_pos hwork, grantRun_taken (chooseRun_write (by rw [firstGroup, hopen, hg]) _) rfl]
      rfl
    · have hf : (ofFlash r.purpose && p.pins.flashBusy) = false := by
        rewrite [hbusy]
        obtain h | h := hflash <;> simp [h]
      rewrite [hgrant, if_pos (hready hwaiting), grantRun_taken
        (chooseRun_read (firstGroup_none (hcells.imp_left hwindows.trans)) hwaiting hf _) rfl]
      rfl
    · have hempty : writable p = [] := by
        obtain h | h := hdirty
        · exact writable_closed (hwindows.trans h)
        · simp [writable, h]
      have hfirst : firstGroup p = none := by rewrite [firstGroup, hempty]; rfl
      have hrun : chooseRun (p.bpu.waiting.length + 1) p = setAside r p := by
        rewrite [hwaiting, List.length_singleton, chooseRun_aside hfirst hwaiting (by simp [hbusy, hb, hflash])]
        exact chooseRun_nothing (p := setAside r p) hfirst (by simp [setAside, hwaiting]) hempty 0
      rewrite [hgrant, if_pos (hready hwaiting), grantRun_untaken hrun hfree]
      simp [setAside, hwaiting, hlimit, newTimer]
    · have hopen := writable_open (hwindows.trans hw)
      have hdump : baseOfKind .mapDump p = some b.mapDump := baseOfKind_installed (hwindows.trans hw) .mapDump
      have hcell : ∀ g ∈ p.bpu.dirty, isCell g = true := by
        rewrite [hdirty]
        intro g hg
        obtain rfl | hg := List.mem_cons.1 hg
        · rfl
        · exact hcells g hg
      rewrite [hgrant, if_pos (by simp [workReady, hopen, hdirty]), grantRun_taken
        (chooseRun_cell (firstGroup_none (.inr hcell)) hwaiting (hopen.trans hdirty) _) rfl]
      simp [beginWrite, groupPlace, groupRecord, groupWords, hdump]
    · have hwork : workReady p = false := by simp [workReady, writable_closed (hwindows.trans hclosed), hwaiting]
      rewrite [hgrant, hwork]
      rfl

end Sys2Proof.Machine
end

section
/-!
PROOFS. VAULT_CLEARED (O36), with the marks and the causes that the account's bookings set.
-/

namespace Sys2Proof.Machine

/-! ## What the account's operations publish -/

set_option Elab.async false in
theorem markSlot_publishes (slot : Nat) (p : Part) : Publishes p (markSlot slot p) :=
  Publishes.after (mark_publishes _ _) rfl

theorem markRecord_publishes (record : Nat) (p : Part) : Publishes p (markRecord record p) := by
  unfold markRecord
  split
  · exact .refl p
  · exact markSlot_publishes _ p

theorem bookMoney_publishes (f : Money → Money) (p : Part) : Publishes p (bookMoney f p) :=
  Publishes.after (markRecord_publishes 1 _) rfl

theorem bookTypes_publishes (f : TypeCounts → TypeCounts) (p : Part) : Publishes p (bookTypes f p) :=
  Publishes.after (markRecord_publishes 2 _) rfl

theorem appendRecord_publishes (r : RingRecord) (p : Part) : Publishes p (appendRecord r p) := by
  unfold appendRecord
  split
  · exact .ofLast (setCause_publishes .record _)
      (.ofLast (markS_publishes 4 _) (.after (mark_publishes _ _) rfl))
  · exact .ofLast (setCause_publishes .record _) (.after (markS_publishes 4 _) rfl)

theorem clear_publishes (k : Condition) (p : Part) : Publishes p (clear k p) := by
  unfold clear
  split
  · exact .ofLast (setCause_publishes .condition _)
      (.ofLast (markS_publishes 7 _) (.after (deriveRestriction_publishes _) rfl))
  · exact .refl p

/-- A record that is not faulted has its slot marked. -/
theorem markRecord_marks {record : Nat} {p : Part} (h : record ∉ p.cau.faulted) :
    Group.account (slotOf record p) ∈ (markRecord record p).bpu.dirty := by
  rewrite [markRecord, if_neg h]
  exact mem_insertGroup_self _ _

theorem slotOf_congr {p q : Part} (h : q.cau.header = p.cau.header) (record : Nat) : slotOf record q = slotOf record p := by
  cases record with
  | zero => rfl
  | succ n => simp only [slotOf, h]

/-! ## What the account's operations leave alone -/

/-- The mark of a record reaches the dirty set and the scrub turn on its slot alone. -/
theorem markRecord_frame (record : Nat) (p : Part) : markRecord record p = { p with
    bpu.dirty := (markRecord record p).bpu.dirty
    cau.turn := (markRecord record p).cau.turn } := by
  unfold markRecord
  split <;> rfl

/-- A record of the call ring reaches the ring, the marks, the causes and the line alone. -/
theorem appendRecord_frame (r : RingRecord) (p : Part) : appendRecord r p = { p with
    bpu.dirty := (appendRecord r p).bpu.dirty
    bpu.causes := (appendRecord r p).bpu.causes
    bpu.attention := (appendRecord r p).bpu.attention
    cc := (appendRecord r p).cc } := by
  unfold appendRecord
  split <;> rfl

/-- What the ring makes of a record rests on the ring alone. -/
theorem appendRecord_cc_congr {p q : Part} (h : q.cc = p.cc) (r : RingRecord) :
    (appendRecord r q).cc = (appendRecord r p).cc := by
  unfold appendRecord
  rewrite [h]
  split <;> simp

/-! ## The frames of a ring record and of a clear, field by field -/

@[simp] theorem appendRecord_tick (r : RingRecord) (p : Part) : (appendRecord r p).tick = p.tick := by
  rw [appendRecord_frame]
@[simp] theorem appendRecord_mem (r : RingRecord) (p : Part) : (appendRecord r p).mem = p.mem := by
  rw [appendRecord_frame]
@[simp] theorem appendRecord_pins (r : RingRecord) (p : Part) : (appendRecord r p).pins = p.pins := by
  rw [appendRecord_frame]
@[simp] theorem appendRecord_cu (r : RingRecord) (p : Part) : (appendRecord r p).cu = p.cu := by
  rw [appendRecord_frame]
@[simp] theorem appendRecord_rlu_eq (r : RingRecord) (p : Part) : (appendRecord r p).rlu = p.rlu := by
  rw [appendRecord_frame]
@[simp] theorem appendRecord_cau (r : RingRecord) (p : Part) : (appendRecord r p).cau = p.cau := by
  rw [appendRecord_frame]
@[simp] theorem appendRecord_rtu (r : RingRecord) (p : Part) : (appendRecord r p).rtu = p.rtu := by
  rw [appendRecord_frame]
@[simp] theorem appendRecord_lu (r : RingRecord) (p : Part) : (appendRecord r p).lu = p.lu := by
  rw [appendRecord_frame]
@[simp] theorem appendRecord_cru (r : RingRecord) (p : Part) : (appendRecord r p).cru = p.cru := by
  rw [appendRecord_frame]
@[simp] theorem appendRecord_bpu_port (r : RingRecord) (p : Part) : (appendRecord r p).bpu.port = p.bpu.port := by
  rw [appendRecord_frame]
@[simp] theorem appendRecord_bpu_inFlight (r : RingRecord) (p : Part) : (appendRecord r p).bpu.inFlight = p.bpu.inFlight := by
  rw [appendRecord_frame]
@[simp] theorem appendRecord_bpu_result (r : RingRecord) (p : Part) : (appendRecord r p).bpu.result = p.bpu.result := by
  rw [appendRecord_frame]
@[simp] theorem appendRecord_bpu_load (r : RingRecord) (p : Part) : (appendRecord r p).bpu.load = p.bpu.load := by
  rw [appendRecord_frame]
@[simp] theorem appendRecord_bpu_waiting (r : RingRecord) (p : Part) : (appendRecord r p).bpu.waiting = p.bpu.waiting := by
  rw [appendRecord_frame]

@[simp] theorem clear_tick (k : Condition) (p : Part) : (clear k p).tick = p.tick := by rw [clear_frame]
@[simp] theorem clear_mem (k : Condition) (p : Part) : (clear k p).mem = p.mem := by rw [clear_frame]
@[simp] theorem clear_pins (k : Condition) (p : Part) : (clear k p).pins = p.pins := by rw [clear_frame]
@[simp] theorem clear_cu (k : Condition) (p : Part) : (clear k p).cu = p.cu := by rw [clear_frame]
@[simp] theorem clear_rlu (k : Condition) (p : Part) : (clear k p).rlu = p.rlu := by rw [clear_frame]
@[simp] theorem clear_cau (k : Condition) (p : Part) : (clear k p).cau = p.cau := by rw [clear_frame]
@[simp] theorem clear_lu (k : Condition) (p : Part) : (clear k p).lu = p.lu := by rw [clear_frame]
@[simp] theorem clear_bpu_port (k : Condition) (p : Part) : (clear k p).bpu.port = p.bpu.port := by rw [clear_frame]
@[simp] theorem clear_bpu_inFlight (k : Condition) (p : Part) : (clear k p).bpu.inFlight = p.bpu.inFlight := by rw [clear_frame]
@[simp] theorem clear_bpu_result (k : Condition) (p : Part) : (clear k p).bpu.result = p.bpu.result := by rw [clear_frame]
@[simp] theorem clear_bpu_load (k : Condition) (p : Part) : (clear k p).bpu.load = p.bpu.load := by rw [clear_frame]
@[simp] theorem clear_bpu_waiting (k : Condition) (p : Part) : (clear k p).bpu.waiting = p.bpu.waiting := by rw [clear_frame]
@[simp] theorem clear_cc (k : Condition) (p : Part) : (clear k p).cc = p.cc := by rw [clear_frame]

/-! ## VAULT_CLEARED (R54, R55, R182) -/

theorem vaultClearedCommand_noService {p : Part} (h : p.cru.key ≠ some true) :
    vaultClearedCommand p = resulted .notService p := by
  have hs : serviceMode p = false := by simpa [serviceMode] using h
  rewrite [vaultClearedCommand, hs]
  rfl

theorem vaultClearedCommand_notAllowed {p : Part} (hkey : p.cru.key = some true)
    (h : p.cau.load ≠ .ended ∨ p.cru.doorMark = false ∨ 1 ∈ p.cau.faulted ∨ 4 ∈ p.cau.faulted) :
    vaultClearedCommand p = resulted .notAllowed p := by
  have hs : serviceMode p = true := by simp [serviceMode, hkey]
  unfold vaultClearedCommand
  rewrite [if_neg (by simp [hs])]
  split
  · rfl
  · next hload =>
    split
    · rfl
    · next hmark =>
      rw [if_pos]
      · rfl
      · have h := (h.resolve_left hload).resolve_left (by simpa using hmark)
        simpa using h

theorem vaultClearedCommand_taken {p : Part} (hkey : p.cru.key = some true) (hload : p.cau.load = .ended)
    (hmark : p.cru.doorMark = true) (hmoney : 1 ∉ p.cau.faulted) (hlast : 4 ∉ p.cau.faulted) :
    vaultClearedCommand p = clearVault p := by
  simp [vaultClearedCommand, serviceMode, hkey, hload, hmark, hmoney, hlast]

/-- The account with the clearance booked, before the vault's conditions are cleared (R54). -/
def clearanceBooked (p : Part) : Part :=
  zeroVault (appendRecord (.collection (clearanceNow p)) (shiftCollections (clearanceNow p) p))

theorem clearVault_eq (p : Part) :
    clearVault p = awaitClearance (clear .vaultFull (clear .vaultNearFull (clearanceBooked p))) := rfl

/-- What the bookings of a clearance make of the account. -/
theorem clearanceBooked_account (p : Part) :
    (clearanceBooked p).cau.last = { latest := clearanceNow p, previous := p.cau.last.latest }
      ∧ (clearanceBooked p).cau.money = { p.cau.money with vaultValue := 0, vaultCount := 0 }
      ∧ (clearanceBooked p).cau.types = { p.cau.types with vault := List.replicate 8 0 }
      ∧ (clearanceBooked p).cau.calls = p.cau.calls ∧ (clearanceBooked p).cau.header = p.cau.header
      ∧ (clearanceBooked p).cau.vc = p.cau.vc := by
  simp [clearanceBooked, zeroVault, shiftCollections]

/-- What the bookings of a clearance leave alone, but the ring that the record joins. -/
theorem clearanceBooked_rest (p : Part) :
    (clearanceBooked p).cru = p.cru ∧ (clearanceBooked p).rlu = p.rlu ∧ (clearanceBooked p).cu = p.cu
      ∧ (clearanceBooked p).rtu = p.rtu ∧ (clearanceBooked p).lu = p.lu ∧ (clearanceBooked p).mem = p.mem
      ∧ (clearanceBooked p).tick = p.tick ∧ (clearanceBooked p).bpu.result = p.bpu.result
      ∧ (clearanceBooked p).bpu.inFlight = p.bpu.inFlight
      ∧ (clearanceBooked p).cc = (appendRecord (.collection (clearanceNow p)) p).cc := by
  have hcc : (appendRecord (.collection (clearanceNow p)) (shiftCollections (clearanceNow p) p)).cc
      = (appendRecord (.collection (clearanceNow p)) p).cc := appendRecord_cc_congr (by simp [shiftCollections]) _
  simp only [clearanceBooked, zeroVault, bookTypes_cc, bookMoney_cc, hcc, and_true]
  simp [shiftCollections]

/-- The slots of MONEY and LAST COLLECTION are marked by the clearance. -/
theorem clearanceBooked_marks {p : Part} (hmoney : 1 ∉ p.cau.faulted) (hlast : 4 ∉ p.cau.faulted) :
    Group.account (slotOf 1 p) ∈ (clearanceBooked p).bpu.dirty
      ∧ Group.account (slotOf 4 p) ∈ (clearanceBooked p).bpu.dirty := by
  let shifted := shiftCollections (clearanceNow p) p
  let appended := appendRecord (.collection (clearanceNow p)) shifted
  have hcau : appended.cau = shifted.cau := by dsimp only [appended]; rw [appendRecord_frame]
  have hheader : appended.cau.header = p.cau.header := by simp [hcau, shifted, shiftCollections]
  have hfaulted : appended.cau.faulted = p.cau.faulted := by simp [hcau, shifted, shiftCollections]
  constructor
  · refine (bookTypes_publishes _ _).dirty _ ?_
    have hslot := slotOf_congr hheader 1
    rewrite [← hslot]
    exact markRecord_marks (p := { appended with
      cau.money := { appended.cau.money with vaultValue := 0, vaultCount := 0 } }) (by rewrite [← hfaulted] at hmoney; exact hmoney)
  · refine (bookTypes_publishes _ _).dirty _ ((bookMoney_publishes _ _).dirty _ ((appendRecord_publishes _ _).dirty _ ?_))
    exact markRecord_marks (p := { p with cau.last := { latest := clearanceNow p, previous := p.cau.last.latest } }) hlast

/-- A row that a clear of its kind has left is clear. -/
theorem isActive_clear_same {k : Condition} {p : Part} (hlen : p.cru.rows.length = 14) : isActive k (clear k p) = false := by
  rw [isActive, rowOf_clear_same hlen]

/-- Settles O36, from the bookings of the clearance and the frame of a clear. -/
theorem vaultClearedClears : Obligations.VaultClearedClears := by
  unfold Obligations.VaultClearedClears
  intro b s hready hfree p now
  have htaken : exec .vaultCleared s = .next { s with part := vaultClearedCommand p } :=
    onPart_commandWrite hready hfree 6
  refine ⟨fun h => ?_, fun hkey h => ?_, fun hkey hload hmark hmoney hlast hlen => ?_⟩
  · rw [htaken, vaultClearedCommand_noService (p := p) h]
  · rw [htaken, vaultClearedCommand_notAllowed (p := p) hkey h]
  · rewrite [htaken, vaultClearedCommand_taken (p := p) hkey hload hmark hmoney hlast, clearVault_eq]
    obtain ⟨hlatest, hvault, htypes, hcalls, hheader, hvc⟩ := clearanceBooked_account p
    obtain ⟨hcru, hrlu, hcu, hrtu, hlu, hmem, htick, hresult, hflight, hcc⟩ := clearanceBooked_rest p
    obtain ⟨hmark1, hmark4⟩ := clearanceBooked_marks (p := p) hmoney hlast
    generalize clearanceBooked p = q at *
    have hlen' : q.cru.rows.length = 14 := by rewrite [hcru]; exact hlen
    have hlen'' : (clear .vaultNearFull q).cru.rows.length = 14 := (clear_rows_length _ _).trans hlen'
    have hpub : Publishes q (clear .vaultFull (clear .vaultNearFull q)) :=
      (clear_publishes _ _).trans (clear_publishes _ _)
    have hnear : isActive .vaultNearFull (clear .vaultFull (clear .vaultNearFull q)) = false := by
      rewrite [isActive, rowOf_clear_ne (by decide)]
      exact isActive_clear_same hlen'
    refine ⟨_, rfl, ?_, ?_, ?_, ?_, rfl, hnear, isActive_clear_same hlen'', fun k hnear hfull => ?_, ?_,
      hpub.dirty _ hmark1, hpub.dirty _ hmark4, ?_, ?_, ?_, ?_, ?_, ?_, ?_, ?_, ?_, ?_⟩
    case refine_5 =>
      show rowOf k (clear .vaultFull (clear .vaultNearFull q)) = _
      rewrite [rowOf_clear_ne hfull, rowOf_clear_ne hnear, rowOf, hcru]
      rfl
    all_goals simp only [awaitClearance, clear_cau, clear_cc, clear_bpu_result, clear_bpu_inFlight, clear_rlu, clear_cu,
      clear_rtu, clear_lu, clear_mem, clear_tick, *]
    all_goals rfl

end Sys2Proof.Machine
end

section
/-!
PROOFS. The gate's refunds with no charge to serve, and CLEAR_CONDITION (O37).
-/

namespace Sys2Proof.Machine

/-! ## What the rail's operations publish -/

set_option Elab.async false in
theorem examineCredit_publishes (p : Part) : Publishes p (examineCredit p) := by
  unfold examineCredit
  split
  · exact .refl p
  · split
    · split
      · exact .refl p
      · exact .ofLast (setCause_publishes .lowCredit _) (.after (markS_publishes 1 _) rfl)
    · split
      · exact .after (markS_publishes 1 _) rfl
      · exact .refl p

theorem reexamineCredit_publishes (p : Part) : Publishes p (reexamineCredit p) := by
  unfold reexamineCredit
  split
  · exact examineCredit_publishes p
  · exact .refl p

theorem creditFollows_publishes (before : Nat) (p : Part) : Publishes p (creditFollows before p) := by
  unfold creditFollows
  refine .ofLast (reexamineCredit_publishes _) ?_
  split
  · exact .refl p
  · exact markS_publishes 2 p

/-- A change to the rail publishes S1 and CREDIT, and what the change itself publishes (R19). -/
theorem railChange_publishes {f : Part → Part} {p : Part} (h : Publishes p (f p)) : Publishes p (railChange f p) :=
  .ofLast (creditFollows_publishes _ _) (.ofLast (setCause_publishes .credit _) (.ofLast (markS_publishes 1 _) h))

theorem railChange_marks_S1 (f : Part → Part) (p : Part) : Group.status 1 ∈ (railChange f p).bpu.dirty :=
  (Publishes.ofLast (creditFollows_publishes _ _) (setCause_publishes .credit _)).marked

/-! ## The gate with no charge to serve (R31) -/

/-- Everything but the rail, and what is published of it, is as before. -/
structure RailAlone (p q : Part) : Prop where
  tick : q.tick = p.tick
  mem : q.mem = p.mem
  pins : q.pins = p.pins
  cu : q.cu = p.cu
  cau : q.cau = p.cau
  rtu : q.rtu = p.rtu
  lu : q.lu = p.lu
  cru : q.cru = p.cru
  result : q.bpu.result = p.bpu.result
  inFlight : q.bpu.inFlight = p.bpu.inFlight
  publishes : Publishes p q

theorem RailAlone.of_rlu {p q : Part} (h : q = { p with rlu := q.rlu }) : RailAlone p q := by
  rewrite [h]
  exact ⟨rfl, rfl, rfl, rfl, rfl, rfl, rfl, rfl, rfl, rfl, .of_bpu rfl⟩

theorem RailAlone.refl (p : Part) : RailAlone p p := .of_rlu rfl

theorem RailAlone.trans {p q r : Part} (h : RailAlone p q) (k : RailAlone q r) : RailAlone p r :=
  ⟨k.tick.trans h.tick, k.mem.trans h.mem, k.pins.trans h.pins, k.cu.trans h.cu, k.cau.trans h.cau, k.rtu.trans h.rtu,
    k.lu.trans h.lu, k.cru.trans h.cru, k.result.trans h.result, k.inFlight.trans h.inFlight,
    h.publishes.trans k.publishes⟩

/-- A change to the rail alone stays one with its publication. -/
theorem railChange_alone {f : Part → Part} {p : Part} (h : RailAlone p (f p)) : RailAlone p (railChange f p) :=
  ⟨(railChange_tick f p).trans h.tick, (railChange_mem f p).trans h.mem, (railChange_pins f p).trans h.pins,
    (railChange_cu f p).trans h.cu, (railChange_cau f p).trans h.cau, (railChange_rtu f p).trans h.rtu,
    (railChange_lu f p).trans h.lu, (railChange_cru f p).trans h.cru, (railChange_bpu_result f p).trans h.result,
    (railChange_bpu_inFlight f p).trans h.inFlight, railChange_publishes h.publishes⟩

theorem beginCycle_alone (g : GateState) (p : Part) : RailAlone p (beginCycle g p) := railChange_alone (.of_rlu rfl)

theorem beginCycle_rlu (g : GateState) (p : Part) :
    (beginCycle g p).rlu = { p.rlu with gate := g, cycle := some (newTimer 400 p) } := by simp [beginCycle]

/-- With no charge to serve, a turn of the gate touches the rail alone and leaves no charge. -/
theorem gateTurn_alone {p : Part} (h : p.rlu.charge = none) :
    RailAlone p (gateTurn p).1 ∧ (gateTurn p).1.rlu.charge = none := by
  unfold gateTurn
  split
  · exact ⟨.refl p, h⟩
  · cases p.rlu.gate with
    | vaulting => exact ⟨.refl p, h⟩
    | refunding => exact ⟨.refl p, h⟩
    | fault =>
      rewrite [h]
      exact ⟨.refl p, h⟩
    | hold =>
      rewrite [h]
      cases p.rlu.refund with
      | none =>
        dsimp only
        split
        · exact ⟨.of_rlu rfl, h⟩
        · exact ⟨.refl p, h⟩
      | some n =>
        cases n with
        | zero => exact ⟨.of_rlu rfl, h⟩
        | succ n => exact ⟨beginCycle_alone _ p, by rewrite [beginCycle_rlu]; exact h⟩

theorem gateTurns_alone (n : Nat) {p : Part} (h : p.rlu.charge = none) : RailAlone p (gateTurns n p) := by
  induction n generalizing p with
  | zero => exact .refl p
  | succ n ih =>
    obtain ⟨hturn, hcharge⟩ := gateTurn_alone h
    rewrite [gateTurns_succ]
    split
    · exact hturn.trans (ih hcharge)
    · exact hturn

/-- With no charge to serve, the gate's work touches the rail alone. -/
theorem gateWork_alone {p : Part} (h : p.rlu.charge = none) : RailAlone p (gateWork p) := gateTurns_alone _ h

/-- At HOLD with no charge, a refund that is owed coins begins its next cycle. -/
theorem gateTurn_refund {p : Part} {n : Nat} (hd : p.rlu.dump = .ended) (hg : p.rlu.gate = .hold)
    (hc : p.rlu.charge = none) (hr : p.rlu.refund = some (n + 1)) : gateTurn p = (beginCycle .refunding p, false) := by
  unfold gateTurn
  rw [if_neg (not_not.2 hd), hg, hc, hr]

/-- At HOLD with no charge and no refund, a pending refund begins. -/
theorem gateTurn_pending {p : Part} (hd : p.rlu.dump = .ended) (hg : p.rlu.gate = .hold) (hc : p.rlu.charge = none)
    (hr : p.rlu.refund = none) (hp : p.rlu.pendingRefund = true) : gateTurn p = (beginRefund p, true) := by
  unfold gateTurn
  rewrite [if_neg (not_not.2 hd), hg, hc, hr]
  exact if_pos hp

/-- A stopped refund runs on (R26). -/
theorem gateWork_refund {p : Part} {n : Nat} (hd : p.rlu.dump = .ended) (hg : p.rlu.gate = .hold)
    (hc : p.rlu.charge = none) (hr : p.rlu.refund = some (n + 1)) : gateWork p = beginCycle .refunding p :=
  gateTurns_last (gateTurn_refund hd hg hc hr)

/-- A pending refund of coins on the rail begins with its first cycle (R31). -/
theorem gateWork_pending {p : Part} (hd : p.rlu.dump = .ended) (hg : p.rlu.gate = .hold) (hc : p.rlu.charge = none)
    (hr : p.rlu.refund = none) (hp : p.rlu.pendingRefund = true) (hrail : p.rlu.rail ≠ []) :
    gateWork p = beginCycle .refunding (beginRefund p) := by
  obtain ⟨n, hn⟩ := Nat.exists_eq_succ_of_ne_zero (List.length_eq_zero_iff.not.2 hrail)
  rewrite [gateWork_turns, gateTurns_more (gateTurn_pending hd hg hc hr hp)]
  exact gateTurns_last (gateTurn_refund (p := beginRefund p) hd hg hc (congrArg some hn))

/-! ## Clearing a jam (R26) -/

theorem chuteLodged_iff (shown : ChuteReadings) (p : Part) : chuteLodged (senseChutes shown p) = true ↔
    ∃ held, (shown.vault = some held ∨ shown.ret = some held) ∧ 1000 ≤ held := by
  have hlong : ∀ o : Option Nat, blockedLong o.isSome (holdOf o) = true ↔ ∃ held, o = some held ∧ 1000 ≤ held := by
    intro o
    cases o <;> simp [blockedLong, holdOf, Sampler.begin]
  rewrite [chuteLodged, Bool.or_eq_true]
  refine (or_congr (hlong shown.vault) (hlong shown.ret)).trans ⟨?_, ?_⟩
  · rintro (⟨held, h, hle⟩ | ⟨held, h, hle⟩)
    · exact ⟨held, .inl h, hle⟩
    · exact ⟨held, .inr h, hle⟩
  · rintro ⟨held, h | h, hle⟩
    · exact .inl ⟨held, h, hle⟩
    · exact .inr ⟨held, h, hle⟩

theorem clearJam_hold {p : Part} (h : p.rlu.gate = .hold) : clearJam p = complete .done (clear .coinJam p) := by
  simp [clearJam, h]

theorem clearJam_cycle {p : Part} (h : p.rlu.gate = .vaulting ∨ p.rlu.gate = .refunding) :
    clearJam p = { clear .coinJam p with rlu.clearWaits := true } := by
  obtain h | h := h <;> simp [clearJam, h]

/-- The part after a jam is cleared in FAULT, before the gate's work goes on. -/
def jamLifted (p : Part) : Part :=
  complete .done (railChange (fun p => { p with rlu.gate := .hold }) (clear .coinJam p))

theorem clearJam_fault {p : Part} (h : p.rlu.gate = .fault) : clearJam p = gateWork (jamLifted p) := by
  simp [clearJam, h, jamLifted]

theorem jamLifted_facts (p : Part) :
    (jamLifted p).rlu = { p.rlu with gate := .hold } ∧ (jamLifted p).cru = (clear .coinJam p).cru
      ∧ (jamLifted p).bpu.result = .done ∧ (jamLifted p).cau = p.cau ∧ (jamLifted p).cu = p.cu
      ∧ (jamLifted p).lu = p.lu ∧ (jamLifted p).rtu = p.rtu ∧ (jamLifted p).mem = p.mem ∧ (jamLifted p).tick = p.tick := by
  simp [jamLifted, complete, clear_rtu]

theorem jamLifted_marks (p : Part) :
    Group.status 1 ∈ (jamLifted p).bpu.dirty ∧ Group.result ∈ (jamLifted p).bpu.dirty := by
  simp only [jamLifted, complete, mark_bpu_dirty]
  exact ⟨mem_insertGroup_of_mem (railChange_marks_S1 _ _), mem_insertGroup_self _ _⟩

/-! ## Clearing the account's faults (R52) -/

/-- Marking the slots of several records. -/
def markRecords (records : List Nat) (p : Part) : Part := records.foldl (fun p n => markRecord n p) p

/-- What no mark of a record changes, the marks of several leave as it was. -/
theorem markRecords_keeps {α : Type} {view : Part → α} (h : ∀ n p, view (markRecord n p) = view p) (records : List Nat)
    (p : Part) : view (markRecords records p) = view p := by
  induction records generalizing p with
  | nil => rfl
  | cons n ns ih => exact (ih _).trans (h n p)

theorem markRecords_publishes (records : List Nat) (p : Part) : Publishes p (markRecords records p) := by
  induction records generalizing p with
  | nil => exact .refl p
  | cons n ns ih => exact (markRecord_publishes n p).trans (ih _)

theorem markRecords_marks {records : List Nat} {p : Part} (h : p.cau.faulted = []) :
    ∀ n ∈ records, Group.account (slotOf n p) ∈ (markRecords records p).bpu.dirty := by
  induction records generalizing p with
  | nil => simp
  | cons m ms ih =>
    intro n hn
    obtain rfl | hn := List.mem_cons.1 hn
    · exact (markRecords_publishes ms _).dirty _ (markRecord_marks (by simp [h]))
    · rewrite [← slotOf_congr (markRecord_cau_header m p) n]
      exact ih (p := markRecord m p) (by simpa using h) n hn

theorem deriveRestriction_cru (p : Part) :
    (deriveRestriction p).cru = { p.cru with restriction := derivedRestriction p } := by
  unfold deriveRestriction
  split
  · next h => rw [h]
  · simp

/-- What a clear makes of the CRU rests on the CRU alone. -/
theorem clear_cru_congr {p q : Part} (h : q.cru = p.cru) (k : Condition) : (clear k q).cru = (clear k p).cru := by
  have hrow : rowOf k q = rowOf k p := by simp [rowOf, h]
  have hderived : derivedRestriction (setRow k { rowOf k q with active := false } q)
      = derivedRestriction (setRow k { rowOf k p with active := false } p) :=
    derivedRestriction_congr (by simp [h, hrow]) (by simp [h])
  unfold clear
  rewrite [isActive, hrow, ← isActive]
  split
  · rewrite [setCause_cru, markS_cru, deriveRestriction_cru, setCause_cru, markS_cru, deriveRestriction_cru, ← hrow,
      hderived]
    simp [setRow, h, hrow]
  · exact h

/-- The part with the faulted set emptied and its records marked, before ACCOUNT_FAULT is cleared. -/
def faultsMarked (p : Part) : Part :=
  markRecords p.cau.faulted (markS 4 { p with cau.faulted := [], cau.clearing := p.cau.faulted })

theorem clearAccountFault_eq (p : Part) : clearAccountFault p =
    if p.cau.faulted = [] then complete .done (clear .accountFault (faultsMarked p))
    else clear .accountFault (faultsMarked p) := rfl

/-- What no mark of a record changes is in `faultsMarked` as the emptied faulted set left it. -/
theorem faultsMarked_keeps {α : Type} {view : Part → α} (h : ∀ n p, view (markRecord n p) = view p) (p : Part) :
    view (faultsMarked p) = view (markS 4 { p with cau.faulted := [], cau.clearing := p.cau.faulted }) :=
  markRecords_keeps h _ _

theorem faultsMarked_account (p : Part) :
    (faultsMarked p).cau.faulted = [] ∧ (faultsMarked p).cau.clearing = p.cau.faulted
      ∧ (faultsMarked p).cau.header = p.cau.header ∧ (faultsMarked p).cau.strikes = p.cau.strikes
      ∧ (faultsMarked p).cau.mismatches = p.cau.mismatches ∧ (faultsMarked p).cau.money = p.cau.money
      ∧ (faultsMarked p).cau.types = p.cau.types ∧ (faultsMarked p).cau.calls = p.cau.calls
      ∧ (faultsMarked p).cau.last = p.cau.last :=
  ⟨faultsMarked_keeps (view := (·.cau.faulted)) markRecord_cau_faulted p,
    faultsMarked_keeps (view := (·.cau.clearing)) markRecord_cau_clearing p,
    faultsMarked_keeps (view := (·.cau.header)) markRecord_cau_header p,
    faultsMarked_keeps (view := (·.cau.strikes)) markRecord_cau_strikes p,
    faultsMarked_keeps (view := (·.cau.mismatches)) markRecord_cau_mismatches p,
    faultsMarked_keeps (view := (·.cau.money)) markRecord_cau_money p,
    faultsMarked_keeps (view := (·.cau.types)) markRecord_cau_types p,
    faultsMarked_keeps (view := (·.cau.calls)) markRecord_cau_calls p,
    faultsMarked_keeps (view := (·.cau.last)) markRecord_cau_last p⟩

theorem faultsMarked_rest (p : Part) :
    (faultsMarked p).cru = p.cru ∧ (faultsMarked p).bpu.inFlight = p.bpu.inFlight
      ∧ (faultsMarked p).bpu.result = p.bpu.result ∧ (faultsMarked p).rlu = p.rlu ∧ (faultsMarked p).cu = p.cu
      ∧ (faultsMarked p).lu = p.lu ∧ (faultsMarked p).rtu = p.rtu ∧ (faultsMarked p).mem = p.mem :=
  ⟨faultsMarked_keeps (view := (·.cru)) markRecord_cru p,
    faultsMarked_keeps (view := (·.bpu.inFlight)) markRecord_bpu_inFlight p,
    faultsMarked_keeps (view := (·.bpu.result)) markRecord_bpu_result p,
    faultsMarked_keeps (view := (·.rlu)) markRecord_rlu p, faultsMarked_keeps (view := (·.cu)) markRecord_cu p,
    faultsMarked_keeps (view := (·.lu)) markRecord_lu p, faultsMarked_keeps (view := (·.rtu)) markRecord_rtu p,
    faultsMarked_keeps (view := (·.mem)) markRecord_mem p⟩

theorem faultsMarked_marks (p : Part) : Group.status 4 ∈ (faultsMarked p).bpu.dirty
    ∧ ∀ n ∈ p.cau.faulted, Group.account (slotOf n p) ∈ (faultsMarked p).bpu.dirty :=
  ⟨(markRecords_publishes _ _).marked, fun n hn => markRecords_marks
    (p := markS 4 { p with cau.faulted := [], cau.clearing := p.cau.faulted }) rfl n hn⟩

/-! ## The judgement of CLEAR_CONDITION (R158, R183) -/

theorem conditionOf_none {n : Nat} (h : n = 0 ∨ 14 < n) : conditionOf n = none := by
  obtain rfl | h := h
  · rfl
  · obtain ⟨m, rfl⟩ := Nat.exists_eq_add_of_le' h
    rfl

theorem clearConditionCommand_selfClearing {p : Part} {k : Condition} (hk : k.code = p.bpu.arg1.toNat)
    (hself : k.serviceCleared = false) : clearConditionCommand p =
      resulted (if isActive k p then .causePresent else .done) p := by
  rewrite [clearConditionCommand, ← hk, conditionOf_code]
  simp only [hself, Bool.false_eq_true, if_false]
  split <;> rfl

theorem clearConditionCommand_noService {p : Part} {k : Condition} (hk : k.code = p.bpu.arg1.toNat)
    (hserved : k.serviceCleared = true) (hkey : p.cru.key ≠ some true) :
    clearConditionCommand p = resulted .notService p := by
  have hs : serviceMode p = false := by simpa [serviceMode] using hkey
  rewrite [clearConditionCommand, ← hk, conditionOf_code]
  simp only [hserved, hs, if_true, Bool.false_eq_true, if_false]
  rfl

theorem clearConditionCommand_served {p : Part} {k : Condition} (hk : p.bpu.arg1.toNat = k.code)
    (hserved : k.serviceCleared = true) (hkey : p.cru.key = some true) : clearConditionCommand p = clearServiced k p := by
  have hs : serviceMode p = true := by simp [serviceMode, hkey]
  rewrite [clearConditionCommand, hk, conditionOf_code]
  simp only [hserved, hs, if_true]

/-- Settles O37, kind by kind, from the work of each kind's owner. -/
theorem clearConditionActs : Obligations.ClearConditionActs := by
  unfold Obligations.ClearConditionActs
  intro b s shown hready hfree p code
  have htaken : exec (.clearCondition shown) s = .next { s with part := clearConditionCommand p } := by
    show onPart (fun p => commandWrite 7 (senseChutes shown p)) s = _
    rewrite [onPart, commandWrite_taken (p := senseChutes shown s.part) hready hfree]
    rfl
  have hserved : ∀ {k : Condition}, code = k.code → k.serviceCleared = true → s.part.cru.key = some true →
      exec (.clearCondition shown) s = .next { s with part := clearServiced k p } := fun hk hc hkey => by
    rw [htaken, clearConditionCommand_served (p := p) hk hc hkey]
  have hlodged : chuteLodged p = true ↔ ∃ held, (shown.vault = some held ∨ shown.ret = some held) ∧ 1000 ≤ held :=
    chuteLodged_iff shown s.part
  have hfreeChutes : (∀ held, shown.vault = some held ∨ shown.ret = some held → held < 1000) →
      clearServiced .coinJam p = clearJam p := fun h => by
    have hno : ¬ chuteLodged p = true := by
      rewrite [hlodged]
      rintro ⟨held, hshown, hle⟩
      exact absurd (h held hshown) (Nat.not_lt.2 hle)
    exact if_neg hno
  refine ⟨fun h => ?_, fun k hk hself => ?_, fun k hk hc hkey => ?_, fun hk hkey => hserved (k := .accountTamper) hk rfl hkey,
    fun hk hkey hdoor => ?_, fun hk hkey hdoor => ?_, fun hk hkey hheld => ?_, fun hk hkey hheld hfault hrest => ?_,
    fun hk hkey hheld => ⟨fun hhold => ?_, fun hcycle => ?_, fun hfault hdump hcharge => ?_⟩,
    fun hk hkey => ⟨fun hload => ?_, fun hload => ?_⟩⟩
  · rewrite [htaken, clearConditionCommand, show p.bpu.arg1.toNat = code from rfl, conditionOf_none h]
    rfl
  · rewrite [htaken, clearConditionCommand_selfClearing (p := p) hk hself]
    rfl
  · rw [htaken, clearConditionCommand_noService (p := p) hk hc hkey]
  · rewrite [hserved (k := .vaultForced) hk rfl hkey, clearServiced, if_pos (by exact hdoor)]
    rfl
  · rewrite [hserved (k := .vaultForced) hk rfl hkey, clearServiced, if_neg (by exact hdoor)]
    rfl
  · rewrite [hserved (k := .coinJam) hk rfl hkey, clearServiced, if_pos (hlodged.2 hheld)]
    rfl
  · rewrite [hserved (k := .coinJam) hk rfl hkey, hfreeChutes hheld, clearJam_fault (p := p) hfault]
    obtain ⟨hrlu, hcru, hresult, hcau, hcu, hlu, hrtu, hmem, -⟩ := jamLifted_facts p
    obtain ⟨hmark1, hmarkr⟩ := jamLifted_marks p
    rewrite [gateWork_rest (by rewrite [gateRests, hrlu]; exact hrest)]
    exact ⟨_, rfl, hrlu, congrArg Cru.rows hcru, hresult, hmark1, hmarkr, hcau, hcu, hlu, hrtu, hmem⟩
  · rewrite [hserved (k := .coinJam) hk rfl hkey, hfreeChutes hheld, clearJam_hold (p := p) hhold]
    rfl
  · rw [hserved (k := .coinJam) hk rfl hkey, hfreeChutes hheld, clearJam_cycle (p := p) hcycle]
  · rewrite [hserved (k := .coinJam) hk rfl hkey, hfreeChutes hheld, clearJam_fault (p := p) hfault]
    obtain ⟨hrlu, hcru, hresult, hcau, hcu, hlu, hrtu, hmem, htick⟩ := jamLifted_facts p
    have hcharge' : (jamLifted p).rlu.charge = none := by rewrite [hrlu]; exact hcharge
    have hdump' : (jamLifted p).rlu.dump = .ended := by rewrite [hrlu]; exact hdump
    have hgate : (jamLifted p).rlu.gate = .hold := by rw [hrlu]
    have halone := gateWork_alone hcharge'
    intro cycle
    refine ⟨_, rfl, (congrArg Cru.rows halone.cru).trans (congrArg Cru.rows hcru), halone.result.trans hresult,
      halone.cau.trans hcau, halone.cu.trans hcu, halone.mem.trans hmem, fun n hn => ?_, fun hnone hpend hrail => ?_⟩
    · show (gateWork (jamLifted p)).rlu = _
      rewrite [gateWork_refund hdump' hgate hcharge' (n := n) (by rewrite [hrlu]; exact hn), beginCycle_rlu, hrlu, newTimer, htick]
      rfl
    · show (gateWork (jamLifted p)).rlu = _
      rewrite [gateWork_pending hdump' hgate hcharge' (by rewrite [hrlu]; exact hnone) (by rewrite [hrlu]; exact hpend)
        (by rewrite [hrlu]; exact hrail), beginCycle_rlu, beginRefund, newTimer, htick, hrlu]
      rfl
  · rewrite [hserved (k := .accountFault) hk rfl hkey, clearServiced, if_neg (by exact hload)]
    rfl
  · obtain ⟨hfaulted, hclearing, hheader, hstrikes, hmis, hmoney, htypes, hcalls, hlast⟩ := faultsMarked_account p
    obtain ⟨hcru, hflight, hresult, hrlu, hcu, hlu, hrtu, hmem⟩ := faultsMarked_rest p
    obtain ⟨hmark4, hmarks⟩ := faultsMarked_marks p
    have hclear := clear_cru_congr hcru .accountFault
    have hcau := clear_cau .accountFault (faultsMarked p)
    have hpub := clear_publishes .accountFault (faultsMarked p)
    have hinFlight := (clear_bpu_inFlight .accountFault (faultsMarked p)).trans hflight
    have hpending := (clear_bpu_result .accountFault (faultsMarked p)).trans hresult
    have hkept : ∀ u : Part, u.cau = (clear .accountFault (faultsMarked p)).cau →
        u.cau.header = s.part.cau.header ∧ u.cau.strikes = s.part.cau.strikes ∧ u.cau.mismatches = s.part.cau.mismatches
          ∧ u.cau.money = s.part.cau.money ∧ u.cau.types = s.part.cau.types ∧ u.cau.calls = s.part.cau.calls
          ∧ u.cau.last = s.part.cau.last := fun u hu => by
      rewrite [hu, hcau, hheader, hstrikes, hmis, hmoney, htypes, hcalls, hlast]
      exact ⟨rfl, rfl, rfl, rfl, rfl, rfl, rfl⟩
    have hunits : (clear .accountFault (faultsMarked p)).rlu = s.part.rlu
        ∧ (clear .accountFault (faultsMarked p)).cu = s.part.cu ∧ (clear .accountFault (faultsMarked p)).lu = s.part.lu
        ∧ (clear .accountFault (faultsMarked p)).rtu = s.part.rtu ∧ (clear .accountFault (faultsMarked p)).mem = p.mem :=
      ⟨(clear_rlu _ _).trans hrlu, (clear_cu _ _).trans hcu, (clear_lu _ _).trans hlu, (clear_rtu _ _).trans hrtu,
        (clear_mem _ _).trans hmem⟩
    rewrite [hserved (k := .accountFault) hk rfl hkey, clearServiced, if_pos (by exact hload), clearAccountFault_eq]
    by_cases hnone : s.part.cau.faulted = []
    · rewrite [if_pos (show p.cau.faulted = [] from hnone), if_pos hnone]
      obtain ⟨h1, h2, h3, h4, h5, h6, h7⟩ := hkept (complete .done (clear .accountFault (faultsMarked p))) rfl
      exact ⟨_, rfl, (congrArg Cau.faulted hcau).trans hfaulted, (congrArg Cau.clearing hcau).trans hclearing,
        fun n hn => by simp [hnone] at hn, (Publishes.ofLast (mark_publishes _ _) hpub).dirty _ hmark4, hclear,
        hinFlight, rfl, h1, h2, h3, h4, h5, h6, h7, hunits⟩
    · rewrite [if_neg (show ¬ p.cau.faulted = [] from hnone), if_neg hnone]
      obtain ⟨h1, h2, h3, h4, h5, h6, h7⟩ := hkept _ rfl
      exact ⟨_, rfl, (congrArg Cau.faulted hcau).trans hfaulted, (congrArg Cau.clearing hcau).trans hclearing,
        fun n hn => hpub.dirty _ (hmarks n hn), hpub.dirty _ hmark4, hclear, hinFlight, hpending, h1, h2, h3, h4, h5, h6,
        h7, hunits⟩

end Sys2Proof.Machine
end

section
/-!
PROOFS. Scans and the rate cache: the reads of a scan and its verdict (O44), the ages of the cache and what a result
carries (O29).
-/

namespace Sys2Proof.Machine

/-! ## The reads of a scan (R76, R77) -/

set_option Elab.async false in
theorem exec_scanHeaderRead {s : State} (h : readAtPort .scanHeader s.part) (count check : Word) :
    exec (.scanHeaderRead count check) s = .next { s with part := takeHeader count check (freePort s.part) } := by
  show onPart (readDone (headerReader count check)) s = _
  rw [onPart, readDone_read h (f := takeHeader count check) (fun _ => rfl) (takeHeader_outer _ _ _)]

theorem exec_scanEntryRead {s : State} {i : Nat} {words : List Word} (h : readAtPort (.scanEntry i) s.part)
    (hlen : words.length = 8) :
    exec (.scanEntryRead words) s = .next { s with part := takeEntry i words (freePort s.part) } := by
  show onPart (readDone (entryReader words)) s = _
  rw [onPart, readDone_read h (f := takeEntry i words) (fun _ => ?_) (takeEntry_outer _ _ _)]
  rw [entryReader, fit_of_length hlen]

theorem takeHeader_begins {p : Part} {count : Word} (check : Word) (hengine : p.rtu.engine ≠ .idle)
    (h1 : 1 ≤ count.toNat) (h200 : count.toNat ≤ 200) :
    takeHeader count check p = requestRead (.scanEntry 0) { p with
      rtu.scan := { count := count.toNat, check, sum := count, best := none, outOfRange := none } } := by
  have hin : ¬(count.toNat = 0 ∨ 200 < count.toNat) := by omega
  unfold takeHeader
  split
  · exact absurd ‹_› hengine
  all_goals exact if_neg hin

theorem takeHeader_refused {p : Part} {count : Word} (check : Word) (hengine : p.rtu.engine ≠ .idle)
    (h : count.toNat = 0 ∨ 200 < count.toNat) : takeHeader count check p = completeScan (some 1) p := by
  unfold takeHeader
  split
  · exact absurd ‹_› hengine
  all_goals exact if_pos h

theorem takeEntry_more {i : Nat} {words : List Word} {p : Part} (hengine : p.rtu.engine ≠ .idle)
    (h : i + 1 < p.rtu.scan.count) : takeEntry i words p = requestRead (.scanEntry (i + 1)) { p with
      rtu.scan := scanAfter p.rtu.engine i words p.rtu.scan } := by
  unfold takeEntry
  split
  · exact absurd ‹_› hengine
  all_goals exact if_pos h

theorem takeEntry_last {i : Nat} {words : List Word} {p : Part} (hengine : p.rtu.engine ≠ .idle)
    (h : i + 1 = p.rtu.scan.count) : takeEntry i words p =
      completeScan (verdictOf (scanAfter p.rtu.engine i words p.rtu.scan)) { p with
        rtu.scan := scanAfter p.rtu.engine i words p.rtu.scan } := by
  have hlast : ¬ i + 1 < p.rtu.scan.count := by omega
  unfold takeEntry
  split
  · exact absurd ‹_› hengine
  all_goals exact if_neg hlast

/-! ## The verdict (R77, R80) -/

theorem scanAfter_outOfRange (engine : Engine) (i : Nat) (words : List Word) (scan : Scan) :
    (scanAfter engine i words scan).outOfRange =
      if scan.outOfRange = none ∧ entryInRange (entryOf words) = false then some i else scan.outOfRange := by
  unfold scanAfter
  cases scan.outOfRange with
  | none => cases h : entryInRange (entryOf words) <;> simp [h]
  | some j => simp

theorem verdictOf_right {scan : Scan} (h : scan.check = ~~~scan.sum) :
    verdictOf scan = scan.outOfRange.map (100 + ·) := by
  unfold verdictOf
  rewrite [if_neg (not_not.2 h)]
  cases scan.outOfRange <;> rfl

theorem verdictOf_wrong {engine : Engine} {i : Nat} {words : List Word} {scan : Scan}
    (h : scan.check ≠ ~~~(scan.sum + sumWords words)) : verdictOf (scanAfter engine i words scan) = some 2 := if_pos h

theorem verdictOf_good {engine : Engine} {i : Nat} {words : List Word} {scan : Scan}
    (h : scan.check = ~~~(scan.sum + sumWords words)) (hout : scan.outOfRange = none)
    (hin : entryInRange (entryOf words) = true) : verdictOf (scanAfter engine i words scan) = none := by
  rewrite [verdictOf_right (by exact h), scanAfter_outOfRange]
  simp [hin, hout]

theorem verdictOf_outOfRange {engine : Engine} {i j : Nat} {words : List Word} {scan : Scan}
    (h : scan.outOfRange = some j ∨ scan.outOfRange = none ∧ entryInRange (entryOf words) = false ∧ j = i) :
    verdictOf (scanAfter engine i words scan) =
      some (if scan.check = ~~~(scan.sum + sumWords words) then 100 + j else 2) := by
  have hout : (scanAfter engine i words scan).outOfRange = some j := by
    rewrite [scanAfter_outOfRange]
    obtain h | ⟨h, hin, rfl⟩ := h
    · simp [h]
    · simp [h, hin]
  by_cases hc : scan.check = ~~~(scan.sum + sumWords words)
  · rewrite [verdictOf_right (by exact hc), hout, if_pos hc]
    rfl
  · rw [verdictOf_wrong hc, if_neg hc]

@[simp] theorem applyVerdict_cc (fault : Option Nat) (p : Part) : (applyVerdict fault p).cc = p.cc := by
  cases fault
  · exact clear_cc .tariffBad p
  · exact raise_cc .tariffBad _ p

@[simp] theorem applyVerdict_cau (fault : Option Nat) (p : Part) : (applyVerdict fault p).cau = p.cau := by
  cases fault
  · exact clear_cau .tariffBad p
  · exact raise_cau .tariffBad _ p

@[simp] theorem applyVerdict_rlu (fault : Option Nat) (p : Part) : (applyVerdict fault p).rlu = p.rlu := by
  cases fault
  · exact clear_rlu .tariffBad p
  · exact raise_rlu .tariffBad _ p

@[simp] theorem applyVerdict_cu (fault : Option Nat) (p : Part) : (applyVerdict fault p).cu = p.cu := by
  cases fault
  · exact clear_cu .tariffBad p
  · exact raise_cu .tariffBad _ p

@[simp] theorem applyVerdict_mem (fault : Option Nat) (p : Part) : (applyVerdict fault p).mem = p.mem := by
  cases fault
  · exact clear_mem .tariffBad p
  · exact raise_mem .tariffBad _ p

theorem applyVerdict_bad_rtu (detail : Nat) (p : Part) : (applyVerdict (some detail) p).rtu =
    { p.rtu with cache := invalidateCache p.rtu.cache } := by
  simp [applyVerdict, raise_rtu]

theorem applyVerdict_good_rtu (p : Part) : (applyVerdict none p).rtu = p.rtu := clear_rtu .tariffBad p

theorem raise_rows_congr {p q : Part} (hcru : q.cru = p.cru) (hclock : q.rtu.clock = p.rtu.clock) (k : Condition)
    (detail : Nat) : (raise k detail q).cru.rows = (raise k detail p).cru.rows := by
  rw [raise_rows, raise_rows, hclock, rowOf, hcru, ← rowOf]

/-- The end of a verification with none due after it. -/
theorem completeScan_verify {p : Part} (hengine : p.rtu.engine = .verify) (hdue : p.rtu.verifyDue = false)
    (fault : Option Nat) : completeScan fault p = applyVerdict fault { p with rtu.engine := .idle } := by
  have h : completeScan fault p = beginVerify (applyVerdict fault { p with rtu.engine := .idle }) := by
    unfold completeScan
    rw [hengine]
  rw [h, beginVerify_none]
  cases fault
  · rewrite [applyVerdict_good_rtu]
    exact hdue
  · rewrite [applyVerdict_bad_rtu]
    exact hdue

/-- A verification that ends with a bad verdict, at a part that shows what `p` shows. -/
theorem completeScan_verify_bad {p q : Part} (hengine : q.rtu.engine = .verify) (hdue : q.rtu.verifyDue = false)
    (hcru : q.cru = p.cru) (hclock : q.rtu.clock = p.rtu.clock) (detail : Nat) :
    (completeScan (some detail) q).rtu.engine = .idle
      ∧ (completeScan (some detail) q).rtu.cache = invalidateCache q.rtu.cache
      ∧ (completeScan (some detail) q).cru.rows = (raise .tariffBad detail p).cru.rows := by
  rewrite [completeScan_verify hengine hdue, applyVerdict_bad_rtu]
  exact ⟨rfl, rfl, raise_rows_congr (q := { q with rtu.engine := .idle }) hcru hclock _ _⟩

theorem completeScan_verify_good {p q : Part} (hengine : q.rtu.engine = .verify) (hdue : q.rtu.verifyDue = false)
    (hcru : q.cru = p.cru) :
    (completeScan none q).rtu.engine = .idle ∧ (completeScan none q).rtu.cache = q.rtu.cache
      ∧ (completeScan none q).cru.rows = (clear .tariffBad p).cru.rows := by
  rewrite [completeScan_verify hengine hdue, applyVerdict_good_rtu]
  exact ⟨rfl, rfl, congrArg Cru.rows (clear_cru_congr (q := { q with rtu.engine := .idle }) hcru _)⟩

/-- The end of a verification moves no money and no call. -/
theorem completeScan_verify_frame {p q : Part} (hengine : q.rtu.engine = .verify) (hdue : q.rtu.verifyDue = false)
    (hcc : q.cc = p.cc) (hcau : q.cau = p.cau) (hrlu : q.rlu = p.rlu) (hmem : q.mem = p.mem) (fault : Option Nat) :
    (completeScan fault q).cc = p.cc ∧ (completeScan fault q).cau = p.cau ∧ (completeScan fault q).rlu = p.rlu
      ∧ (completeScan fault q).mem = p.mem := by
  rewrite [completeScan_verify hengine hdue]
  simp [hcc, hcau, hrlu, hmem]

/-- The part at the end of a scan's last entry, before its verdict. -/
def scanSummed (i : Nat) (words : List Word) (p : Part) : Part :=
  { freePort p with rtu.scan := scanAfter p.rtu.engine i words p.rtu.scan }

theorem exec_scanEntryRead_last {s : State} {i : Nat} {words : List Word} (h : readAtPort (.scanEntry i) s.part)
    (hlen : words.length = 8) (hengine : s.part.rtu.engine ≠ .idle) (hlast : i + 1 = s.part.rtu.scan.count) :
    exec (.scanEntryRead words) s = .next { s with
      part := completeScan (verdictOf (scanAfter s.part.rtu.engine i words s.part.rtu.scan))
        (scanSummed i words s.part) } := by
  rewrite [exec_scanEntryRead h hlen, takeEntry_last (p := freePort s.part) hengine hlast]
  rfl

/-! ## A lookup's answer that is no call (R138) -/

/-- A code that DIAL is answered with moves nothing beside the call's state. -/
theorem refuseDial_refused {code : ResultCode} {p q : Part} (hf : q.bpu.inFlight = some 1)
    (hr : q.bpu.result = .pending) (hcall : q.cc.call = .rating) (hcc : q.cc = p.cc) (hrlu : q.rlu = p.rlu)
    (hcau : q.cau = p.cau) (hcu : q.cu = p.cu) (hmem : q.mem = p.mem) : dialRefused code p (refuseDial code q) := by
  rewrite [refuseDial_rating hf hr hcall]
  simp [dialRefused, complete, hcc, hrlu, hcau, hcu, hmem]

@[simp] theorem refuseDial_rtu {code : ResultCode} {p : Part} : (refuseDial code p).rtu = p.rtu := by
  unfold refuseDial completeIf setCall
  split <;> split <;> simp [complete]

@[simp] theorem refuseDial_cru {code : ResultCode} {p : Part} : (refuseDial code p).cru = p.cru := by
  unfold refuseDial completeIf setCall
  split <;> split <;> simp [complete]

theorem inner_inFlight {p q : Part} (h : inner q = inner p) : q.bpu.inFlight = p.bpu.inFlight := by
  simp only [inner, Prod.mk.injEq] at h; exact h.2.2.2.2.2.2.2.2.2.1

theorem inner_result {p q : Part} (h : inner q = inner p) : q.bpu.result = p.bpu.result := by
  simp only [inner, Prod.mk.injEq] at h; exact h.2.2.2.2.2.2.2.2.2.2.1

@[simp] theorem applyVerdict_bpu_inFlight (fault : Option Nat) (p : Part) :
    (applyVerdict fault p).bpu.inFlight = p.bpu.inFlight := by
  cases fault
  · exact clear_bpu_inFlight .tariffBad p
  · exact (inner_inFlight (raise_inner .tariffBad _ p) :)

@[simp] theorem applyVerdict_bpu_result (fault : Option Nat) (p : Part) :
    (applyVerdict fault p).bpu.result = p.bpu.result := by
  cases fault
  · exact clear_bpu_result .tariffBad p
  · exact (inner_result (raise_inner .tariffBad _ p) :)

/-- A lookup that ends with a bad verdict, at a part that shows what `p` shows (R80, R138). -/
theorem completeScan_lookup_bad {p q : Part} {number : List Nat} {n : Nat} (hengine : q.rtu.engine = .lookup number n)
    (hf : q.bpu.inFlight = some 1) (hr : q.bpu.result = .pending) (hcall : p.cc.call = .rating)
    (hcru : q.cru = p.cru) (hclock : q.rtu.clock = p.rtu.clock) (hcc : q.cc = p.cc) (hrlu : q.rlu = p.rlu)
    (hcau : q.cau = p.cau) (hcu : q.cu = p.cu) (hmem : q.mem = p.mem) (detail : Nat) :
    dialRefused .tariffBad p (completeScan (some detail) q)
      ∧ (completeScan (some detail) q).rtu.engine = .idle
      ∧ (completeScan (some detail) q).cru.rows = (raise .tariffBad detail p).cru.rows
      ∧ (completeScan (some detail) q).rtu.cache = invalidateCache q.rtu.cache := by
  have h : completeScan (some detail) q = refuseDial .tariffBad
      (applyVerdict (some detail) { q with rtu.engine := .idle, rtu.verifyDue := false }) :=
    completeScan_lookup hengine _
  rewrite [h]
  refine ⟨refuseDial_refused ?_ ?_ ?_ ?_ ?_ ?_ ?_ ?_, ?_, ?_, ?_⟩
  case refine_10 =>
    rewrite [refuseDial_cru]
    exact raise_rows_congr (q := { q with rtu.engine := .idle, rtu.verifyDue := false }) hcru hclock _ _
  all_goals simp [applyVerdict_bad_rtu, *]

/-- Settles O44, from the reads of a scan and its verdict. -/
theorem scanReadsGoOn : Obligations.ScanReadsGoOn := by
  unfold Obligations.ScanReadsGoOn
  refine fun s => ⟨fun count check hread hengine h1 h200 => ?_, fun count check hread hengine hdue hcount => ?_,
    fun i number n words hread hlen hengine hmore => ?_,
    fun i words hread hlen hengine hdue hlast hout hin => ?_, fun i j words hread hlen hlast hout => ?_⟩
  · rewrite [exec_scanHeaderRead hread, takeHeader_begins (p := freePort s.part) check hengine h1 h200]
    rfl
  · rewrite [exec_scanHeaderRead hread, takeHeader_refused (p := freePort s.part) check (by simp [freePort, hengine]) hcount]
    obtain ⟨hidle, hcache, hrows⟩ :=
      completeScan_verify_bad (p := s.part) (q := freePort s.part) hengine hdue rfl rfl 1
    exact ⟨_, rfl, hidle, hcache, hrows,
      completeScan_verify_frame (p := s.part) (q := freePort s.part) hengine hdue rfl rfl rfl rfl _⟩
  · rewrite [exec_scanEntryRead hread hlen, takeEntry_more (p := freePort s.part) (by simp [freePort, hengine]) hmore]
    have hscan : scanAfter (freePort s.part).rtu.engine i words (freePort s.part).rtu.scan = { s.part.rtu.scan with
        sum := s.part.rtu.scan.sum + sumWords words
        best := betterMatch number i (entryOf words) s.part.rtu.scan.best
        outOfRange :=
          if s.part.rtu.scan.outOfRange = none ∧ entryInRange (entryOf words) = false then some i
          else s.part.rtu.scan.outOfRange } := by
      rewrite [← scanAfter_outOfRange (.lookup number n)]
      simp [scanAfter, freePort, hengine]
    rewrite [hscan]
    rfl
  · have hframe := completeScan_verify_frame (p := s.part) (q := scanSummed i words s.part) hengine hdue rfl rfl rfl rfl
    rewrite [exec_scanEntryRead_last hread hlen (by simp [hengine]) hlast]
    by_cases hcheck : s.part.rtu.scan.check = ~~~(s.part.rtu.scan.sum + sumWords words)
    · rewrite [verdictOf_good hcheck hout hin]
      obtain ⟨hidle, hcache, hrows⟩ :=
        completeScan_verify_good (p := s.part) (q := scanSummed i words s.part) hengine hdue rfl
      exact ⟨_, rfl, hidle, fun _ => ⟨hrows, hcache⟩, fun h => absurd hcheck h, hframe _⟩
    · rewrite [verdictOf_wrong hcheck]
      obtain ⟨hidle, hcache, hrows⟩ :=
        completeScan_verify_bad (p := s.part) (q := scanSummed i words s.part) hengine hdue rfl rfl 2
      exact ⟨_, rfl, hidle, fun h => absurd h hcheck, fun _ => ⟨hrows, hcache⟩, hframe _⟩
  · intro detail
    have hverdict : verdictOf (scanAfter s.part.rtu.engine i words s.part.rtu.scan) = some detail :=
      verdictOf_outOfRange hout
    refine ⟨fun hengine hdue => ?_, fun number n hengine hf hr hcall => ?_⟩
    · rewrite [exec_scanEntryRead_last hread hlen (by simp [hengine]) hlast, hverdict]
      obtain ⟨hidle, hcache, hrows⟩ :=
        completeScan_verify_bad (p := s.part) (q := scanSummed i words s.part) hengine hdue rfl rfl detail
      exact ⟨_, rfl, hidle, hrows, hcache,
        completeScan_verify_frame (p := s.part) (q := scanSummed i words s.part) hengine hdue rfl rfl rfl rfl _⟩
    · rewrite [exec_scanEntryRead_last hread hlen (by simp [hengine]) hlast, hverdict]
      exact ⟨_, rfl, completeScan_lookup_bad (p := s.part) (q := scanSummed i words s.part) hengine hf hr hcall rfl rfl
        rfl rfl rfl rfl rfl detail⟩

end Sys2Proof.Machine
end

section
/-!
PROOFS. The rate cache (O29): its ages, the target of a fill, and the judgement of what a lookup finds.
-/

namespace Sys2Proof.Machine

/-! ## The ages (R88) -/

/-- What becoming the youngest makes of the ages below `n`: the age `a` goes to 0, the younger ones up by one. -/
def agedBy (a x : Nat) : Nat := if x = a then 0 else if x < a then x + 1 else x

set_option Elab.async false in
theorem map_agedBy_perm {a n : Nat} (h : a < n) : ((List.range n).map (agedBy a)).Perm (List.range n) := by
  have hinj : Function.Injective (agedBy a) := fun x y hxy => by
    unfold agedBy at hxy
    split at hxy <;> split at hxy <;> (try split at hxy) <;> (try split at hxy) <;> omega
  refine (List.perm_ext_iff_of_nodup (List.nodup_range.map hinj) List.nodup_range).2 fun y => ?_
  rewrite [List.mem_map, List.mem_range]
  constructor
  · rintro ⟨x, hx, rfl⟩
    rewrite [List.mem_range] at hx
    unfold agedBy
    split
    · omega
    · split <;> omega
  · intro hy
    rcases Nat.eq_zero_or_pos y with rfl | hpos
    · exact ⟨a, List.mem_range.2 h, if_pos rfl⟩
    · by_cases hya : y ≤ a
      · refine ⟨y - 1, List.mem_range.2 (by omega), ?_⟩
        rewrite [agedBy, if_neg (by omega), if_pos (by omega)]
        omega
      · refine ⟨y, List.mem_range.2 hy, ?_⟩
        rw [agedBy, if_neg (by omega), if_neg (by omega)]

@[simp] theorem validAges_append (l m : List CacheEntry) : validAges (l ++ m) = validAges l ++ validAges m := by
  simp [validAges]

@[simp] theorem validAges_cons (e : CacheEntry) (l : List CacheEntry) :
    validAges (e :: l) = if e.valid then e.age :: validAges l else validAges l := by
  unfold validAges
  rewrite [List.filter_cons]
  split <;> rfl

/-- What a hit or a fill of the entry `e` makes of another entry. -/
def agedBeside (e x : CacheEntry) : CacheEntry :=
  if x.valid && (!e.valid || decide (x.age < e.age)) then { x with age := x.age + 1 } else x

theorem agedBeside_valid (e x : CacheEntry) : (agedBeside e x).valid = x.valid := by
  unfold agedBeside
  split <;> rfl

/-- The age of a valid entry after that. -/
def ageAfter (e : CacheEntry) (age : Nat) : Nat := if !e.valid || decide (age < e.age) then age + 1 else age

theorem validAges_map_agedBeside (e : CacheEntry) (l : List CacheEntry) :
    validAges (l.map (agedBeside e)) = (validAges l).map (ageAfter e) := by
  induction l with
  | nil => rfl
  | cons x xs ih =>
    rewrite [List.map_cons, validAges_cons, validAges_cons, agedBeside_valid, ih]
    cases hx : x.valid
    · rfl
    · rewrite [if_pos rfl, if_pos rfl, List.map_cons]
      congr 1
      unfold agedBeside ageAfter
      rewrite [hx, Bool.true_and]
      split <;> rfl

theorem makeYoungest_split (l m : List CacheEntry) (e : CacheEntry) : makeYoungest l.length (l ++ e :: m) =
    l.map (agedBeside e) ++ { e with age := 0 } :: m.map (agedBeside e) := by
  have he : (l ++ e :: m).getD l.length CacheEntry.invalid = e := by simp
  rewrite [makeYoungest, he]
  show ((l ++ e :: m).map (agedBeside e)).set l.length { e with age := 0 } = _
  rewrite [List.map_append, List.map_cons]
  simp

theorem fillEntry_split (l m : List CacheEntry) (e : CacheEntry) (key : List Nat) (index : Nat) (copy : TariffEntry) :
    fillEntry l.length key index copy (l ++ e :: m) = l.map (agedBeside e) ++
      { valid := true, key, copy, index, locked := false, stale := false, age := 0 } :: m.map (agedBeside e) := by
  rewrite [fillEntry, makeYoungest_split]
  simp

theorem cache_split {cache : List CacheEntry} {i : Nat} (h : i < cache.length) :
    ∃ l m, cache = l ++ cache[i] :: m ∧ l.length = i :=
  ⟨cache.take i, cache.drop (i + 1), by simp, by simp; omega⟩

/-- The ages of the other valid entries, as the entry `e` becomes the youngest, with its own 0 before them. -/
theorem ages_dense_after {l m : List CacheEntry} {e : CacheEntry} (h : agesDense (l ++ e :: m)) :
    (0 :: (validAges l ++ validAges m).map (ageAfter e)).Perm
      (List.range ((validAges l ++ validAges m).length + 1)) := by
  unfold agesDense at h
  rewrite [validAges_append, validAges_cons] at h
  cases he : e.valid
  · rewrite [he] at h
    simp only [Bool.false_eq_true, if_false] at h
    have hsucc : ageAfter e = Nat.succ := by
      funext x
      simp [ageAfter, he]
    rewrite [hsucc, List.range_succ_eq_map]
    exact (h.map Nat.succ).cons 0
  · rewrite [he, if_pos rfl] at h
    have hperm : (e.age :: (validAges l ++ validAges m)).Perm
        (List.range ((validAges l ++ validAges m).length + 1)) := by
      have hmid : (validAges l ++ e.age :: validAges m).Perm (e.age :: (validAges l ++ validAges m)) :=
        List.perm_middle
      have hlen := hmid.length_eq
      rewrite [List.length_cons] at hlen
      rewrite [← hlen]
      exact hmid.symm.trans h
    have hage : e.age < (validAges l ++ validAges m).length + 1 :=
      List.mem_range.1 (hperm.mem_iff.1 List.mem_cons_self)
    have hnotin : e.age ∉ validAges l ++ validAges m :=
      (List.nodup_cons.1 (hperm.nodup_iff.2 List.nodup_range)).1
    have hmap : (validAges l ++ validAges m).map (ageAfter e) = (validAges l ++ validAges m).map (agedBy e.age) :=
      List.map_congr_left fun x hx => by
        have hne : x ≠ e.age := fun heq => hnotin (heq ▸ hx)
        simp [ageAfter, he, agedBy, hne]
    rewrite [hmap]
    have h0 : agedBy e.age e.age = 0 := if_pos rfl
    rewrite [← h0, ← List.map_cons]
    exact (hperm.map _).trans (map_agedBy_perm hage)

/-- A valid entry of age 0 among the aged ones keeps the ages dense. -/
theorem agesDense_after {l m : List CacheEntry} {e f : CacheEntry} (h : agesDense (l ++ e :: m))
    (hvalid : f.valid = true) (hage : f.age = 0) :
    agesDense (l.map (agedBeside e) ++ f :: m.map (agedBeside e)) := by
  have hperm : (validAges (l.map (agedBeside e) ++ f :: m.map (agedBeside e))).Perm
      (0 :: (validAges l ++ validAges m).map (ageAfter e)) := by
    rewrite [validAges_append, validAges_cons, if_pos hvalid, hage, validAges_map_agedBeside, validAges_map_agedBeside,
      List.map_append]
    exact List.perm_middle
  have hlen := hperm.length_eq
  rewrite [List.length_cons, List.length_map] at hlen
  unfold agesDense
  rewrite [hlen]
  exact hperm.trans (ages_dense_after h)

theorem makeYoungest_dense {cache : List CacheEntry} {i : Nat} {e : CacheEntry} (h : agesDense cache)
    (he : cache[i]? = some e) (hvalid : e.valid = true) : agesDense (makeYoungest i cache)
      ∧ (makeYoungest i cache)[i]? = some { e with age := 0 } := by
  obtain ⟨hi, rfl⟩ := List.getElem?_eq_some_iff.1 he
  obtain ⟨l, m, hsplit, hlen⟩ := cache_split hi
  generalize cache[i] = e at hsplit hvalid he
  subst hsplit hlen
  rewrite [makeYoungest_split]
  exact ⟨agesDense_after h hvalid rfl, by simp⟩

theorem fillEntry_dense {cache : List CacheEntry} {i : Nat} (h : agesDense cache) (hi : i < cache.length)
    (key : List Nat) (index : Nat) (copy : TariffEntry) : agesDense (fillEntry i key index copy cache)
      ∧ (fillEntry i key index copy cache)[i]? =
        some { valid := true, key, copy, index, locked := false, stale := false, age := 0 } := by
  obtain ⟨l, m, hsplit, hlen⟩ := cache_split hi
  generalize cache[i] = e at hsplit
  subst hsplit hlen
  rewrite [fillEntry_split]
  exact ⟨agesDense_after h rfl rfl, by simp⟩

/-! ## The target of a fill (R88) -/

theorem fillTarget_invalid {cache : List CacheEntry} (h : ∃ x ∈ cache, x.valid = false) :
    ∃ e : CacheEntry, cache[fillTarget cache]? = some e ∧ e.valid = false
      ∧ ∀ (j : Nat) (x : CacheEntry), j < fillTarget cache → cache[j]? = some x → x.valid = true := by
  obtain ⟨x, hx, hinvalid⟩ := h
  have hsome : (cache.findIdx? fun e => !e.valid).isSome := by
    rewrite [List.findIdx?_isSome, List.any_eq_true]
    exact ⟨x, hx, by simp [hinvalid]⟩
  obtain ⟨i, hi⟩ := Option.isSome_iff_exists.1 hsome
  have htarget : fillTarget cache = i := by rw [fillTarget, hi]
  rewrite [htarget]
  obtain ⟨hlt, hat, hbefore⟩ := List.findIdx?_eq_some_iff_getElem.1 hi
  refine ⟨cache[i], List.getElem?_eq_getElem hlt, by simpa using hat, fun j x hj hjx => ?_⟩
  obtain ⟨_, rfl⟩ := List.getElem?_eq_some_iff.1 hjx
  simpa using hbefore j hj

/-- What the search for the oldest unlocked entry finds among valid entries. -/
theorem oldestUnlocked_spec : ∀ (k : Nat) {es : List CacheEntry}, (∀ x ∈ es, x.valid = true) →
    (oldestUnlocked k es = none ∧ ∀ x ∈ es, x.locked = true)
      ∨ ∃ i e, oldestUnlocked k es = some (k + i, e.age) ∧ es[i]? = some e ∧ e.locked = false
        ∧ ∀ x ∈ es, x.locked = false → x.age ≤ e.age
  | _, [], _ => .inl ⟨rfl, by simp⟩
  | k, x :: xs, h => by
    have hx : x.valid = true := h x List.mem_cons_self
    cases hlocked : x.locked
    case true =>
      obtain ⟨hnone, hall⟩ | ⟨i, e, hfound, hat, he, hold⟩ :=
        oldestUnlocked_spec (k + 1) fun y hy => h y (List.mem_cons_of_mem _ hy)
      · refine .inl ⟨?_, ?_⟩
        · rewrite [oldestUnlocked, hnone]
          simp [hlocked]
        · simpa [hlocked] using hall
      · refine .inr ⟨i + 1, e, ?_, by simpa using hat, he, ?_⟩
        · rewrite [oldestUnlocked, hfound]
          simp [hlocked]
          omega
        · simpa [hlocked] using hold
    case false =>
      obtain ⟨hnone, hall⟩ | ⟨i, e, hfound, hat, he, hold⟩ :=
        oldestUnlocked_spec (k + 1) fun y hy => h y (List.mem_cons_of_mem _ hy)
      · refine .inr ⟨0, x, ?_, rfl, hlocked, ?_⟩
        · rewrite [oldestUnlocked, hnone]
          simp [hlocked, hx]
        · intro y hy hunlocked
          obtain rfl | hy := List.mem_cons.1 hy
          · exact le_rfl
          · rewrite [hall y hy] at hunlocked
            cases hunlocked
      · by_cases hage : e.age < x.age
        · refine .inr ⟨0, x, ?_, rfl, hlocked, ?_⟩
          · rewrite [oldestUnlocked, hfound]
            simp [hlocked, hx, hage]
          · intro y hy hunlocked
            obtain rfl | hy := List.mem_cons.1 hy
            · exact le_rfl
            · exact (hold y hy hunlocked).trans hage.le
        · refine .inr ⟨i + 1, e, ?_, by simpa using hat, he, ?_⟩
          · rewrite [oldestUnlocked, hfound]
            simp [hage]
            omega
          · intro y hy hunlocked
            obtain rfl | hy := List.mem_cons.1 hy
            · exact not_lt.1 hage
            · exact hold y hy hunlocked

theorem fillTarget_full {cache : List CacheEntry} (hall : ∀ x ∈ cache, x.valid = true)
    (h : ∃ x ∈ cache, x.locked = false) : ∃ e : CacheEntry, cache[fillTarget cache]? = some e ∧ e.locked = false
      ∧ ∀ x ∈ cache, x.locked = false → x.age ≤ e.age := by
  have hnone : (cache.findIdx? fun e => !e.valid) = none := by
    rewrite [List.findIdx?_eq_none_iff]
    exact fun x hx => by simp [hall x hx]
  obtain ⟨-, hlocked⟩ | ⟨i, e, hfound, hat, he, hold⟩ := oldestUnlocked_spec 0 hall
  · obtain ⟨x, hx, hunlocked⟩ := h
    rewrite [hlocked x hx] at hunlocked
    cases hunlocked
  · have htarget : fillTarget cache = i := by
      rewrite [fillTarget, hnone, hfound]
      simp
    rewrite [htarget]
    exact ⟨e, hat, he, hold⟩

/-! ## What a hit or a scan finds is judged (R87, R138) -/

theorem answerAtTaking_hit {number : List Nat} {p : Part} {i : Nat} {e : CacheEntry}
    (hfree : freeIndex number p.rtu.freeList = none) (hprobe : probe (ratingKey number) p.rtu.cache = some i)
    (he : p.rtu.cache[i]? = some e) : answerAtTaking number p =
      some (ratingOf { copy := e.copy, index := e.index, entry := i },
        { p with rtu.cache := makeYoungest i p.rtu.cache }) := by
  obtain ⟨hi, -⟩ := List.getElem?_eq_some_iff.1 he
  obtain ⟨_, hf, -⟩ | ⟨j, -, hj, hanswer⟩ | ⟨-, hmiss, -⟩ := answerAtTaking_cases number p
  · rewrite [hf] at hfree
    cases hfree
  · obtain rfl : i = j := Option.some.inj (hprobe.symm.trans hj)
    rw [hanswer, chosenOf_makeYoungest hi, chosenOf_getElem he]
  · rewrite [hmiss] at hprobe
    cases hprobe

theorem scanResult_chosen {number : List Nat} {p : Part} {index : Nat} {copy : TariffEntry}
    (h : fillTarget p.rtu.cache < p.rtu.cache.length) : scanResult none number (some (index, copy)) p =
      (ratingOf { copy, index, entry := fillTarget p.rtu.cache },
        { p with rtu.cache := fillEntry (fillTarget p.rtu.cache) (ratingKey number) index copy p.rtu.cache }) := by
  rewrite [← chosenOf_fillEntry h (ratingKey number) index copy]
  rfl

theorem ratingOf_barred {c : Chosen} (h : classOf c.copy.cls = .barredClass) : ratingOf c = .barred (some c) := if_pos h

theorem ratingOf_rated {c : Chosen} (h : classOf c.copy.cls ≠ .barredClass) : ratingOf c = .rated c := if_neg h

theorem judgeRating_restricted {c : Chosen} {p : Part}
    (h : p.cru.restriction = .noCalls ∨ p.cru.restriction = .freeOnly) :
    judgeRating (.rated c) p = refuseDial .restricted p := by
  unfold judgeRating
  obtain h | h := h <;> simp [h]

theorem judgeRating_short {c : Chosen} {p : Part} (hcalls : p.cru.restriction ≠ .noCalls)
    (hfree : p.cru.restriction ≠ .freeOnly) (h : creditOnHand p < c.copy.c0 + chargeStep p) :
    judgeRating (.rated c) p = refuseDial .noCredit p := by
  unfold judgeRating
  simp [hcalls, hfree, h]

theorem judgeRating_placed {c : Chosen} {p : Part} (hcalls : p.cru.restriction ≠ .noCalls)
    (hfree : p.cru.restriction ≠ .freeOnly) (h : c.copy.c0 + chargeStep p ≤ creditOnHand p) :
    judgeRating (.rated c) p = placeCall (classOf c.copy.cls) c.index (some c.entry) p := by
  unfold judgeRating
  simp [hcalls, hfree, not_lt.2 h]

/-! ## A call that is placed (R89, R138) -/

theorem grantSeize_lu_congr {p q : Part} (hlu : q.lu = p.lu) (htick : q.tick = p.tick) (hpins : q.pins = p.pins)
    (owner : Owner) (number : List Nat) : (grantSeize owner number q).lu = (grantSeize owner number p).lu := by
  unfold grantSeize
  simp only [markS_pins, hpins]
  split <;> simp [currentSeen, newTimer, hlu, htick]

theorem askCustomerSeize_lu_congr {p q : Part} (hlu : q.lu = p.lu) (htick : q.tick = p.tick) (hpins : q.pins = p.pins)
    (number : List Nat) : (askCustomerSeize number q).lu = (askCustomerSeize number p).lu := by
  unfold askCustomerSeize
  rewrite [hlu]
  split
  · exact hlu
  · split
    · exact grantSeize_lu_congr hlu htick hpins _ _
    · rfl

@[simp] theorem askCustomerSeize_inner (number : List Nat) (p : Part) :
    inner (askCustomerSeize number p) = inner p := by
  unfold askCustomerSeize
  split
  · rfl
  · split
    · exact grantSeize_inner _ _ _
    · rfl

theorem askCustomerSeize_cru (number : List Nat) (p : Part) : (askCustomerSeize number p).cru = p.cru := by
  unfold askCustomerSeize
  split
  · rfl
  · split
    · exact grantSeize_cru _ _ _
    · rfl

theorem askCustomerSeize_publishes (number : List Nat) (p : Part) : Publishes p (askCustomerSeize number p) := by
  unfold askCustomerSeize
  split
  · exact .refl p
  · split
    · exact grantSeize_publishes _ _ _
    · exact .of_bpu rfl

/-- The part with a call placed, before the line is asked for. -/
def callReady (cls : CallClass) (index : Nat) (entry : Option Nat) (p : Part) : Part :=
  markS 2 { p with
    rtu.cache := match entry with
      | some i => p.rtu.cache.set i { p.rtu.cache.getD i CacheEntry.invalid with locked := true }
      | none => p.rtu.cache
    rtu.timing := Timing.fresh
    cc.cls := cls
    cc.steps := 0
    cc.charged := 0
    cc.placed := some { cls, index, entry, digits := p.cc.digits, startTime := p.rtu.clock, answer := none,
                        collected := 0, ending := none } }

theorem placeCall_eq {cls : CallClass} {index : Nat} {entry : Option Nat} {p : Part} (hcall : p.cc.call ≠ .placing)
    (hf : p.bpu.inFlight = some 1) (hr : p.bpu.result = .pending) :
    placeCall cls index entry p = complete .placed (setCause .call (markS 0
      { askCustomerSeize p.cc.digits (callReady cls index entry p) with
        cc := { (callReady cls index entry p).cc with call := .placing } })) := by
  have hinner := askCustomerSeize_inner p.cc.digits (callReady cls index entry p)
  have hcc : (askCustomerSeize p.cc.digits (callReady cls index entry p)).cc = (callReady cls index entry p).cc :=
    inner_cc hinner
  have hplaced : placeCall cls index entry p = completeIf 1 .placed
      (setCall .placing (askCustomerSeize p.cc.digits (callReady cls index entry p))) := rfl
  rw [hplaced, setCall_of_ne, completeIf_awaited, hcc]
  · rewrite [setCause_bpu_inFlight]
    exact (inner_inFlight hinner).trans hf
  · rewrite [setCause_bpu_result]
    exact (inner_result hinner).trans hr
  · rewrite [hcc]
    exact hcall

/-- A call that a DIAL has placed, at a part that shows what `p` shows. -/
theorem placeCall_callPlaced {cls : CallClass} {index : Nat} {entry : Option Nat} {p q : Part}
    (hcall : q.cc.call ≠ .placing) (hf : q.bpu.inFlight = some 1) (hr : q.bpu.result = .pending)
    (hcc : q.cc = p.cc) (hclock : q.rtu.clock = p.rtu.clock) (hlu : q.lu = p.lu) (htick : q.tick = p.tick)
    (hpins : q.pins = p.pins) (hrlu : q.rlu = p.rlu) (hcau : q.cau = p.cau) (hcu : q.cu = p.cu) :
    callPlaced cls index entry q.rtu.cache p (placeCall cls index entry q) := by
  have hinner := askCustomerSeize_inner q.cc.digits (callReady cls index entry q)
  have hasked := askCustomerSeize_lu_congr (p := p) (q := callReady cls index entry q) hlu htick hpins q.cc.digits
  have hS2 : Group.status 2 ∈ (askCustomerSeize q.cc.digits (callReady cls index entry q)).bpu.dirty :=
    (askCustomerSeize_publishes _ _).dirty _ (mem_insertGroup_self _ _)
  rewrite [placeCall_eq hcall hf hr]
  generalize askCustomerSeize q.cc.digits (callReady cls index entry q) = a at hinner hasked hS2
  have hrtu : a.rtu = (callReady cls index entry q).rtu := inner_rtu hinner
  refine ⟨rfl, by simp, by simp [callReady, hcc, hclock], by simp [callReady], by simp [callReady, hcc],
    by simp [callReady], by simp [callReady], by simp [hrtu, callReady, Timing.fresh], ?_,
    by simpa [hcc] using hasked, ?_, ?_, ?_, ?_⟩
  · simp only [complete_rtu, setCause_rtu, markS_rtu]
    rewrite [hrtu]
    cases entry <;> rfl
  · rewrite [complete_bpu_dirty, setCause_bpu_dirty, markS_bpu_dirty]
    exact mem_insertGroup_of_mem (mem_insertGroup_of_mem (mem_insertGroup_of_mem hS2))
  · simpa [callReady] using (inner_rlu hinner).trans hrlu
  · simpa [callReady] using (inner_cau hinner).trans hcau
  · simpa [callReady] using (inner_cu hinner).trans hcu

theorem placeCall_cru {cls : CallClass} {index : Nat} {entry : Option Nat} {p : Part} (hcall : p.cc.call ≠ .placing)
    (hf : p.bpu.inFlight = some 1) (hr : p.bpu.result = .pending) : (placeCall cls index entry p).cru = p.cru := by
  rewrite [placeCall_eq hcall hf hr]
  simp [askCustomerSeize_cru, callReady]

theorem placeCall_mem {cls : CallClass} {index : Nat} {entry : Option Nat} {p : Part} (hcall : p.cc.call ≠ .placing)
    (hf : p.bpu.inFlight = some 1) (hr : p.bpu.result = .pending) : (placeCall cls index entry p).mem = p.mem := by
  rewrite [placeCall_eq hcall hf hr]
  simpa [callReady] using outer_mem (askCustomerSeize_outer p.cc.digits (callReady cls index entry p))

/-- R138: how a result that carries a cache entry is judged, at a part that shows what `p` shows. -/
theorem judgeRating_ratingOf {c : Chosen} {p q t : Part} (ht : judgeRating (ratingOf c) q = t) (hf : q.bpu.inFlight = some 1) (hr : q.bpu.result = .pending)
    (hcall : p.cc.call = .rating) (hcc : q.cc = p.cc) (hclock : q.rtu.clock = p.rtu.clock)
    (hsteps : q.rtu.steps = p.rtu.steps) (hlu : q.lu = p.lu) (htick : q.tick = p.tick) (hpins : q.pins = p.pins)
    (hrlu : q.rlu = p.rlu) (hcau : q.cau = p.cau) (hcu : q.cu = p.cu) (hmem : q.mem = p.mem) :
    (classOf c.copy.cls = .barredClass → dialRefused .barred p t ∧ t.rtu.cache = q.rtu.cache)
      ∧ (classOf c.copy.cls ≠ .barredClass → q.cru.restriction = .noCalls ∨ q.cru.restriction = .freeOnly →
          dialRefused .restricted p t ∧ t.rtu.cache = q.rtu.cache)
      ∧ (classOf c.copy.cls ≠ .barredClass → ¬(q.cru.restriction = .noCalls ∨ q.cru.restriction = .freeOnly) →
          creditOnHand p < c.copy.c0 + chargeStep p → dialRefused .noCredit p t ∧ t.rtu.cache = q.rtu.cache)
      ∧ (classOf c.copy.cls ≠ .barredClass → ¬(q.cru.restriction = .noCalls ∨ q.cru.restriction = .freeOnly) →
          c.copy.c0 + chargeStep p ≤ creditOnHand p →
          callPlaced (classOf c.copy.cls) c.index (some c.entry) q.rtu.cache p t) := by
  subst ht
  have hrating : q.cc.call = .rating := by rw [hcc, hcall]
  have hrefused : ∀ code, dialRefused code p (refuseDial code q) ∧ (refuseDial code q).rtu.cache = q.rtu.cache :=
    fun code => ⟨refuseDial_refused hf hr hrating hcc hrlu hcau hcu hmem, by rw [refuseDial_rtu]⟩
  have hcredit : creditOnHand q = creditOnHand p := by rw [creditOnHand, hrlu, ← creditOnHand]
  have hstep : chargeStep q = chargeStep p := by rw [chargeStep, hsteps, ← chargeStep]
  refine ⟨fun hb => ?_, fun hb hh => ?_, fun hb hh hs => ?_, fun hb hh hs => ?_⟩
  · rewrite [ratingOf_barred hb]
    exact hrefused .barred
  · rewrite [ratingOf_rated hb, judgeRating_restricted hh]
    exact hrefused .restricted
  · obtain ⟨hcalls, hfree⟩ := not_or.1 hh
    rewrite [ratingOf_rated hb, judgeRating_short hcalls hfree (by rewrite [hcredit, hstep]; exact hs)]
    exact hrefused .noCredit
  · obtain ⟨hcalls, hfree⟩ := not_or.1 hh
    rewrite [ratingOf_rated hb, judgeRating_placed hcalls hfree (by rewrite [hcredit, hstep]; exact hs)]
    exact placeCall_callPlaced (by simp [hrating]) hf hr hcc hclock hlu htick hpins hrlu hcau hcu

/-! ## A lookup scan that ends with a good verdict (R80, R138) -/

/-- The part that a lookup scan with a good verdict leaves for the judgement of its match. -/
def scanPassed (p : Part) : Part := clear .tariffBad { p with rtu.engine := .idle, rtu.verifyDue := false }

@[simp] theorem scanPassed_rtu (p : Part) : (scanPassed p).rtu = { p.rtu with engine := .idle, verifyDue := false } :=
  clear_rtu _ _
@[simp] theorem scanPassed_cc (p : Part) : (scanPassed p).cc = p.cc := clear_cc _ _
@[simp] theorem scanPassed_rlu (p : Part) : (scanPassed p).rlu = p.rlu := clear_rlu _ _
@[simp] theorem scanPassed_cau (p : Part) : (scanPassed p).cau = p.cau := clear_cau _ _
@[simp] theorem scanPassed_cu (p : Part) : (scanPassed p).cu = p.cu := clear_cu _ _
@[simp] theorem scanPassed_lu (p : Part) : (scanPassed p).lu = p.lu := clear_lu _ _
@[simp] theorem scanPassed_mem (p : Part) : (scanPassed p).mem = p.mem := clear_mem _ _
@[simp] theorem scanPassed_tick (p : Part) : (scanPassed p).tick = p.tick := clear_tick _ _
@[simp] theorem scanPassed_pins (p : Part) : (scanPassed p).pins = p.pins := clear_pins _ _
@[simp] theorem scanPassed_inFlight (p : Part) : (scanPassed p).bpu.inFlight = p.bpu.inFlight := clear_bpu_inFlight _ _
@[simp] theorem scanPassed_result (p : Part) : (scanPassed p).bpu.result = p.bpu.result := clear_bpu_result _ _
@[simp] theorem scanPassed_cru (p : Part) : (scanPassed p).cru = (clear .tariffBad p).cru :=
  clear_cru_congr (p := p) (q := { p with rtu.engine := .idle, rtu.verifyDue := false }) rfl _

theorem completeScan_passed {p : Part} {number : List Nat} {n : Nat} (hengine : p.rtu.engine = .lookup number n) :
    ∃ r cache, completeScan none p = judgeRating r { scanPassed p with rtu.cache := cache } := by
  have hresult := scanResult_frame none number p.rtu.scan.best (scanPassed p)
  exact ⟨_, _, (completeScan_lookup hengine none).trans (congrArg (judgeRating _) hresult)⟩

theorem completeScan_unmatched {p : Part} {number : List Nat} {n : Nat} (hengine : p.rtu.engine = .lookup number n)
    (h : p.rtu.scan.best = none) : completeScan none p = refuseDial .barred (scanPassed p) := by
  rewrite [completeScan_lookup hengine, h]
  rfl

/-- The part with the chosen entry filled in. -/
def scanFilled (number : List Nat) (index : Nat) (copy : TariffEntry) (p : Part) : Part :=
  { scanPassed p with
    rtu.cache := fillEntry (fillTarget p.rtu.cache) (ratingKey number) index copy p.rtu.cache }

theorem completeScan_matched {p : Part} {number : List Nat} {n index : Nat} {copy : TariffEntry}
    (hengine : p.rtu.engine = .lookup number n) (h : p.rtu.scan.best = some (index, copy))
    (htarget : fillTarget p.rtu.cache < p.rtu.cache.length) : completeScan none p =
      judgeRating (ratingOf { copy, index, entry := fillTarget p.rtu.cache }) (scanFilled number index copy p) := by
  have hcache : (applyVerdict none { p with rtu.engine := .idle, rtu.verifyDue := false }).rtu.cache = p.rtu.cache := by
    rw [applyVerdict_good_rtu]
  rewrite [completeScan_lookup hengine, h, scanResult_chosen (by rewrite [hcache]; exact htarget), hcache]
  rfl

/-- The judgement of a result leaves the conditions, memory and the engine alone. -/
theorem judgeRating_frame (r : Rating) {p : Part} (hcall : p.cc.call ≠ .placing) (hf : p.bpu.inFlight = some 1)
    (hr : p.bpu.result = .pending) : (judgeRating r p).rtu.engine = p.rtu.engine
      ∧ (judgeRating r p).rtu.verifyDue = p.rtu.verifyDue ∧ (judgeRating r p).cru = p.cru
      ∧ (judgeRating r p).mem = p.mem := by
  have hrefused : ∀ code, (refuseDial code p).rtu.engine = p.rtu.engine
      ∧ (refuseDial code p).rtu.verifyDue = p.rtu.verifyDue ∧ (refuseDial code p).cru = p.cru
      ∧ (refuseDial code p).mem = p.mem := fun code =>
    ⟨by rw [refuseDial_rtu], by rw [refuseDial_rtu], refuseDial_cru, outer_mem (refuseDial_outer code p)⟩
  have hplaced : ∀ cls index entry, (placeCall cls index entry p).rtu.engine = p.rtu.engine
      ∧ (placeCall cls index entry p).rtu.verifyDue = p.rtu.verifyDue ∧ (placeCall cls index entry p).cru = p.cru
      ∧ (placeCall cls index entry p).mem = p.mem := fun cls index entry => by
    have hrtu := inner_rtu (askCustomerSeize_inner p.cc.digits (callReady cls index entry p))
    have hafter : (placeCall cls index entry p).rtu = (callReady cls index entry p).rtu := by
      rewrite [placeCall_eq hcall hf hr]
      simpa only [complete_rtu, setCause_rtu, markS_rtu] using hrtu
    exact ⟨(congrArg Rtu.engine hafter).trans rfl, (congrArg Rtu.verifyDue hafter).trans rfl, placeCall_cru hcall hf hr,
      placeCall_mem hcall hf hr⟩
  unfold judgeRating
  split
  · exact hrefused _
  · exact hrefused _
  · exact hrefused _
  · split
    · exact hrefused _
    · exact hplaced _ _ _
  · split
    · exact hrefused _
    · split
      · exact hrefused _
      · split
        · exact hrefused _
        · exact hplaced _ _ _

/-- What the end of a lookup scan with a good verdict leaves, whatever its match is judged to. -/
theorem completeScan_passed_frame {p : Part} {number : List Nat} {n : Nat} (hengine : p.rtu.engine = .lookup number n)
    (hf : p.bpu.inFlight = some 1) (hr : p.bpu.result = .pending) (hcall : p.cc.call = .rating) :
    (completeScan none p).rtu.engine = .idle ∧ (completeScan none p).rtu.verifyDue = false
      ∧ (completeScan none p).cru = (clear .tariffBad p).cru ∧ (completeScan none p).mem = p.mem := by
  obtain ⟨r, cache, h⟩ := completeScan_passed hengine
  obtain ⟨hengine', hdue, hcru, hmem⟩ := judgeRating_frame r (p := { scanPassed p with rtu.cache := cache })
    (by simp [hcall]) (by simpa using hf) (by simpa using hr)
  rewrite [h, hengine', hdue, hcru, hmem]
  simp

/-! ## The obligation -/

/-- DIAL past its refusals is answered by the free list or the cache, or waits for a scan. -/
theorem exec_dial_open {b : Bases} {s : State} (hready : HostReady b s.part) (hfree : s.part.bpu.inFlight = none)
    (hcall : s.part.cc.call = .collecting) (hoff : s.part.cc.off = true) (hdigits : s.part.cc.digits ≠ [])
    (hres : s.part.cru.restriction ≠ .noCalls)
    (hpulse : ∀ l, s.part.lu.settings = some l → l.pulse = true → ∀ d ∈ s.part.cc.digits, d ≤ 9) :
    exec .dial s = .next { s with part := lookup s.part.cc.digits (mailboxTaken b 1 s.part) } := by
  have htaken : exec .dial s = .next { s with part := dialCall (mailboxTaken b 1 s.part) } :=
    onPart_commandWrite hready hfree 1
  rw [htaken, dialCall_open (p := mailboxTaken b 1 s.part) hcall hoff hdigits hres, if_neg]
  · rfl
  · rewrite [Bool.and_eq_true, not_and]
    intro hp
    have hdec : decimal (mailboxTaken b 1 s.part).cc.digits = true := by
      rewrite [decimal, List.all_eq_true]
      intro d hd
      unfold pulseSet at hp
      split at hp
      · next l hset => exact decide_eq_true (hpulse l hset hp d hd)
      · cases hp
    simpa using hdec

/-- A code given at the taking of DIAL leaves the call in COLLECTING. -/
theorem refuseDial_collecting {code : ResultCode} {p : Part} (hf : p.bpu.inFlight = some 1)
    (hr : p.bpu.result = .pending) (hcall : p.cc.call = .collecting) : refuseDial code p = resulted code p := by
  rewrite [refuseDial, setCall, if_pos hcall, completeIf_awaited hf hr]
  rfl

/-- Settles O29, from the ages of the cache, the target of a fill and the judgement of what is found. -/
theorem cacheAgesStayDense : Obligations.CacheAgesStayDense := by
  unfold Obligations.CacheAgesStayDense
  refine ⟨fun cache i hdense hi => ⟨fun e he hvalid => makeYoungest_dense hdense he hvalid,
      fun key index copy => fillEntry_dense hdense hi key index copy⟩,
    fun cache => ⟨fillTarget_invalid, fillTarget_full⟩,
    fun b s i e hready hfree hcall hoff hdigits hres hpulse hlist hprobe he => ?_,
    fun s i n number words hread hlen hengine hlast hf hr hcall => ?_,
    fun number p => ⟨fun i h => answerAtTaking_free h, fun hlist hprobe => answerAtTaking_missed hlist hprobe,
      fun i e hlist hprobe he => ?_, fun detail best => rfl, rfl, fun index copy htarget => ?_⟩,
    fun b s r q hready hfree hcall hoff hdigits hres hpulse hanswer => ?_⟩
  · intro p
    have hhit : exec .dial s = .next { s with
        part := judgeRating (ratingOf { copy := e.copy, index := e.index, entry := i }) p } := by
      rewrite [exec_dial_open hready hfree hcall hoff hdigits hres hpulse,
        lookup_answered (answerAtTaking_hit (p := mailboxTaken b 1 s.part) hlist hprobe he)]
      rfl
    refine ⟨fun hcls => ?_, fun hcls hfreeOnly => ?_, fun hcls hfreeOnly hshort => ?_, fun hcls hfreeOnly henough => ?_⟩
    · rw [hhit, ratingOf_barred hcls, judgeRating_barred, refuseDial_collecting (p := p) rfl rfl hcall]
    · rw [hhit, ratingOf_rated hcls, judgeRating_restricted (p := p) (.inr hfreeOnly),
        refuseDial_collecting (p := p) rfl rfl hcall]
    · rw [hhit, ratingOf_rated hcls, judgeRating_short (c := ⟨e.copy, e.index, i⟩) (p := p) hres hfreeOnly hshort,
        refuseDial_collecting (p := p) rfl rfl hcall]
    · have hplacing : p.cc.call ≠ .placing := by
        show s.part.cc.call ≠ .placing
        simp [hcall]
      rewrite [hhit, ratingOf_rated hcls, judgeRating_placed (c := ⟨e.copy, e.index, i⟩) (p := p) hres hfreeOnly henough]
      exact ⟨_, rfl, placeCall_callPlaced (p := s.part) (q := p) hplacing rfl rfl rfl rfl rfl rfl rfl rfl rfl rfl,
        placeCall_cru hplacing rfl rfl, placeCall_mem hplacing rfl rfl⟩
  · rewrite [exec_scanEntryRead_last hread hlen (by simp [hengine]) hlast]
    refine ⟨fun hcheck => ?_, fun hcheck hout hin => ?_⟩
    · rewrite [verdictOf_wrong hcheck]
      obtain ⟨hrefused, hidle, hrows, hcache⟩ := completeScan_lookup_bad (p := s.part) (q := scanSummed i words s.part)
        hengine hf hr hcall rfl rfl rfl rfl rfl rfl rfl 2
      exact ⟨_, rfl, hrefused, hidle, hrows, hcache⟩
    · rewrite [verdictOf_good hcheck hout hin]
      let q := scanSummed i words s.part
      have hengine' : q.rtu.engine = .lookup number n := hengine
      have hbest : q.rtu.scan.best =
          betterMatch number i (entryOf words) s.part.rtu.scan.best := by
        simp [q, scanSummed, scanAfter, hengine]
      obtain ⟨hengine₁, hdue₁, hcru₁, hmem₁⟩ :=
        completeScan_passed_frame hengine' (p := q) hf hr hcall
      refine ⟨_, rfl, hengine₁, hdue₁, hcru₁.trans (clear_cru_congr (p := s.part) (q := q) rfl _), hmem₁, fun hnone => ?_,
        fun index copy hsome htarget => ?_⟩
      · rewrite [completeScan_unmatched hengine' (hbest.trans hnone)]
        exact ⟨refuseDial_refused (q := scanPassed q) ((scanPassed_inFlight q).trans hf) ((scanPassed_result q).trans hr)
          ((congrArg Cc.call (scanPassed_cc q)).trans hcall) (scanPassed_cc q) (scanPassed_rlu q) (scanPassed_cau q)
          (scanPassed_cu q) (scanPassed_mem q),
          ((congrArg Rtu.cache (refuseDial_rtu ..)).trans (congrArg Rtu.cache (scanPassed_rtu q)) :)⟩
      · rewrite [completeScan_matched hengine' (hbest.trans hsome) htarget]
        intro target filled allowed barred held short
        have hrestriction : (scanFilled number index copy q).cru.restriction = allowed :=
          congrArg Cru.restriction ((scanPassed_cru q).trans (clear_cru_congr (p := s.part) (q := q) rfl _))
        have hjudged := judgeRating_ratingOf (c := { copy, index, entry := fillTarget q.rtu.cache }) (p := s.part)
          (q := scanFilled number index copy q) rfl
        simp only [hrestriction] at hjudged
        obtain ⟨hbarred, hrestricted, hshort, hplaced⟩ := hjudged ((scanPassed_inFlight q).trans hf)
          ((scanPassed_result q).trans hr) hcall (scanPassed_cc q) (congrArg Rtu.clock (scanPassed_rtu q) :)
          (congrArg Rtu.steps (scanPassed_rtu q) :) (scanPassed_lu q) (scanPassed_tick q) (scanPassed_pins q)
          (scanPassed_rlu q) (scanPassed_cau q) (scanPassed_cu q) (scanPassed_mem q)
        exact ⟨fun hb => hbarred (of_decide_eq_true hb),
          fun hb hh => hrestricted (of_decide_eq_false hb) (of_decide_eq_true hh),
          fun hb hh hs => hshort (of_decide_eq_false hb) (of_decide_eq_false hh) (of_decide_eq_true hs),
          fun hb hh hs => hplaced (of_decide_eq_false hb) (of_decide_eq_false hh) (not_lt.1 (of_decide_eq_false hs))⟩
  · intro q chosen
    rewrite [answerAtTaking_hit hlist hprobe he]
    exact ⟨fun hcls => by rw [ratingOf_barred hcls], fun hcls => by rw [ratingOf_rated hcls]⟩
  · intro target q
    rewrite [scanResult_chosen htarget]
    exact ⟨fun hcls => by rw [ratingOf_barred hcls], fun hcls => by rw [ratingOf_rated hcls]⟩
  · rw [exec_dial_open hready hfree hcall hoff hdigits hres hpulse, lookup_answered hanswer]

end Sys2Proof.Machine
end

section
/-!
PROOFS. The line's sender (O54).
-/

namespace Sys2Proof.Machine

/-! ## The timers of the sender (R118, R119) -/

set_option Elab.async false in
theorem senderTimer_due {phase : SendPhase} {p : Part} (hphase : p.lu.sender.phase = phase)
    (hdue : due p.lu.sender.timer p) : due (senderTimer phase p) p := by
  rewrite [senderTimer, if_pos hphase]
  exact hdue

section
variable {s : State} (hdue : due s.part.lu.sender.timer s.part)
include hdue

theorem exec_dtmfToneEnd (hphase : s.part.lu.sender.phase = .tone) :
    exec .dtmfToneEnd s = .next { s with part := endTone s.part } := by
  show onPart (fun p => onExpiry (senderTimer .tone p) endTone p) s = _
  rw [onPart, onExpiry_due (senderTimer_due hphase hdue)]

theorem exec_dtmfGapEnd (hphase : s.part.lu.sender.phase = .gap) :
    exec .dtmfGapEnd s = .next { s with part := endGap s.part } := by
  show onPart (fun p => onExpiry (senderTimer .gap p) endGap p) s = _
  rw [onPart, onExpiry_due (senderTimer_due hphase hdue)]

theorem exec_pulseBreakEnd (hphase : s.part.lu.sender.phase = .breaking) :
    exec .pulseBreakEnd s = .next { s with part := endBreak s.part } := by
  show onPart (fun p => onExpiry (senderTimer .breaking p) endBreak p) s = _
  rw [onPart, onExpiry_due (senderTimer_due hphase hdue)]

theorem exec_pulseMakeEnd (hphase : s.part.lu.sender.phase = .making) :
    exec .pulseMakeEnd s = .next { s with part := endMake s.part } := by
  show onPart (fun p => onExpiry (senderTimer .making p) endMake p) s = _
  rw [onPart, onExpiry_due (senderTimer_due hphase hdue)]

end

/-! ## Tones and gaps -/

theorem endGap_symbol {p : Part} {d : Nat} {rest : List Nat} (h : p.lu.sender.rest = d :: rest) :
    endGap p = startTone d rest p := by
  rw [endGap, h]

theorem endGap_last {p : Part} (h : p.lu.sender.rest = []) : endGap p = endSending p := by
  rw [endGap, h]

theorem endSending_dialling {p : Part} (h : p.lu.line = .dialling) :
    endSending p = enterAwaitAnswer { p with lu.sender := Sender.still } := by
  simp [endSending, h]

theorem endSending_frame {p : Part} (h : p.lu.line = .sending) : endSending p = markS 0 { p with
    lu.line := .awaitAck, lu.sender := Sender.still, lu.classifier := Classifier.empty
    lu.ackWait := some (newTimer 4000 p) } := by
  simp [endSending, h, newTimer]

theorem endSending_queued {p : Part} {d : Nat} {rest : List Nat} (h : p.lu.line = .connected)
    (hqueue : p.lu.inCall = d :: rest) : endSending p = startTone d [] { p with lu.inCall := rest } := by
  simp [endSending, h, hqueue, sendInCall, startTone, newTimer]

theorem endSending_rest {p : Part} (h : p.lu.line = .connected) (hqueue : p.lu.inCall = []) :
    endSending p = { p with lu.sender := Sender.still, lu.classifier := Classifier.empty } := by
  simp [endSending, h, hqueue]

/-! ## Breaks and makes (R119, R127) -/

theorem resumeLoss_current {p : Part} (h : p.pins.loop ≠ none) : resumeLoss p = p := by
  have hloop : p.pins.loop.isNone = false := by simpa [Option.isNone_eq_false_iff, Option.isSome_iff_ne_none] using h
  simp [resumeLoss, hloop]

theorem startMake_current {p : Part} (h : p.pins.loop ≠ none) (limit : Nat) : startMake limit p = { p with
    lu.sender := { p.lu.sender with phase := .making, timer := some (newTimer limit p) } } := resumeLoss_current h

theorem startMake_noCurrent {p : Part} (h : p.pins.loop = none) (hline : p.lu.line = .dialling)
    (hloss : p.lu.loss.since = none) (limit : Nat) : startMake limit p = { p with
      lu.sender := { p.lu.sender with phase := .making, timer := some (newTimer limit p) }
      lu.loss := { counted := p.lu.loss.counted, since := some p.tick } } := by
  simp [startMake, resumeLoss, h, hline, hloss, isWatched, loopClosed]

theorem endBreak_within {p : Part} (h : 0 < p.lu.sender.breaks) : endBreak p = startMake 40 p := if_pos h

theorem endBreak_between {p : Part} (h : p.lu.sender.breaks = 0) (hrest : p.lu.sender.rest ≠ []) :
    endBreak p = startMake 800 p := by
  obtain ⟨d, rest, hrest⟩ := List.exists_cons_of_ne_nil hrest
  simp [endBreak, h, hrest]

theorem endBreak_last {p : Part} (h : p.lu.sender.breaks = 0) (hrest : p.lu.sender.rest = []) :
    endBreak p = resumeLoss (enterAwaitAnswer p) := by
  simp [endBreak, h, hrest]

theorem pauseLoss_still {p : Part} (h : p.lu.loss.since = none) : pauseLoss p = p := by
  rw [pauseLoss, h]

theorem pauseLoss_running {p : Part} {t : Tick} (h : p.lu.loss.since = some t) : pauseLoss p = { p with
    lu.loss := { counted := p.lu.loss.counted + elapsed t p, since := none } } := by
  rw [pauseLoss, h]

theorem startBreak_eq {p : Part} {paused : LossTimer} (h : pauseLoss p = { p with lu.loss := paused })
    (symbol toCome : Nat) (rest : List Nat) : startBreak symbol toCome rest p = { p with
      lu.loss := paused
      lu.sender := { phase := .breaking, symbol, breaks := toCome, rest, timer := some (newTimer 60 p) } } := by
  rewrite [startBreak, h]
  rfl

theorem endMake_within {p : Part} (h : 0 < p.lu.sender.breaks) :
    endMake p = startBreak p.lu.sender.symbol (p.lu.sender.breaks - 1) p.lu.sender.rest p := if_pos h

theorem endMake_between {p : Part} {d : Nat} {rest : List Nat} (h : p.lu.sender.breaks = 0)
    (hrest : p.lu.sender.rest = d :: rest) : endMake p = startBreak d (breaksOf d - 1) rest p := by
  simp [endMake, h, hrest]

/-- Settles O54, from what ends each phase of the sender. -/
theorem digitsSent : Obligations.DigitsSent := by
  unfold Obligations.DigitsSent
  intro s hdue send loss paused
  have hpaused : pauseLoss s.part = { s.part with lu.loss := paused } := by
    dsimp only [paused, loss]
    cases h : s.part.lu.loss.since with
    | none => exact pauseLoss_still h
    | some t => exact pauseLoss_running h
  refine ⟨fun hphase => ?_, fun d rest hphase hrest => ?_, fun hphase hrest hline => ?_, fun hphase hrest => ?_,
    fun limit hphase hlimit => ?_, fun hphase hbreaks => ?_, fun d rest hphase hbreaks hrest => ?_⟩
  · rewrite [exec_dtmfToneEnd hdue hphase]
    rfl
  · rewrite [exec_dtmfGapEnd hdue hphase, endGap_symbol hrest]
    rfl
  · rewrite [exec_dtmfGapEnd hdue hphase, endGap_last hrest, endSending_dialling hline]
    exact ⟨_, rfl, rfl, rfl, rfl, rfl, rfl, rfl, rfl, rfl, rfl, rfl⟩
  · intro still empty
    refine ⟨fun hline => ?_, fun hline => ⟨fun d rest hqueue => ?_, fun hqueue => ?_⟩⟩
    · rewrite [exec_dtmfGapEnd hdue hphase, endGap_last hrest, endSending_frame hline]
      rfl
    · rewrite [exec_dtmfGapEnd hdue hphase, endGap_last hrest, endSending_queued hline hqueue]
      rfl
    · rewrite [exec_dtmfGapEnd hdue hphase, endGap_last hrest, endSending_rest hline hqueue]
      rfl
  · intro making
    have hmake : endBreak s.part = startMake limit s.part := by
      obtain ⟨h, rfl⟩ | ⟨h, hne, rfl⟩ := hlimit
      · exact endBreak_within h
      · exact endBreak_between h hne
    rewrite [exec_pulseBreakEnd hdue hphase, hmake]
    refine ⟨fun hloop => ?_, fun hloop hline hloss => ?_⟩
    · rewrite [startMake_current hloop]
      rfl
    · rewrite [startMake_noCurrent hloop hline hloss]
      rfl
  · rewrite [exec_pulseMakeEnd hdue hphase, endMake_within hbreaks, startBreak_eq hpaused]
    rfl
  · rewrite [exec_pulseMakeEnd hdue hphase, endMake_between hbreaks hrest, startBreak_eq hpaused]
    rfl

end Sys2Proof.Machine
end

section
/-!
PROOFS. The grants of the line (O52) and the answers to a report's frames (O56).
-/

namespace Sys2Proof.Machine

/-! ## The grants of an open line (R108, R109, R131, R167) -/

set_option Elab.async false in
theorem grantSeize_seized {p : Part} (h : p.pins.loop = none) (owner : Owner) (number : List Nat) :
    grantSeize owner number p = seized owner number p := (grantSeize_noCurrent h owner number).trans rfl

theorem lineFree_of_open {p : Part} (h : lineOpen p) : lineFree p = true := by
  obtain ⟨hline, hwaiting, hoff, hset, -⟩ := h
  simp [lineFree, hline, hwaiting, hoff, hset]

theorem noCurrent_of_open {p : Part} (h : lineOpen p) : p.pins.loop = none := by
  obtain ⟨-, -, -, -, hloop⟩ := h
  exact hloop

theorem lineFree_of_ne {p : Part} (h : p.lu.line ≠ .idle) : lineFree p = false := by
  simp [lineFree, h]

theorem probeAsk_granted {p : Part} (hdue : p.lu.probeDue = true) (h : lineOpen p) :
    probeAsk p = seized .probe [] { p with lu.probeDue := false } := by
  have hasks : (p.lu.probeDue && lineFree p) = true := by rw [hdue, lineFree_of_open h, Bool.and_true]
  exact (if_pos hasks).trans (grantSeize_seized (by exact noCurrent_of_open h) _ _)

theorem probeAsk_none {p : Part} (h : p.lu.probeDue = false) : probeAsk p = p := by
  simp [probeAsk, h]

theorem probeAsk_busy {p : Part} (h : p.lu.line ≠ .idle) : probeAsk p = p := by
  simp [probeAsk, lineFree_of_ne h]

/-- A report call's conditions beside the open line (R167). -/
theorem reportAsk_granted {p : Part} {number identity : List Nat} {r : ReportRecord} (hopen : lineOpen p)
    (hnumber : p.cru.number = some number) (hidentity : p.cru.identity = some identity)
    (hreport : p.cru.report = none) (hdown : isActive .lineDown p = false) (hmem : r ∈ p.cru.queue)
    (hqueued : r.sending = false) (hquiet : p.cru.quietReached = true) (hbackoff : p.cru.backoff = none) :
    reportAsk p = seized .report number { p with cru.report := some { identity, sends := 0, accepted := 0 } } := by
  have hany : (p.cru.queue.any fun r => !r.sending) = true :=
    List.any_eq_true.2 ⟨r, hmem, by simp [hqueued]⟩
  have hready : reportReady p = true := by
    simp only [reportReady, hreport, lineFree_of_open hopen, hquiet, hdown, hany, hbackoff]
    rfl
  have hasked : reportAsk p = grantSeize .report number
      { p with cru.report := some { identity, sends := 0, accepted := 0 } } := by
    simp only [reportAsk, hnumber, hidentity, hready, if_true]
  rewrite [hasked]
  exact grantSeize_seized (by exact noCurrent_of_open hopen) _ _

theorem reportAsk_unready {p : Part} (h : reportReady p = false) : reportAsk p = p := by
  unfold reportAsk
  split <;> simp [h]

theorem reportAsk_unquiet {p : Part} (h : p.cru.quietReached = false) : reportAsk p = p :=
  reportAsk_unready (by simp [reportReady, h])

theorem reportAsk_waits {p : Part} (h : p.lu.line ≠ .idle ∨ p.cru.queue = []) : reportAsk p = p := by
  refine reportAsk_unready ?_
  obtain h | h := h
  · simp [reportReady, lineFree_of_ne h]
  · simp [reportReady, h]

/-- Settles O52, from the grants of an open line and what keeps a request waiting. -/
theorem lineGranted : Obligations.LineGranted := by
  unfold Obligations.LineGranted
  refine fun s => ⟨fun number hdue hwaiting hloop => ?_, fun hdue hwaiting hprobe hquiet => ?_, fun hdue => ?_,
    fun hdue => ?_, fun hdue => ?_⟩
  · show onPart (fun p => onExpiry p.lu.clearing endClearing p) s = _
    rewrite [onPart, onExpiry_due hdue, endClearing, hwaiting]
    exact congrArg (fun p => Host.Outcome.next { s with part := p }) (grantSeize_seized hloop _ _)
  · show onPart (fun p => onExpiry p.lu.clearing endClearing p) s = _
    rewrite [onPart, onExpiry_due hdue, endClearing, hwaiting]
    dsimp only
    rewrite [probeAsk_none (p := enterIdle s.part) hprobe, reportAsk_unquiet (p := enterIdle s.part) hquiet]
    rfl
  · have htaken : exec .probeTimerExpiry s = .next
        { s with part := probeAsk { s.part with lu.probe := none, lu.probeDue := true } } := by
      show onPart (fun p => onExpiry p.lu.probe _ p) s = _
      rw [onPart, onExpiry_due hdue]
    rewrite [htaken]
    refine ⟨fun hopen => ?_, fun hline => ?_⟩
    · rw [probeAsk_granted rfl (by exact hopen)]
    · rw [probeAsk_busy (by exact hline)]
  · have htaken : exec .hookQuietExpiry s = .next
        { s with part := reportAsk { s.part with cru.hookQuiet := none, cru.quietReached := true } } := by
      show onPart (fun p => onExpiry p.cru.hookQuiet _ p) s = _
      rw [onPart, onExpiry_due hdue]
    rewrite [htaken]
    refine ⟨fun number identity r hopen hnumber hidentity hreport hdown hmem hqueued hbackoff => ?_, fun h => ?_⟩
    · rw [reportAsk_granted (p := { s.part with cru.hookQuiet := none, cru.quietReached := true }) hopen hnumber
        hidentity hreport hdown hmem hqueued rfl hbackoff]
    · rw [reportAsk_waits (p := { s.part with cru.hookQuiet := none, cru.quietReached := true }) h]
  · have hcancel : cancelBackoff s.part = markS 4 { s.part with cru.backoff := none } := by
      obtain ⟨u, hu, -⟩ := hdue
      exact if_pos (by rewrite [hu]; rfl)
    have htaken : exec .backoffExpiry s = .next
        { s with part := reportAsk (markS 4 { s.part with cru.backoff := none }) } := by
      show onPart (fun p => onExpiry p.cru.backoff (fun p => reportAsk (cancelBackoff p)) p) s = _
      rw [onPart, onExpiry_due hdue, hcancel]
    rewrite [htaken]
    refine ⟨fun number identity r hopen hnumber hidentity hreport hdown hmem hqueued hquiet => ?_, fun h => ?_⟩
    · rewrite [reportAsk_granted (p := markS 4 { s.part with cru.backoff := none }) hopen hnumber hidentity hreport hdown
        hmem hqueued hquiet rfl]
      rfl
    · rw [reportAsk_waits (p := markS 4 { s.part with cru.backoff := none }) h]

/-! ## A frame and its answer (R128, R169 to R171) -/

/-- A frame is never empty. -/
theorem frameOf_cons (identity : List Nat) (r : ReportRecord) :
    frameOf identity r = 10 :: (frameDigits identity r ++ [checkDigit (frameDigits identity r), 11]) := rfl

/-- The frame does not show what a sending notes in its record. -/
theorem frameOf_composed (identity : List Nat) (r : ReportRecord) :
    frameOf identity (composed r) = frameOf identity r := rfl

/-- A record is sent on a connected line after ANSWERED (R169). -/
theorem sendFrame_sent {r : ReportRecord} {p : Part} {c : ReportCall} {s1 : Nat} {rest : List Nat}
    (hreport : p.cru.report = some c) (hline : p.lu.line = .connected) (hannounced : p.lu.announced = true)
    (hframe : frameOf c.identity r = s1 :: rest) : sendFrame r p = startTone s1 rest (markS 0
      { changeRecord r.slot composed { p with cru.report := some { c with sends := c.sends + 1 } } with
        lu.line := .sending }) := by
  unfold sendFrame
  rewrite [hreport]
  dsimp only
  rw [if_pos ⟨hline, hannounced⟩, hframe]

/-- A SILENCE or a B before the third send has the frame sent again (R171). -/
theorem frameNotAccepted_again {p : Part} {c : ReportCall} {r : ReportRecord} (hreport : p.cru.report = some c)
    (hsending : sendingRecord p = some r) (h : c.sends < 3) : frameNotAccepted p = sendFrame r p := by
  unfold frameNotAccepted
  rewrite [hreport, hsending]
  exact if_pos h

theorem receiveSymbol_ignored {x : Nat} {p : Part} (h : p.lu.line ≠ .awaitAck ∨ (x ≠ 12 ∧ x ≠ 13)) :
    receiveSymbol x p = p := by
  unfold receiveSymbol
  split
  · next hline =>
    obtain ⟨h12, h13⟩ := h.resolve_left (not_not.2 hline)
    rw [if_neg h12, if_neg h13]
  · rfl

theorem receiveSymbol_declined {p : Part} (h : p.lu.line = .awaitAck) :
    receiveSymbol 13 p = handResult frameNotAccepted p := if_pos h

theorem receiveSymbol_accepted {p : Part} (h : p.lu.line = .awaitAck) :
    receiveSymbol 12 p = handResult frameAccepted p := if_pos h

/-- The line is CONNECTED again as a frame's result is handed over. -/
def resultHanded (p : Part) : Part := markS 0 { p with lu.line := .connected, lu.ackWait := none }

theorem exec_ackWaitExpiry {s : State} (h : due s.part.lu.ackWait s.part) :
    exec .ackWaitExpiry s = .next { s with part := frameNotAccepted (resultHanded s.part) } := by
  show onPart (fun p => onExpiry p.lu.ackWait (handResult frameNotAccepted) p) s = _
  rewrite [onPart, onExpiry_due h]
  rfl

theorem exec_dtmfSymbol_declined {s : State} (h : s.part.lu.line = .awaitAck) :
    exec (.dtmfSymbolReceived 13) s = .next { s with part := frameNotAccepted (resultHanded s.part) } := by
  show onPart (receiveSymbol 13) s = _
  rewrite [onPart, receiveSymbol_declined h]
  rfl

theorem exec_dtmfSymbol_accepted {s : State} (h : s.part.lu.line = .awaitAck) :
    exec (.dtmfSymbolReceived 12) s = .next { s with part := frameAccepted (resultHanded s.part) } := by
  show onPart (receiveSymbol 12) s = _
  rewrite [onPart, receiveSymbol_accepted h]
  rfl

/-- The part in which an accepted frame has been counted and its record taken from the queue. -/
def frameCounted (c : ReportCall) (r : ReportRecord) (p : Part) : Part :=
  acceptRecord r { (if p.cru.failures = 0 then p else markS 4 { p with cru.failures := 0 }) with
    cru.report := some { c with accepted := c.accepted + 1 } }

theorem frameAccepted_goesOn {p : Part} {c : ReportCall} {r : ReportRecord} (hreport : p.cru.report = some c)
    (hsending : sendingRecord p = some r) (h : c.accepted < 7) :
    frameAccepted p = chooseRecord (frameCounted c r p) := by
  unfold frameAccepted
  rewrite [hreport, hsending]
  exact if_neg (by omega)

theorem chooseRecord_next {p : Part} {n : ReportRecord} {c : ReportCall} (hreport : p.cru.report = some c)
    (h : nextRecord p.cru.queue = some n) :
    chooseRecord p = sendFrame n { p with cru.report := some { c with sends := 0 } } := by
  unfold chooseRecord
  rewrite [h]
  dsimp only
  rewrite [hreport]
  rfl

/-- What a frame handed to the LU does: it leaves the failures, the calls and the money alone. -/
theorem sendFrame_frame {r : ReportRecord} {p : Part} {c : ReportCall} (hreport : p.cru.report = some c)
    (hline : p.lu.line = .connected) (hannounced : p.lu.announced = true) :
    (sendFrame r p).lu.line = .sending ∧ (sendFrame r p).lu.ackWait = p.lu.ackWait
      ∧ (∀ s1 rest, frameOf c.identity r = s1 :: rest → (sendFrame r p).lu.sender =
        { phase := .tone, symbol := s1, breaks := 0, rest, timer := some { start := p.tick, limit := 80 } })
      ∧ (sendFrame r p).cru = { p.cru with
          report := some { c with sends := c.sends + 1 }
          queue := p.cru.queue.map fun x => if x.slot = r.slot then composed x else x }
      ∧ (sendFrame r p).cc = p.cc ∧ (sendFrame r p).rlu = p.rlu ∧ (sendFrame r p).cau = p.cau
      ∧ (sendFrame r p).mem = p.mem ∧ Publishes p (sendFrame r p) := by
  rewrite [sendFrame_sent hreport hline hannounced (frameOf_cons c.identity r)]
  refine ⟨rfl, rfl, fun s1 rest h => ?_, rfl, rfl, rfl, rfl, rfl, ?_⟩
  · obtain ⟨rfl, rfl⟩ := List.cons.inj ((frameOf_cons c.identity r).symm.trans h)
    rfl
  · have hchanged : Publishes p (changeRecord r.slot composed { p with
        cru.report := some { c with sends := c.sends + 1 } }) := .after (changeRecord_publishes _ _ _) rfl
    have hmarked : Publishes p (markS 0 { changeRecord r.slot composed { p with
        cru.report := some { c with sends := c.sends + 1 } } with lu.line := .sending }) :=
      .ofLast (markS_publishes _ _) (hchanged.trans (.of_bpu rfl))
    exact hmarked.trans (.of_bpu rfl)

theorem frameCounted_frame {c : ReportCall} {r : ReportRecord} {p : Part} (h : r.updated = false) :
    (frameCounted c r p).cru = { p.cru with
        failures := 0, report := some { c with accepted := c.accepted + 1 }
        queue := p.cru.queue.filter fun x => x.slot != r.slot }
      ∧ (frameCounted c r p).lu = p.lu ∧ Group.report r.slot ∈ (frameCounted c r p).bpu.dirty
      ∧ (frameCounted c r p).cc = p.cc ∧ (frameCounted c r p).rlu = p.rlu ∧ (frameCounted c r p).cau = p.cau
      ∧ (frameCounted c r p).mem = p.mem := by
  unfold frameCounted acceptRecord
  rewrite [h]
  split
  · next h0 => exact ⟨by simp [h0], rfl, mem_insertGroup_self _ _, rfl, rfl, rfl, rfl⟩
  · exact ⟨rfl, rfl, mem_insertGroup_self _ _, rfl, rfl, rfl, rfl⟩

/-- Settles O56, from the result of a frame handed to the CRU. -/
theorem framesAnswered : Obligations.FramesAnswered := by
  unfold Obligations.FramesAnswered
  refine fun s => ⟨fun x h => ?_, fun c r hreport hsending hsends hannounced => ?_,
    fun c r n hreport hsending hline hannounced hupdated haccepted => ?_⟩
  · show onPart (receiveSymbol x.toNat) s = _
    rw [onPart, receiveSymbol_ignored h]
  · have hagain : frameNotAccepted (resultHanded s.part) = sendFrame r (resultHanded s.part) :=
      frameNotAccepted_again (p := resultHanded s.part) hreport hsending hsends
    obtain ⟨hline, hack, hsender, hcru, hcc, hrlu, hcau, hmem, -⟩ :=
      sendFrame_frame (r := r) (p := resultHanded s.part) hreport rfl hannounced
    refine ⟨{ s with part := sendFrame r (resultHanded s.part) }, _, _, frameOf_cons c.identity (composed r),
      fun hdue => ?_, fun hwait => ?_, hline, hack, hsender _ _ (frameOf_cons c.identity r), ?_, ?_, ?_, hcc, hrlu, hcau,
      hmem⟩
    · rw [exec_ackWaitExpiry hdue, hagain]
    · rw [exec_dtmfSymbol_declined hwait, hagain]
    · rw [hcru]
    · rewrite [hcru]
      rfl
    · rewrite [hcru]
      rfl
  · intro others hnext
    obtain ⟨hcru, hlu, hmarked, hcc, hrlu, hcau, hmem⟩ := frameCounted_frame (c := c) (p := resultHanded s.part) hupdated
    have hgoesOn := frameAccepted_goesOn (p := resultHanded s.part) hreport hsending haccepted
    have hcall : (frameCounted c r (resultHanded s.part)).cru.report = some { c with accepted := c.accepted + 1 } := by
      rw [hcru]
    have hchosen := chooseRecord_next hcall (n := n) (by rewrite [hcru]; exact hnext)
    generalize frameCounted c r (resultHanded s.part) = q at *
    obtain ⟨hline', -, -, hcru', hcc', hrlu', hcau', hmem', hpublishes⟩ :=
      sendFrame_frame (r := n) (p := { q with cru.report := some { c with accepted := c.accepted + 1, sends := 0 } }) rfl
        (by rewrite [hlu]; rfl) (by rewrite [hlu]; exact hannounced)
    refine ⟨_, (exec_dtmfSymbol_accepted hline).trans (by rw [hgoesOn, hchosen]), hline', ?_, ?_, ?_,
      hpublishes.dirty _ hmarked, ?_, hcc'.trans hcc, hrlu'.trans hrlu, hcau'.trans hcau, hmem'.trans hmem⟩
    · rewrite [hcru']
      dsimp only
      rw [hcru]
    · rewrite [hcru']
      dsimp only
      rewrite [hcru]
      rfl
    · rw [hcru']
    · rewrite [hcru']
      dsimp only
      rewrite [hcru]
      rfl

end Sys2Proof.Machine
end

section
/-!
PROOFS. Flash reads that rejoin or fail back (O41), with the end of a profile load that finds no good profile.
-/

namespace Sys2Proof.Machine

/-! ## What the requesters' asks leave (R109, R131, R167) -/

set_option Elab.async false in
theorem grantSeize_settings (owner : Owner) (number : List Nat) (p : Part) :
    (grantSeize owner number p).lu.settings = p.lu.settings := by
  unfold grantSeize
  dsimp only
  split <;> rfl

theorem probeAsk_cru (p : Part) : (probeAsk p).cru = p.cru := by
  unfold probeAsk
  split
  · rw [grantSeize_cru]
  · rfl

theorem probeAsk_settings (p : Part) : (probeAsk p).lu.settings = p.lu.settings := by
  unfold probeAsk
  split
  · rw [grantSeize_settings]
  · rfl

theorem reportAsk_settings (p : Part) : (reportAsk p).lu.settings = p.lu.settings := by
  unfold reportAsk
  split
  · split
    · rw [grantSeize_settings]
    · rfl
  · rfl

theorem markAll_frame (gs : List Group) (p : Part) : markAll gs p = { p with
    bpu.dirty := (markAll gs p).bpu.dirty } := by
  induction gs generalizing p with
  | nil => rfl
  | cons g gs ih => exact ih (mark g p)

theorem markAll_publishes (gs : List Group) (p : Part) : Publishes p (markAll gs p) := by
  induction gs generalizing p with
  | nil => exact .refl p
  | cons g gs ih => exact (mark_publishes g p).trans (ih _)

theorem mem_markAll {g : Group} {gs : List Group} (h : g ∈ gs) (p : Part) : g ∈ (markAll gs p).bpu.dirty := by
  induction gs generalizing p with
  | nil => cases h
  | cons x xs ih =>
    obtain rfl | h := List.mem_cons.1 h
    · exact (markAll_publishes xs _).dirty _ (mem_insertGroup_self _ _)
    · exact ih h _

/-! ## The settings of a profile (R72) -/

/-- What a profile sets, and the condition table. -/
def settingsView (p : Part) :=
  (p.bpu.windows, p.cu.table, p.cau.vc, p.rtu.freeList, p.rtu.calendar, p.rtu.steps, p.lu.settings, p.cru.number,
    p.cru.identity, p.cru.rows)

theorem probeAsk_settingsView (p : Part) : settingsView (probeAsk p) = settingsView p := by
  have hi := probeAsk_inner p
  rw [settingsView, outer_windows (probeAsk_outer p), inner_cu hi, inner_cau hi, inner_rtu hi, probeAsk_settings,
    probeAsk_cru, settingsView]

theorem reportAsk_settingsView (p : Part) : settingsView (reportAsk p) = settingsView p := by
  have hs := reportAsk_settings p
  unfold settingsView
  rw [hs, reportAsk_frame]

/-! ## The end of the start load (R45, R72, R84) -/

/-- The part at the end of the start load with its START record appended. -/
def startRecorded (o : Part) : Part := appendRecord (.start o.started o.rtu.clock) (markPublication o)

theorem endStartLoad_eq (result : Except Nat Profile) (p : Part) : endStartLoad result p =
    reportAsk (probeAsk (gateWork (judgeBand (beginFirstReads (startRecorded (startOutcome result p)))))) := rfl

/-- The two reads requested at the end of the start load. -/
def firstReads (reads : List PartRead) (p : Part) : Part :=
  { p with
    free := p.free + 1, rtu.verifyDue := false, rtu.engine := .verify, rtu.scan := Scan.fresh
    cau.load := .reading 0, bpu.waiting := p.bpu.waiting ++ reads }

theorem beginFirstReads_idle {p : Part} (h : p.rtu.engine = .idle) :
    ∃ reads, (reads = [⟨.startLoad 0 0, none⟩, ⟨.scanHeader, none⟩]
        ∨ reads = [⟨.scanHeader, none⟩, ⟨.startLoad 0 0, none⟩]) ∧ beginFirstReads p = firstReads reads p := by
  unfold beginFirstReads
  dsimp only
  split
  · refine ⟨_, .inl rfl, ?_⟩
    rewrite [beginVerify_due (by rfl) (by exact h)]
    simp [beginAccountLoad, beginScan, requestRead, firstReads]
  · refine ⟨_, .inr rfl, ?_⟩
    rewrite [beginVerify_due (by rfl) (by exact h)]
    simp [beginAccountLoad, beginScan, requestRead, firstReads]

/-- A band judged while no call is charged. -/
theorem judgeBand_idle_frame {p : Part} (h : p.rtu.timing.state = .idle) : ∃ band dirty,
    (∀ g ∈ p.bpu.dirty, g ∈ dirty) ∧ judgeBand p = { p with rtu.band := band, bpu.dirty := dirty } := by
  rewrite [judgeBand_idle h]
  split
  · exact ⟨_, _, fun _ hg => hg, rfl⟩
  · exact ⟨_, _, fun _ hg => mem_insertGroup_of_mem hg, rfl⟩

/-- The START record marks and appends, and touches nothing else. -/
theorem startRecorded_frame (o : Part) : ∃ cc dirty causes attention,
    startRecorded o = { o with cc, bpu.dirty := dirty, bpu.causes := causes, bpu.attention := attention }
      ∧ (∀ g ∈ [Group.result] ++ (List.range 8).map Group.status ++ (List.range 8).map Group.report, g ∈ dirty)
      ∧ (o.cc.heldCount < 64 → (o.cc.producer, RingRecord.start o.started o.rtu.clock) ∈ cc.records
        ∧ cc.heldCount = o.cc.heldCount + 1) := by
  have hmarked : markPublication o = { o with bpu.dirty := (markPublication o).bpu.dirty } := markAll_frame _ o
  have hmarks : ∀ g ∈ [Group.result] ++ (List.range 8).map Group.status ++ (List.range 8).map Group.report,
      g ∈ (markPublication o).bpu.dirty := fun g hg => mem_markAll hg o
  generalize (markPublication o).bpu.dirty = d at hmarked hmarks
  rewrite [startRecorded, hmarked]
  refine ⟨_, _, _, _, appendRecord_frame _ _, fun g hg => (appendRecord_publishes _ _).dirty g (hmarks g hg), fun h => ?_⟩
  rewrite [appendRecord, if_pos h]
  simp

theorem inner_port {p q : Part} (h : inner q = inner p) : q.bpu.port = p.bpu.port := by
  simp only [inner, Prod.mk.injEq] at h; exact h.2.2.2.2.2.2.2.2.1

theorem inner_waiting {p q : Part} (h : inner q = inner p) : q.bpu.waiting = p.bpu.waiting := by
  simp only [inner, Prod.mk.injEq] at h; exact h.2.2.2.2.2.2.1

theorem inner_aside {p q : Part} (h : inner q = inner p) : q.bpu.aside = p.bpu.aside := by
  simp only [inner, Prod.mk.injEq] at h; exact h.2.2.2.2.2.2.2.1

theorem inner_profileWords {p q : Part} (h : inner q = inner p) : q.bpu.profileWords = p.bpu.profileWords := by
  simp only [inner, Prod.mk.injEq] at h; exact h.2.2.2.2.2.2.2.2.2.2.2.2.2.2.1

/-- The end of the start load, from its outcome on. -/
theorem startLoad_tail {o : Part} (hload : o.bpu.load = none) (hport : o.bpu.port = none)
    (hwords : o.bpu.profileWords = []) (hengine : o.rtu.engine = .idle) (htiming : o.rtu.timing.state = .idle)
    (hdump : o.rlu.dump = .waiting) {q : Part}
    (hq : reportAsk (probeAsk (gateWork (judgeBand (beginFirstReads (startRecorded o))))) = q) :
    settingsView q = settingsView o ∧ startLoadEnded o q ∧ q.bpu.aside = o.bpu.aside ∧ outer q = outer o := by
  obtain ⟨cc, dirty, causes, attention, hrecorded, hmarks, hcc⟩ := startRecorded_frame o
  rewrite [hrecorded] at hq
  generalize ha : ({ o with cc, bpu.dirty := dirty, bpu.causes := causes, bpu.attention := attention } : Part) = a at hq
  obtain ⟨reads, hreads, hfirst⟩ := beginFirstReads_idle (p := a) (by rewrite [← ha]; exact hengine)
  obtain ⟨band, dirty', hgrow, hjudged⟩ := judgeBand_idle_frame (p := firstReads reads a) (by rewrite [← ha]; exact htiming)
  have hgate : gateWork (judgeBand (firstReads reads a)) = judgeBand (firstReads reads a) := by
    refine gateWork_dump ?_
    rewrite [hjudged, ← ha]
    simp [firstReads, hdump]
  rewrite [hfirst, hgate, hjudged] at hq
  have hdirty : ∀ g ∈ dirty, g ∈ q.bpu.dirty := fun g hg => by
    rewrite [← hq]
    exact (reportAsk_publishes _).dirty _ ((probeAsk_publishes _).dirty _ (hgrow g (by rewrite [← ha]; exact hg)))
  have hi := (congrArg inner hq.symm).trans ((reportAsk_inner _).trans (probeAsk_inner _))
  have ho := (congrArg outer hq.symm).trans ((reportAsk_outer _).trans (probeAsk_outer _))
  have hv := (congrArg settingsView hq.symm).trans ((reportAsk_settingsView _).trans (probeAsk_settingsView _))
  subst ha
  have hload' := inner_load hi
  have hport' := inner_port hi
  have hwords' := inner_profileWords hi
  have hrlu' := inner_rlu hi
  have hmem' := outer_mem ho
  have htick' := outer_tick ho
  have haside' := inner_aside hi
  refine ⟨hv, ⟨hload'.trans hload, hport'.trans hport, hwords'.trans hwords,
    hdirty _ (hmarks _ (by decide)), fun k hk => ⟨hdirty _ (hmarks _ ?_), hdirty _ (hmarks _ ?_)⟩, fun h => ?_, ?_, ?_, ?_,
    ?_, hrlu', ?_, hmem', htick'⟩, haside', ho⟩
  · simpa using hk
  · simpa using hk
  · rewrite [inner_cc hi]
    exact hcc h
  · rewrite [inner_cau hi]
    rfl
  · rewrite [inner_rtu hi]
    rfl
  · rewrite [inner_rtu hi]
    rfl
  · rewrite [inner_waiting hi]
    obtain rfl | rfl := hreads
    · exact .inl rfl
    · exact .inr rfl
  · rewrite [inner_cau hi]
    rfl

theorem startLoadEnded_congr {p o q : Part} (hcc : o.cc = p.cc) (hstarted : o.started = p.started)
    (hclock : o.rtu.clock = p.rtu.clock) (hwaiting : o.bpu.waiting = p.bpu.waiting) (hrlu : o.rlu = p.rlu)
    (hmoney : o.cau.money = p.cau.money) (hmem : o.mem = p.mem) (htick : o.tick = p.tick)
    (h : startLoadEnded o q) : startLoadEnded p q := by
  unfold startLoadEnded at h ⊢
  rwa [hcc, hstarted, hclock, hwaiting, hrlu, hmoney, hmem, htick] at h

/-- PROFILE_BAD makes no report, so that its raise ends with the condition table. -/
theorem raise_profileBad_eq (detail : Nat) (p : Part) :
    raise .profileBad detail p = raisedTable .profileBad detail p :=
  (raise_eq _ _ _).trans (if_pos rfl)

/-- The part of a start load that has found no good profile, before PROFILE_BAD is raised. -/
def builtInInstalled (p : Part) : Part :=
  { p with bpu.load := none, bpu.profileWords := [], bpu.windows := some builtInBases }

/-- The end of a start load that has found no good profile (R71, R72). -/
theorem endStartLoad_bad {p : Part} (hport : p.bpu.port = none) (hengine : p.rtu.engine = .idle)
    (htiming : p.rtu.timing.state = .idle) (hdump : p.rlu.dump = .waiting) (detail : Nat) :
    startLoadBad detail p (endStartLoad (.error detail) p)
      ∧ (endStartLoad (.error detail) p).bpu.aside = p.bpu.aside
      ∧ (endStartLoad (.error detail) p).bpu.hostQueue = p.bpu.hostQueue
      ∧ (endStartLoad (.error detail) p).bpu.starvation = p.bpu.starvation := by
  have hrows : (raise .profileBad detail (builtInInstalled p)).cru.rows = (raise .profileBad detail p).cru.rows :=
    raise_rows_congr (p := p) (q := builtInInstalled p) rfl rfl _ _
  have hframe : startOutcome (.error detail) p = _ :=
    (raise_profileBad_eq detail (builtInInstalled p)).trans (raisedTable_frame .profileBad detail (builtInInstalled p))
  rewrite [raise_profileBad_eq] at hrows
  rewrite [hrows] at hframe
  have hq := endStartLoad_eq (.error detail) p
  rewrite [hframe] at hq
  generalize endStartLoad (.error detail) p = q at hq ⊢
  obtain ⟨hview, hended, haside, houter⟩ := startLoad_tail (by rfl) (by exact hport) (by rfl) (by exact hengine)
    (by exact htiming) (by exact hdump) hq.symm
  have hkept := outer_hostQueue houter
  have hcount := outer_starvation houter
  simp only [settingsView, Prod.mk.injEq] at hview
  obtain ⟨hwindows, htable, hvc, hlist, hcalendar, hsteps, hsettings, hnumber, hidentity, hrows'⟩ := hview
  exact ⟨⟨hwindows, hrows', htable, hvc, hlist, hcalendar, hsteps, hsettings, hnumber, hidentity,
    startLoadEnded_congr rfl rfl rfl rfl rfl rfl rfl rfl hended⟩, haside, hkept, hcount⟩

/-- The end of a reload that has found no good profile (R73). -/
theorem endReload_bad {p : Part} (hf : p.bpu.inFlight = some 8) (hr : p.bpu.result = .pending) (detail : Nat) :
    endReload (.error detail) p =
      resulted .done (raise .profileBad detail { p with bpu.load := none, bpu.profileWords := [] }) := by
  have hi := raise_inner .profileBad detail { p with bpu.load := none, bpu.profileWords := [] }
  have hf' := inner_inFlight hi
  have hr' := inner_result hi
  exact (completeIf_awaited (hf'.trans hf) (hr'.trans hr)).trans rfl

theorem endProfileLoad_start {p : Part} (h : p.bpu.load = some .start) (result : Except Nat Profile) :
    endProfileLoad result p = endStartLoad result p := by
  rw [endProfileLoad, h]

theorem endProfileLoad_reload {p : Part} (h : p.bpu.load = some .reload) (result : Except Nat Profile) :
    endProfileLoad result p = endReload result p := by
  rw [endProfileLoad, h]

/-! ## A flash read that fails back (R69, R83, R84) -/

/-- With no host access waiting, the limit of a read set aside hands the failure to the read's owner. -/
theorem failBack_due {p : Part} {reader : FlashReader} {r : PartRead} (hb : p.pins.flashBusy = true)
    (hfound : p.bpu.aside.find? (isReadOf reader) = some r) (hdue : due r.limit p)
    (hqueue : (failRead reader { p with
      bpu.aside := p.bpu.aside.filter fun x => !isReadOf reader x }).bpu.hostQueue = []) :
    failBack reader p = failRead reader { p with bpu.aside := p.bpu.aside.filter fun x => !isReadOf reader x } := by
  unfold failBack
  rewrite [if_pos hb, hfound]
  dsimp only
  rewrite [onExpiry_due hdue]
  exact serveRounds_idle hqueue _

/-- A scan that stops with no run of its own on the port. -/
theorem stopScan_free {p : Part} (h : p.bpu.port = none) : stopScan p = { p with
    rtu.engine := .idle
    bpu.waiting := p.bpu.waiting.filter fun x => !ofScan x.purpose
    bpu.aside := p.bpu.aside.filter fun x => !ofScan x.purpose
    bpu.port := none } := by
  simp [stopScan, withdrawReads, h]

theorem scanFailsBack_verify {p : Part} (h : p.rtu.engine = .verify) (hdue : p.rtu.verifyDue = false) :
    scanFailsBack p = { stopScan p with rtu.quiet := some (newTimer 2000 p) } := by
  have hfails : scanFailsBack p = beginVerify { stopScan p with rtu.quiet := some (newTimer 2000 (stopScan p)) } := by
    rw [scanFailsBack, h]
  rewrite [hfails, beginVerify_none (by exact hdue)]
  rfl

theorem scanFailsBack_lookup {p : Part} {number : List Nat} {n : Nat} (h : p.rtu.engine = .lookup number n) :
    scanFailsBack p = beginVerify (refuseDial .rateUnavailable (stopScan p)) := by
  rewrite [scanFailsBack, h]
  rfl

/-- What a lookup scan's failure leaves (R83): DIAL is answered, and a verification that is due begins. -/
theorem scanFailsBack_answered {p : Part} {number : List Nat} {n : Nat} (h : p.rtu.engine = .lookup number n)
    (hport : p.bpu.port = none) (hf : p.bpu.inFlight = some 1) (hr : p.bpu.result = .pending)
    (hcall : p.cc.call = .rating) {q : Part} (hq : scanFailsBack p = q) :
    dialRefused .rateUnavailable p q
      ∧ q.rtu = (if p.rtu.verifyDue then
          { p.rtu with
            engine := .verify, verifyDue := false
            scan := { count := 0, check := 0, sum := 0, best := none, outOfRange := none } }
        else { p.rtu with engine := .idle })
      ∧ q.bpu.waiting = p.bpu.waiting.filter (fun x => !ofScan x.purpose)
        ++ (if p.rtu.verifyDue then [{ purpose := .scanHeader, limit := none }] else [])
      ∧ q.bpu.aside = p.bpu.aside.filter (fun x => !ofScan x.purpose) ∧ q.bpu.port = none ∧ q.cru = p.cru
      ∧ q.lu = p.lu ∧ outer q = outer p := by
  rewrite [scanFailsBack_lookup h, stopScan_free hport, refuseDial_rating (by exact hf) (by exact hr) (by exact hcall)] at hq
  cases hdue : p.rtu.verifyDue
  · rewrite [beginVerify_none (by simpa using hdue)] at hq
    subst hq
    refine ⟨?_, ?_, ?_, ?_, ?_, ?_, ?_, ?_⟩ <;> simp [dialRefused, outer]
  · rewrite [beginVerify_due (by simpa using hdue) (by simp)] at hq
    subst hq
    refine ⟨?_, ?_, ?_, ?_, ?_, ?_, ?_, ?_⟩ <;> simp [dialRefused, outer, beginScan, Scan.fresh]

/-- Settles O41, from a flash that shows ready and the owners of a read that fails back. -/
theorem flashReadsRejoinOrFail : Obligations.FlashReadsRejoinOrFail := by
  unfold Obligations.FlashReadsRejoinOrFail
  refine fun s => ⟨rfl, fun reader hready => ?_, fun r hr hb hscan hall hdue hqueue hport => ?_,
    fun r position hb haside hpurpose hdue hqueue => ?_⟩
  · show onPart (failBack reader) s = onPart rejoinReads s
    rewrite [onPart, failBack_ready hready]
    rfl
  · have hfound : s.part.bpu.aside.find? (isReadOf .scan) = some r := by
      obtain ⟨x, hx⟩ := Option.isSome_iff_exists.1 (List.find?_isSome (p := isReadOf .scan) |>.2 ⟨r, hr, hscan⟩)
      rw [hx, hall x (List.mem_of_find?_eq_some hx)]
    have hnone : s.part.bpu.aside.filter (fun x => !isReadOf .scan x) = [] := by
      rewrite [List.filter_eq_nil_iff]
      intro x hx
      rewrite [hall x hx]
      simp [isReadOf, hscan]
    have htaken : exec (.flashReadFailBack .scan) s = .next { s with
        part := scanFailsBack { s.part with bpu.aside := [] } } := by
      show onPart (failBack .scan) s = _
      rewrite [onPart, failBack_due hb hfound hdue (by
        exact (outer_hostQueue (scanFailsBack_outer _)).trans hqueue), hnone]
      rfl
    refine ⟨fun hengine hverify => ?_, fun number n hengine hf hres hcall => ?_⟩
    · rewrite [htaken, scanFailsBack_verify (by exact hengine) (by exact hverify), stopScan_free (by exact hport)]
      simp [newTimer, hport]
    · obtain ⟨hrefused, hrtu, hwaiting, haside, hport', hcru, hlu, -⟩ := scanFailsBack_answered
        (p := { s.part with bpu.aside := [] }) hengine hport hf hres hcall rfl
      exact ⟨_, htaken, hrefused, hrtu, hwaiting, haside, hport', hcru, hlu⟩
  · have hread : isReadOf .profile r = true := by simp [isReadOf, hpurpose, ofFlash, ofScan]
    have hfound : s.part.bpu.aside.find? (isReadOf .profile) = some r := by simp [haside, hread]
    have hnone : s.part.bpu.aside.filter (fun x => !isReadOf .profile x) = [] := by simp [haside, hread]
    have hq : ∀ {t}, endProfileLoad (.error 100) { s.part with bpu.aside := [] } = t → t.bpu.hostQueue = [] →
        exec (.flashReadFailBack .profile) s = .next { s with part := t } := fun {t} ht hidle => by
      show onPart (failBack .profile) s = _
      rw [onPart, failBack_due hb hfound hdue (by rewrite [hnone]; exact (congrArg (·.bpu.hostQueue) ht).trans hidle), hnone,
        failRead, ht]
    refine ⟨fun hload hf hres => ?_, fun hload hport hengine htiming hdump => ?_⟩
    · have hend := (endProfileLoad_reload (p := { s.part with bpu.aside := [] }) hload (.error 100)).trans
        (endReload_bad (p := { s.part with bpu.aside := [] }) hf hres 100)
      refine hq hend ?_
      have hkept := outer_hostQueue (raise_outer .profileBad 100
        { s.part with bpu.aside := [], bpu.load := none, bpu.profileWords := [] })
      exact hkept.trans hqueue
    · obtain ⟨⟨hwindows, hrows, hbad⟩, hnoAside, hkept, -⟩ := endStartLoad_bad (p := { s.part with bpu.aside := [] }) hport hengine htiming
        hdump 100
      have hend := endProfileLoad_start (p := { s.part with bpu.aside := [] }) hload (.error 100)
      generalize endStartLoad (.error 100) { s.part with bpu.aside := [] } = t at *
      have hsame := raise_rows_congr (p := s.part) (q := { s.part with bpu.aside := [] }) rfl rfl .profileBad 100
      exact ⟨_, hq hend (hkept.trans hqueue), ⟨hwindows, hrows.trans hsame, hbad⟩, hnoAside⟩

end Sys2Proof.Machine
end

section
/-!
PROOFS. The reading of a profile's words (R70) and the judgement of its records (R71), for O43.
-/

namespace Sys2Proof.Machine

/-! ## The reading (R70) -/

set_option Elab.async false in
theorem sumWords_append (l m : List Word) : sumWords (l ++ m) = sumWords l + sumWords m := by
  induction l with
  | nil => simp [sumWords]
  | cons w ws ih => rw [List.cons_append, sumWords, sumWords, ih, BitVec.add_assoc]

theorem profileImage_length_cons (r : Word × List Word) (rs : List (Word × List Word)) :
    (profileImage (r :: rs)).length = 2 + r.2.length + (profileImage rs).length := by
  simp [profileImage]
  omega

theorem length_le_profileImage (rs : List (Word × List Word)) : 2 * rs.length ≤ (profileImage rs).length := by
  induction rs with
  | nil => simp
  | cons r rs ih => rewrite [profileImage_length_cons, List.length_cons]; omega

/-- A record of the profile as the loader keeps it. -/
def recordRead (r : Word × List Word) : ProfileRecord := { key := keyOf r.1, data := r.2 }

/-- One well-formed record is read and kept. -/
theorem readRecords_record {rounds at_ : Nat} {sum : Word} {records : List ProfileRecord} {key : Word}
    {data rest : List Word} (hkey : keyOf key ≠ some .zz) (hdata : data.length ≤ 255)
    (hroom : at_ + 2 + data.length ≤ 1024) :
    readRecords (rounds + 1) at_ sum records (key :: BitVec.ofNat 16 data.length :: (data ++ rest)) =
      readRecords rounds (at_ + 2 + data.length) (sum + (key + (BitVec.ofNat 16 data.length + sumWords data)))
        (records ++ [{ key := keyOf key, data }]) rest := by
  have hlength : (BitVec.ofNat 16 data.length).toNat = data.length := by
    rw [BitVec.toNat_ofNat, Nat.mod_eq_of_lt (by omega)]
  simp only [readRecords, hlength]
  rw [if_neg (by omega), if_neg hkey, if_neg (by simp), List.take_left, List.drop_left, BitVec.add_assoc sum,
    BitVec.add_assoc sum, BitVec.add_assoc key]

/-- Well-formed records are read one after the other. -/
theorem readRecords_image {rounds : Nat} {tail : List Word} : ∀ {rs : List (Word × List Word)} {at_ : Nat} {sum : Word}
    {records : List ProfileRecord}, (∀ r ∈ rs, keyOf r.1 ≠ some .zz ∧ r.2.length ≤ 255) →
    at_ + (profileImage rs).length ≤ 1024 →
    readRecords (rounds + rs.length) at_ sum records (profileImage rs ++ tail) =
      readRecords rounds (at_ + (profileImage rs).length) (sum + sumWords (profileImage rs))
        (records ++ rs.map recordRead) tail
  | [], _, _, _, _, _ => by simp [profileImage, sumWords]
  | (key, data) :: rs, at_, sum, records, hrs, hroom => by
    obtain ⟨hkey, hdata⟩ := hrs _ List.mem_cons_self
    rewrite [profileImage_length_cons] at hroom ⊢
    have himage : profileImage ((key, data) :: rs) ++ tail =
        key :: BitVec.ofNat 16 data.length :: (data ++ (profileImage rs ++ tail)) := by
      simp [profileImage]
    have hsum : sumWords (profileImage ((key, data) :: rs)) =
        key + (BitVec.ofNat 16 data.length + sumWords data) + sumWords (profileImage rs) := by
      simp [profileImage, sumWords, sumWords_append, BitVec.add_assoc]
    dsimp only at hdata hkey hroom
    rewrite [himage, List.length_cons, ← Nat.add_assoc, readRecords_record hkey hdata (by omega),
      readRecords_image (fun r hr => hrs r (List.mem_cons_of_mem _ hr)) (by omega), hsum, BitVec.add_assoc sum,
      List.map_cons, List.append_assoc]
    congr 1
    dsimp only
    omega

/-- The reading of a profile that begins with well-formed records goes on behind them, with a round left. -/
theorem readRecords_profile {rs : List (Word × List Word)} {tail : List Word}
    (hrs : ∀ r ∈ rs, keyOf r.1 ≠ some .zz ∧ r.2.length ≤ 255) (hroom : (profileImage rs).length ≤ 1024) :
    ∃ rounds, readRecords 513 0 0 [] (profileImage rs ++ tail) =
      readRecords (rounds + 1) (profileImage rs).length (sumWords (profileImage rs)) (rs.map recordRead) tail := by
  have hshort := length_le_profileImage rs
  refine ⟨512 - rs.length, ?_⟩
  have hrounds : 513 = 512 - rs.length + 1 + rs.length := by omega
  rewrite [hrounds, readRecords_image hrs (by omega)]
  simp

theorem readProfile_of_fault {words : List Word} {position : Nat}
    (h : readRecords 513 0 0 [] words = .structureFault position) : readProfile words = .structureFault position := by
  rw [readProfile, h]

theorem readProfile_ended {rs : List (Word × List Word)} {tail : List Word} {check : Word}
    (hrs : ∀ r ∈ rs, keyOf r.1 ≠ some .zz ∧ r.2.length ≤ 255) (hroom : (profileImage rs).length + 3 ≤ 1024) :
    readProfile (profileImage rs ++ [0x5A5A, 1, check] ++ tail) =
      .ended (rs.map recordRead) (check == ~~~(sumWords (profileImage rs) + 0x5A5A + 1)) := by
  obtain ⟨rounds, hread⟩ := readRecords_profile (tail := [0x5A5A, 1, check] ++ tail) hrs (by omega)
  have hzz : keyOf 0x5A5A = some .zz := by decide
  have hone : (1 : Word).toNat = 1 := rfl
  have hend : readRecords (rounds + 1) (profileImage rs).length (sumWords (profileImage rs)) (rs.map recordRead)
      ([0x5A5A, 1, check] ++ tail) =
        .ended (rs.map recordRead) (check == ~~~(sumWords (profileImage rs) + 0x5A5A + 1)) := by
    simp only [List.cons_append, List.nil_append, readRecords, hone]
    rw [if_neg (by omega), if_pos hzz, if_neg (by simp)]
  rw [readProfile, List.append_assoc, hread, hend]

/-- A record whose length is out of bounds is a structure fault. -/
theorem readProfile_tooLong {rs : List (Word × List Word)} {tail : List Word} {key length : Word}
    (hrs : ∀ r ∈ rs, keyOf r.1 ≠ some .zz ∧ r.2.length ≤ 255) (hroom : (profileImage rs).length ≤ 1024)
    (hlong : 255 < length.toNat ∨ 1024 < (profileImage rs).length + 2 + length.toNat) :
    readProfile (profileImage rs ++ [key, length] ++ tail) = .structureFault (keyPosition (keyOf key)) := by
  obtain ⟨rounds, hread⟩ := readRecords_profile (tail := [key, length] ++ tail) hrs hroom
  refine readProfile_of_fault ?_
  rewrite [List.append_assoc, hread]
  simp only [List.cons_append, List.nil_append, readRecords]
  exact if_pos hlong

/-- A ZZ record of another length than 1 is a structure fault. -/
theorem readProfile_zzLength {rs : List (Word × List Word)} {tail : List Word} {length : Word}
    (hrs : ∀ r ∈ rs, keyOf r.1 ≠ some .zz ∧ r.2.length ≤ 255)
    (hroom : (profileImage rs).length + 2 + length.toNat ≤ 1024) (hshort : length.toNat ≤ 255) (hne : length ≠ 1) :
    readProfile (profileImage rs ++ [0x5A5A, length] ++ tail) = .structureFault 11 := by
  obtain ⟨rounds, hread⟩ := readRecords_profile (tail := [0x5A5A, length] ++ tail) hrs (by omega)
  have hzz : keyOf 0x5A5A = some .zz := by decide
  have hlength : length.toNat ≠ 1 := fun h => hne (BitVec.eq_of_toNat_eq h)
  refine readProfile_of_fault ?_
  rewrite [List.append_assoc, hread]
  simp only [List.cons_append, List.nil_append, readRecords]
  rewrite [if_neg (by omega), if_pos hzz, if_pos hlength]
  rfl

/-- A window without a ZZ record is a structure fault at its end. -/
theorem readProfile_noEnd {rs : List (Word × List Word)}
    (hrs : ∀ r ∈ rs, keyOf r.1 ≠ some .zz ∧ r.2.length ≤ 255) (hfull : (profileImage rs).length = 1024) :
    readProfile (profileImage rs) = .structureFault 0 ∨ readProfile (profileImage rs) = .structureFault 11 := by
  obtain ⟨rounds, hread⟩ := readRecords_profile (tail := []) hrs (by omega)
  rewrite [List.append_nil] at hread
  have hmore : readProfile (profileImage rs) =
      .structureFault (if Config.missingEndNamesZZ then Key.zz.position else 0) := by
    rewrite [readProfile, hread]
    simp [readRecords, hfull]
  rewrite [hmore]
  cases Config.missingEndNamesZZ
  · exact .inl rfl
  · exact .inr rfl

/-! ## The judgement (R71) -/

/-- The known key of the record at a place. -/
def keyAt (records : List ProfileRecord) (j : Nat) : Option Key := (records[j]?).bind (·.key)

/-- With no known key seen or held twice there is no repeated key. -/
theorem firstRepeated_none : ∀ {records : List ProfileRecord} {seen : List Key},
    (∀ j k, keyAt records j = some k → k ∉ seen) →
    (∀ i j k, i < j → keyAt records i = some k → keyAt records j ≠ some k) → firstRepeated seen records = none
  | [], _, _, _ => rfl
  | r :: rs, seen, hseen, hfresh => by
    have htail : ∀ i j k, i < j → keyAt rs i = some k → keyAt rs j ≠ some k := fun i j k hij hi =>
      hfresh (i + 1) (j + 1) k (by omega) hi
    unfold firstRepeated
    split
    · exact firstRepeated_none (fun j k hj => hseen (j + 1) k hj) htail
    · next k hk =>
      have h0 : keyAt (r :: rs) 0 = some k := hk
      rewrite [if_neg (hseen 0 k h0)]
      refine firstRepeated_none (fun j k' hj hmem => ?_) htail
      obtain rfl | hmem := List.mem_cons.1 hmem
      · exact hfresh 0 (j + 1) k' (by omega) h0 hj
      · exact hseen (j + 1) k' hj hmem

/-- The first record whose key was seen before, or stood before it, is the repeated one (log entry 47). -/
theorem firstRepeated_some : ∀ {records : List ProfileRecord} {seen : List Key} {j : Nat} {k : Key},
    keyAt records j = some k → (k ∈ seen ∨ ∃ i, i < j ∧ keyAt records i = some k) →
    (∀ j' k', j' < j → keyAt records j' = some k' → k' ∉ seen ∧ ∀ i, i < j' → keyAt records i ≠ some k') →
    firstRepeated seen records = some k
  | [], _, _, _, hj, _, _ => by simp [keyAt] at hj
  | r :: rs, seen, 0, k, hj, hseen, _ => by
    have hkey : r.key = some k := hj
    have hmem : k ∈ seen := by
      obtain h | ⟨i, hi, -⟩ := hseen
      · exact h
      · exact absurd hi (Nat.not_lt_zero i)
    rewrite [firstRepeated, hkey]
    exact if_pos hmem
  | r :: rs, seen, j + 1, k, hj, hseen, hfirst => by
    cases hkey : r.key with
    | none =>
      rewrite [firstRepeated, hkey]
      refine firstRepeated_some (j := j) hj ?_ fun j' k' hj' hk' => ?_
      · refine hseen.imp_right fun ⟨i, hi, hk⟩ => ?_
        cases i with
        | zero => exact absurd hk (by simp [keyAt, hkey])
        | succ i => exact ⟨i, by omega, hk⟩
      · obtain ⟨hn, hbefore⟩ := hfirst (j' + 1) k' (by omega) hk'
        exact ⟨hn, fun i hi => hbefore (i + 1) (by omega)⟩
    | some k₀ =>
      have h0 : keyAt (r :: rs) 0 = some k₀ := hkey
      obtain ⟨hn, -⟩ := hfirst 0 k₀ (by omega) h0
      rewrite [firstRepeated, hkey]
      dsimp only
      rewrite [if_neg hn]
      refine firstRepeated_some (j := j) hj ?_ fun j' k' hj' hk' => ?_
      · obtain h | ⟨i, hi, hk⟩ := hseen
        · exact .inl (List.mem_cons_of_mem _ h)
        · cases i with
          | zero => exact .inl (by rewrite [Option.some.inj (h0.symm.trans hk)]; exact List.mem_cons_self)
          | succ i => exact .inr ⟨i, by omega, hk⟩
      · obtain ⟨hn', hbefore⟩ := hfirst (j' + 1) k' (by omega) hk'
        refine ⟨?_, fun i hi => hbefore (i + 1) (by omega)⟩
        rewrite [List.mem_cons]
        rintro (rfl | h)
        · exact hbefore 0 (by omega) h0
        · exact hn' h

theorem dataOf_isNone_iff {k : Key} {records : List ProfileRecord} :
    (dataOf k records).isNone = true ↔ ∀ r ∈ records, r.key ≠ some k := by
  simp [dataOf]

theorem dataOf_some {k : Key} {records : List ProfileRecord} (h : ∃ r ∈ records, r.key = some k) :
    ∃ r ∈ records, r.key = some k ∧ dataOf k records = some r.data := by
  obtain ⟨x, hx, hkey⟩ := h
  obtain ⟨r, hr⟩ := Option.isSome_iff_exists.1 (List.find?_isSome (p := fun r => r.key == some k) |>.2
    ⟨x, hx, by simp [hkey]⟩)
  exact ⟨r, List.mem_of_find?_eq_some hr, by simpa using List.find?_some hr, by rewrite [dataOf, hr]; rfl⟩

/-- The first of a list in rising order that has a property is the lowest that has it. -/
theorem find?_lowest {α : Type} (f : α → Nat) (p : α → Bool) {k : α} : ∀ {l : List α},
    l.Pairwise (fun a b => f a < f b) → k ∈ l → p k = true → (∀ x ∈ l, f x < f k → p x = false) → l.find? p = some k
  | x :: xs, hsorted, hk, hp, hlow => by
    obtain ⟨hx, hxs⟩ := List.pairwise_cons.1 hsorted
    obtain rfl | hk := List.mem_cons.1 hk
    · exact List.find?_cons_of_pos hp
    · rewrite [List.find?_cons_of_neg (by simp [hlow x List.mem_cons_self (hx k hk)])]
      exact find?_lowest f p hxs hk hp fun y hy => hlow y (List.mem_cons_of_mem _ hy)

theorem judgeRecords_wrong (records : List ProfileRecord) :
    judgeRecords records false = .error 300 ∨ judgeRecords records false = .error 311 := by
  have h : judgeRecords records false = .error (300 + if Config.checkFaultNamesZZ then Key.zz.position else 0) := rfl
  rewrite [h]
  cases Config.checkFaultNamesZZ
  · exact .inl rfl
  · exact .inr rfl

theorem judgeRecords_repeated {records : List ProfileRecord} {k : Key} (h : firstRepeated [] records = some k) :
    judgeRecords records true = .error (400 + k.position) := by
  simp [judgeRecords, h]

theorem judgeRecords_missing {records : List ProfileRecord} {k : Key} (hfresh : firstRepeated [] records = none)
    (h : requiredKeys.find? (fun k => (dataOf k records).isNone) = some k) :
    judgeRecords records true = .error (500 + k.position) := by
  simp [judgeRecords, hfresh, h]

theorem judgeRecords_unfit {records : List ProfileRecord} {r : ProfileRecord}
    (hfresh : firstRepeated [] records = none)
    (hall : requiredKeys.find? (fun k => (dataOf k records).isNone) = none)
    (h : records.find? (fun r => !recordFits (pulseMode records) r) = some r) :
    judgeRecords records true = .error (600 + keyPosition r.key) := by
  simp only [judgeRecords, hfresh, hall, h]
  rfl

theorem judgeRecords_settings {records : List ProfileRecord} {f : Profile}
    (hfresh : firstRepeated [] records = none)
    (hall : requiredKeys.find? (fun k => (dataOf k records).isNone) = none)
    (hfits : records.find? (fun r => !recordFits (pulseMode records) r) = none) (h : settingsOf records = some f) :
    judgeRecords records true = if f.calendar.all dayFits = false then .error 710
      else if wellPlaced f.bases = false then .error 801 else .ok f := by
  simp only [judgeRecords, hfresh, hall, hfits, h]
  cases f.calendar.all dayFits <;> cases wellPlaced f.bases <;> rfl

/-- Where every record fits, the data words of a key that is held parse. -/
theorem parse_of_fits {α : Type} {k : Key} {parse : List Word → Option α} {records : List ProfileRecord}
    (h : ∃ r ∈ records, r.key = some k)
    (hfits : ∀ r ∈ records, r.key = some k → (parse r.data).isSome = true) :
    ∃ a, (dataOf k records).bind parse = some a := by
  obtain ⟨r, hr, hkey, hdata⟩ := dataOf_some h
  rewrite [hdata]
  exact Option.isSome_iff_exists.1 (hfits r hr hkey)

/-- The dial mode of the line settings is the one that the RN record is judged by (log entry 46). -/
theorem pulseMode_of_line {records : List ProfileRecord} {line : LineSettings}
    (h : (dataOf .ln records).bind parseLn = some line) : line.pulse = pulseMode records := by
  obtain ⟨ws, hws, hline⟩ := Option.bind_eq_some_iff.1 h
  unfold pulseMode
  rewrite [hws]
  unfold parseLn at hline
  split at hline
  · next m p a d t i =>
    simp only [Option.bind_eq_bind, Option.bind_eq_some_iff, Option.pure_def, Option.some.injEq] at hline
    obtain ⟨mode, hmode, policy, -, answer, -, depth, -, threshold, -, inCall, -, rfl⟩ := hline
    unfold inRange at hmode
    split at hmode
    · obtain rfl := Option.some.inj hmode
      show (m.toNat == 1) = (m == 1)
      rewrite [Bool.eq_iff_iff, beq_iff_eq, beq_iff_eq]
      exact ⟨fun h => BitVec.eq_of_toNat_eq h, fun h => by rewrite [h]; rfl⟩
    · cases hmode
  · cases hline

/-- Records that all fit, with every required key among them, give settings. -/
theorem settingsOf_fits {records : List ProfileRecord}
    (hheld : ∀ k ∈ requiredKeys, ∃ r ∈ records, r.key = some k)
    (hfits : ∀ r ∈ records, recordFits (pulseMode records) r = true) : ∃ f, settingsOf records = some f := by
  have hparse : ∀ {α : Type} {k : Key} {parse : List Word → Option α}, k ∈ requiredKeys →
      (∀ ws, recordFits (pulseMode records) { key := some k, data := ws } = (parse ws).isSome) →
      ∃ a, (dataOf k records).bind parse = some a := fun {α k parse} hk hform =>
    parse_of_fits (hheld k hk) fun r hr hkey => by
      rewrite [← hform]
      have h := hfits r hr
      rwa [show r = { key := some k, data := r.data } by rw [← hkey]] at h
  obtain ⟨bases, hwb⟩ := hparse (parse := parseWb) (k := .wb) (by decide) fun _ => rfl
  obtain ⟨identity, hpi⟩ := hparse (parse := parsePi) (k := .pi) (by decide) fun _ => rfl
  obtain ⟨coins, hct⟩ := hparse (parse := parseCt) (k := .ct) (by decide) fun _ => rfl
  obtain ⟨⟨tmin, tmax, cluster⟩, hcp⟩ := hparse (parse := parseCp) (k := .cp) (by decide) fun _ => rfl
  obtain ⟨vc, hvc⟩ := hparse (parse := parseVc) (k := .vc) (by decide) fun _ => rfl
  obtain ⟨⟨step, graceTime⟩, hss⟩ := hparse (parse := parseSs) (k := .ss) (by decide) fun _ => rfl
  obtain ⟨line, hln⟩ := hparse (parse := parseLn) (k := .ln) (by decide) fun _ => rfl
  obtain ⟨number, hrn⟩ := hparse (parse := parseRn (pulseMode records)) (k := .rn) (by decide) fun _ => rfl
  obtain ⟨calendar, hbc⟩ := hparse (parse := parseDays 7) (k := .bc) (by decide) fun _ => rfl
  rewrite [← pulseMode_of_line hln] at hrn
  cases hfp : dataOf .fp records with
  | none => exact Option.isSome_iff_exists.1 (by simp [settingsOf, hwb, hpi, hct, hcp, hvc, hss, hln, hrn, hbc, hfp])
  | some ws =>
    obtain ⟨r, hr⟩ := Option.map_eq_some_iff.1 hfp
    have hkey : r.key = some .fp := by simpa using List.find?_some hr.1
    have hfit := hfits r (List.mem_of_find?_eq_some hr.1)
    rewrite [recordFits, hkey, hr.2] at hfit
    obtain ⟨free, hfree⟩ := Option.isSome_iff_exists.1 hfit
    exact Option.isSome_iff_exists.1 (by simp [settingsOf, hwb, hpi, hct, hcp, hvc, hss, hln, hrn, hbc, hfp, hfree])

end Sys2Proof.Machine
end

section
/-!
PROOFS. What the call, the gate's work and the booking of money never touch: the settings in force, the coin unit, the
conditions and reports, and a RELOAD_PROFILE in flight.
-/

namespace Sys2Proof.Machine

/-- What no step timing, no gate work and no ending of a call changes. -/
def steadyView (p : Part) :=
  (p.cu, p.cru, p.cau.vc, p.cau.capacity, p.rtu.freeList, p.rtu.calendar, p.rtu.steps, p.lu.settings, p.bpu.load,
    decide (p.bpu.inFlight = some 8 ∧ p.bpu.result = .pending))

set_option Elab.async false in
@[simp] theorem mark_steady (g : Group) (p : Part) : steadyView (mark g p) = steadyView p := rfl
@[simp] theorem markS_steady (k : Nat) (p : Part) : steadyView (markS k p) = steadyView p := rfl
@[simp] theorem setCause_steady (c : Cause) (p : Part) : steadyView (setCause c p) = steadyView p := rfl
@[simp] theorem dropHead_steady (p : Part) : steadyView (dropHead p) = steadyView p := rfl
@[simp] theorem enterClearing_steady (p : Part) : steadyView (enterClearing p) = steadyView p := rfl
@[simp] theorem sendCharge_steady (a : Nat) (p : Part) : steadyView (sendCharge a p) = steadyView p := rfl
@[simp] theorem enterWaiting_steady (p : Part) : steadyView (enterWaiting p) = steadyView p := rfl
@[simp] theorem enterHeld_steady (t : Tick) (b : Nat) (p : Part) : steadyView (enterHeld t b p) = steadyView p := rfl
@[simp] theorem runStep_steady (i : Total) (t : Tick) (b c : Nat) (p : Part) :
    steadyView (runStep i t b c p) = steadyView p := rfl
@[simp] theorem stepStarted_steady (a : Nat) (p : Part) : steadyView (stepStarted a p) = steadyView p := rfl
@[simp] theorem beginRefund_steady (p : Part) : steadyView (beginRefund p) = steadyView p := rfl

/-- A command of another code than RELOAD_PROFILE's leaves that one in flight. -/
theorem completeIf_steady {code : Nat} (h : code ≠ 8) (c : ResultCode) (p : Part) :
    steadyView (completeIf code c p) = steadyView p := by
  unfold completeIf
  split
  · next ha =>
    have hcode : p.bpu.inFlight = some code := by
      simp only [awaits, Bool.and_eq_true, beq_iff_eq] at ha
      exact ha.1
    simp [steadyView, hcode, h]
  · rfl

@[simp] theorem touchSlot_steady (n : Nat) (p : Part) : steadyView (touchSlot n p) = steadyView p := by
  rfl

@[simp] theorem markSlot_steady (n : Nat) (p : Part) : steadyView (markSlot n p) = steadyView p := by
  unfold markSlot; simp

@[simp] theorem markRecord_steady (n : Nat) (p : Part) : steadyView (markRecord n p) = steadyView p := by
  unfold markRecord; repeat' (first | rfl | split)

@[simp] theorem bookMoney_steady (f : Money → Money) (p : Part) : steadyView (bookMoney f p) = steadyView p := by
  unfold bookMoney; simp [steadyView]

@[simp] theorem countEvent_steady (e : CountEvent) (p : Part) : steadyView (countEvent e p) = steadyView p := by
  unfold countEvent
  split
  · rewrite [markRecord_steady]; rfl
  · rfl

@[simp] theorem appendRecord_steady (r : RingRecord) (p : Part) : steadyView (appendRecord r p) = steadyView p := by
  unfold appendRecord; split <;> rfl

@[simp] theorem setCall_steady (c : CallState) (p : Part) : steadyView (setCall c p) = steadyView p := by
  unfold setCall; split <;> rfl

@[simp] theorem clearDigits_steady (p : Part) : steadyView (clearDigits p) = steadyView p := by
  unfold clearDigits; split <;> rfl

@[simp] theorem enterCollecting_steady (p : Part) : steadyView (enterCollecting p) = steadyView p := by
  simp [enterCollecting]

@[simp] theorem examineCredit_steady (p : Part) : steadyView (examineCredit p) = steadyView p := by
  unfold examineCredit; repeat' (first | rfl | split)

@[simp] theorem reexamineCredit_steady (p : Part) : steadyView (reexamineCredit p) = steadyView p := by
  unfold reexamineCredit; repeat' (first | rfl | split | simp)

@[simp] theorem creditFollows_steady (n : Nat) (p : Part) : steadyView (creditFollows n p) = steadyView p := by
  unfold creditFollows; rewrite [reexamineCredit_steady]; split <;> rfl

theorem railChange_steady {f : Part → Part} {p : Part} (h : steadyView (f p) = steadyView p) :
    steadyView (railChange f p) = steadyView p := by
  simp [railChange, h]

theorem owedChange_steady {f : Part → Part} {p : Part} (h : steadyView (f p) = steadyView p) :
    steadyView (owedChange f p) = steadyView p := by
  unfold owedChange
  dsimp only
  split <;> simp [h]

@[simp] theorem releaseLine_steady (o : Owner) (p : Part) : steadyView (releaseLine o p) = steadyView p := by
  unfold releaseLine
  dsimp only
  split <;> split <;> rfl

@[simp] theorem stopCharging_steady (p : Part) : steadyView (stopCharging p) = steadyView p := by
  unfold stopCharging; repeat' (first | rfl | split)

@[simp] theorem unlockFor_steady (c : PlacedCall) (p : Part) : steadyView (unlockFor c p) = steadyView p := by
  unfold unlockFor; split <;> rfl

@[simp] theorem bookForfeit_steady (p : Part) : steadyView (bookForfeit p) = steadyView p := by
  rewrite [bookForfeit, bookMoney_steady]; rfl

@[simp] theorem bookCharge_steady (a : Nat) (p : Part) : steadyView (bookCharge a p) = steadyView p := by
  rewrite [bookCharge, bookMoney_steady]; rfl

@[simp] theorem settle_steady (p : Part) : steadyView (settle p) = steadyView p := by
  unfold settle
  refine (owedChange_steady rfl).trans ?_
  split
  · rfl
  · exact railChange_steady (bookForfeit_steady p)

@[simp] theorem settleIfDue_steady (p : Part) : steadyView (settleIfDue p) = steadyView p := by
  unfold settleIfDue; split <;> simp

@[simp] theorem recordCall_steady (c : PlacedCall) (e : EndingMark) (n : Nat) (p : Part) :
    steadyView (recordCall c e n p) = steadyView p := by
  simp [recordCall]

@[simp] theorem leaveCall_steady (p : Part) : steadyView (leaveCall p) = steadyView p := by
  unfold leaveCall
  dsimp only
  split
  · rewrite [enterCollecting_steady]; rfl
  · rewrite [setCall_steady]; rfl

@[simp] theorem completeEnding_steady (p : Part) : steadyView (completeEnding p) = steadyView p := by
  unfold completeEnding
  split
  · rfl
  · rewrite [completeIf_steady (by decide)]; simp

@[simp] theorem endCall_steady (o : CallOutcome) (p : Part) : steadyView (endCall o p) = steadyView p := by
  unfold endCall
  dsimp only
  split
  · rewrite [setCall_steady, stopCharging_steady]; rfl
  · rewrite [completeEnding_steady, setCall_steady, stopCharging_steady]; rfl

@[simp] theorem enterGrace_steady (a : Nat) (p : Part) : steadyView (enterGrace a p) = steadyView p := by
  rewrite [enterGrace, setCall_steady]; rfl

@[simp] theorem takePassedEnd_steady (p : Part) : steadyView (takePassedEnd p) = steadyView p := by
  unfold takePassedEnd; repeat' (first | rfl | split)

@[simp] theorem beginDueStep_steady (t : Tick) (b : Nat) (p : Part) : steadyView (beginDueStep t b p) = steadyView p := by
  rewrite [beginDueStep, takePassedEnd_steady]; rfl

@[simp] theorem stepDue_steady (t : Tick) (b : Nat) (p : Part) : steadyView (stepDue t b p) = steadyView p := by
  unfold stepDue; split <;> simp

@[simp] theorem reportPaid_steady (p : Part) : steadyView (reportPaid p) = steadyView p := by
  unfold reportPaid
  dsimp only
  split
  · rewrite [beginDueStep_steady]; rfl
  · rfl

@[simp] theorem answerCharged_steady (a : Nat) (p : Part) : steadyView (answerCharged a p) = steadyView p := by
  have hstarted : steadyView (stepStarted a { p with rlu.charge := none }) = steadyView p := rfl
  unfold answerCharged
  dsimp only
  split
  · rw [completeEnding_steady, hstarted]
  · rw [reportPaid_steady, examineCredit_steady, hstarted]
  · rewrite [reportPaid_steady, setCall_steady, examineCredit_steady]; rfl
  all_goals rfl

@[simp] theorem answerShort_steady (a : Nat) (p : Part) : steadyView (answerShort a p) = steadyView p := by
  have hexamined : steadyView (examineCredit { p with rlu.charge := none }) = steadyView p :=
    (examineCredit_steady _).trans rfl
  unfold answerShort
  dsimp only
  split
  · rewrite [completeEnding_steady]; rfl
  · rw [enterGrace_steady, hexamined]
  · split
    · rw [endCall_steady, hexamined]
    · split
      · exact hexamined
      · exact hexamined
  all_goals rfl

@[simp] theorem deduct_steady (a : Nat) (p : Part) : steadyView (deduct a p) = steadyView p := by
  rewrite [deduct, answerCharged_steady]
  exact railChange_steady (bookCharge_steady a p)

@[simp] theorem takeUpCharge_steady (a : Nat) (p : Part) : steadyView (takeUpCharge a p) = steadyView p := by
  unfold takeUpCharge; repeat' (first | rfl | split | simp)

@[simp] theorem beginCycle_steady (g : GateState) (p : Part) : steadyView (beginCycle g p) = steadyView p :=
  railChange_steady rfl

@[simp] theorem gateTurn_steady (p : Part) : steadyView (gateTurn p).1 = steadyView p := by
  unfold gateTurn; repeat' (first | rfl | split | simp)

@[simp] theorem gateTurns_steady : ∀ (n : Nat) (p : Part), steadyView (gateTurns n p) = steadyView p
  | 0, _ => rfl
  | n + 1, p => by
    rewrite [gateTurns_succ]
    split
    · rw [gateTurns_steady n, gateTurn_steady]
    · exact gateTurn_steady p

@[simp] theorem gateWork_steady (p : Part) : steadyView (gateWork p) = steadyView p := gateTurns_steady _ p

set_option Elab.async false in
@[simp] theorem judgeBand_steady (p : Part) : steadyView (judgeBand p) = steadyView p := by
  unfold judgeBand
  dsimp only
  repeat' (first | rfl | split | (rw [stepDue_steady]))

end Sys2Proof.Machine
end

section
/-!
PROOFS. The reads of a profile load and its ends (O43).
-/

namespace Sys2Proof.Machine

/-! ## The end of a start load with a good profile (R72) -/

set_option Elab.async false in
/-- The end of a start load that has found a good profile (R72). -/
theorem endStartLoad_good {p : Part} (hport : p.bpu.port = none) (hengine : p.rtu.engine = .idle)
    (htiming : p.rtu.timing.state = .idle) (hdump : p.rlu.dump = .waiting) (f : Profile) {q : Part}
    (hq : endStartLoad (.ok f) p = q) :
    profileInForce f q ∧ q.bpu.windows = some f.bases ∧ q.cru.rows = p.cru.rows ∧ startLoadEnded p q
      ∧ q.bpu.hostQueue = p.bpu.hostQueue ∧ q.bpu.starvation = p.bpu.starvation := by
  obtain ⟨hview, hended, -, houter⟩ := startLoad_tail (o := startOutcome (.ok f) p) rfl hport rfl hengine htiming hdump
    ((endStartLoad_eq (.ok f) p).symm.trans hq)
  have hkept := outer_hostQueue houter
  have hcount := outer_starvation houter
  simp only [settingsView, Prod.mk.injEq] at hview
  obtain ⟨hwindows, htable, hvc, hlist, hcalendar, hsteps, hsettings, hnumber, hidentity, hrows⟩ := hview
  exact ⟨⟨hvc, hlist, hcalendar, hsteps, hsettings, hnumber, hidentity, htable⟩, hwindows, hrows,
    startLoadEnded_congr rfl rfl rfl rfl rfl rfl rfl rfl hended, hkept, hcount⟩

/-- The end of a start load, good or bad, as far as the host bus port sees it. -/
theorem endStartLoad_served {p : Part} (hport : p.bpu.port = none) (hengine : p.rtu.engine = .idle)
    (htiming : p.rtu.timing.state = .idle) (hdump : p.rlu.dump = .waiting) (result : Except Nat Profile) :
    (endStartLoad result p).bpu.hostQueue = p.bpu.hostQueue ∧ (endStartLoad result p).bpu.load = none
      ∧ (endStartLoad result p).bpu.port = none ∧ (∃ b, (endStartLoad result p).bpu.windows = some b)
      ∧ (endStartLoad result p).bpu.starvation = p.bpu.starvation := by
  cases result with
  | ok f =>
    obtain ⟨-, hwindows, -, ⟨hload, hport', -⟩, hqueue, hcount⟩ := endStartLoad_good hport hengine htiming hdump f rfl
    exact ⟨hqueue, hload, hport', ⟨_, hwindows⟩, hcount⟩
  | error detail =>
    obtain ⟨⟨hwindows, -, -, -, -, -, -, -, -, -, hload, hport', -⟩, -, hqueue, hcount⟩ :=
      endStartLoad_bad hport hengine htiming hdump detail
    exact ⟨hqueue, hload, hport', ⟨_, hwindows⟩, hcount⟩

/-! ## What a raise makes of the report queue (R163) -/

/-- What the report queue's part of a raise reads. -/
def reportsView (p : Part) := (p.cru.rows, p.cru.queue, p.cru.sequence, p.rtu.clock)

theorem joinRecord_reportsView (kind : ReportKind) (detail slot : Nat) (p : Part) :
    reportsView (joinRecord kind detail slot p) = (p.cru.rows, (joinRecord kind detail slot p).cru.queue,
      p.cru.sequence + 1, p.rtu.clock) := by
  unfold reportsView joinRecord
  rewrite [reportAsk_frame]
  dsimp only
  split
  · rewrite [cancelBackoff_frame]
    rfl
  · rfl

theorem joinRecord_reportsView_congr {p q : Part} (h : reportsView q = reportsView p) (kind : ReportKind)
    (detail slot : Nat) : reportsView (joinRecord kind detail slot q) = reportsView (joinRecord kind detail slot p) := by
  simp only [reportsView, Prod.mk.injEq] at h
  obtain ⟨hrows, hqueue, hseq, hclock⟩ := h
  rw [joinRecord_reportsView, joinRecord_reportsView, joinRecord_queue, joinRecord_queue, hrows, hqueue, hseq, hclock]

theorem countDropped_reportsView (p : Part) : reportsView (countDropped p) = reportsView p := rfl

theorem newRecord_reportsView_congr {p q : Part} (h : reportsView q = reportsView p) (kind : ReportKind) (detail : Nat) :
    reportsView (newRecord kind detail q) = reportsView (newRecord kind detail p) := by
  have hjoin := joinRecord_reportsView_congr h kind detail
  have h' := h
  simp only [reportsView, Prod.mk.injEq] at h'
  obtain ⟨hrows, hqueue, hseq, hclock⟩ := h'
  unfold newRecord
  rewrite [hqueue]
  split
  · exact hjoin _
  · split
    · split
      · refine joinRecord_reportsView_congr ?_ _ _ _
        simp only [reportsView, countDropped, markS_cru, markS_rtu, hrows, hseq, hclock]
      · exact h
    · exact h

theorem enqueueRaise_reportsView_congr {p q : Part} (h : reportsView q = reportsView p) (k : Condition) (detail : Nat)
    (first : Bool) : reportsView (enqueueRaise k detail first q) = reportsView (enqueueRaise k detail first p) := by
  have h' := h
  simp only [reportsView, Prod.mk.injEq] at h'
  obtain ⟨hrows, hqueue, hseq, hclock⟩ := h'
  unfold enqueueRaise
  rewrite [hqueue]
  split
  · simp only [reportsView, changeRecord, mark_cru, mark_rtu, hrows, hqueue, hseq, hclock]
  · split
    · exact newRecord_reportsView_congr h _ _
    · exact h

theorem raisedTable_reportsView (k : Condition) (detail : Nat) (p : Part) : reportsView (raisedTable k detail p) =
    ((raise k detail p).cru.rows, p.cru.queue, p.cru.sequence, p.rtu.clock) := by
  rewrite [← sensors_rows (raise_after_table k detail p).1.symm]
  unfold reportsView
  rw [raisedTable_frame]

theorem raise_reportsView_congr {p q : Part} (h : reportsView q = reportsView p) (k : Condition) (detail : Nat) :
    reportsView (raise k detail q) = reportsView (raise k detail p) := by
  have h' := h
  simp only [reportsView, Prod.mk.injEq] at h'
  obtain ⟨hrows, hqueue, hseq, hclock⟩ := h'
  have hrow : rowOf k q = rowOf k p := by rw [rowOf, hrows, ← rowOf]
  have htable : reportsView (raisedTable k detail q) = reportsView (raisedTable k detail p) := by
    rw [raisedTable_reportsView, raisedTable_reportsView, raise_rows, raise_rows, hrow, hrows, hqueue, hseq, hclock]
  rewrite [raise_eq, raise_eq, isActive, hrow, ← isActive]
  split
  · exact htable
  · exact enqueueRaise_reportsView_congr htable k detail _

/-! ## The capacity in force and the two vault thresholds (R53) -/

theorem isActive_congr {p q : Part} (h : q.cru.rows = p.cru.rows) (k : Condition) : isActive k q = isActive k p := by
  rw [isActive, rowOf, h, ← rowOf, ← isActive]

theorem isActive_raise_ne {j k : Condition} (hjk : j ≠ k) (detail : Nat) (p : Part) :
    isActive j (raise k detail p) = isActive j p := by
  rw [isActive, rowOf_raise_ne hjk, ← isActive]

theorem judgeCapacity_eq {p : Part} {c : Nat} (h : p.cau.capacity = some c) : judgeCapacity p =
    thresholdsRaised (decide (c * 9 / 10 ≤ p.cau.money.vaultCount)) (decide (c - 8 ≤ p.cau.money.vaultCount))
      p.cau.money.vaultCount p := by
  have hfull := isActive_raise_ne (j := .vaultFull) (k := .vaultNearFull) (by decide) p.cau.money.vaultCount p
  unfold judgeCapacity thresholdsRaised
  rewrite [h]
  simp only [Bool.not_eq_true', decide_eq_true_eq]
  split <;> simp only [hfull]

theorem thresholdsRaised_reportsView_congr {p q : Part} (h : reportsView q = reportsView p) (near full : Bool) (n : Nat) :
    reportsView (thresholdsRaised near full n q) = reportsView (thresholdsRaised near full n p) := by
  have hrows : q.cru.rows = p.cru.rows := (Prod.mk.inj h).1
  have hnear : reportsView (if near = true ∧ isActive .vaultNearFull q = false then raise .vaultNearFull n q else q) =
      reportsView (if near = true ∧ isActive .vaultNearFull p = false then raise .vaultNearFull n p else p) := by
    rewrite [isActive_congr hrows]
    split
    · exact raise_reportsView_congr h _ _
    · exact h
  unfold thresholdsRaised
  dsimp only
  rewrite [isActive_congr hrows .vaultFull]
  by_cases hfull : full = true ∧ isActive .vaultFull p = false
  · rewrite [if_pos hfull, if_pos hfull]
    exact raise_reportsView_congr hnear _ _
  · rewrite [if_neg hfull, if_neg hfull]
    exact hnear

theorem clear_rows_congr {p q : Part} (h : q.cru.rows = p.cru.rows) (k : Condition) :
    (clear k q).cru.rows = (clear k p).cru.rows := by
  rw [clear_rows, clear_rows, isActive_congr h, rowOf, h, ← rowOf]

/-- A kind that has been cleared is not active. -/
theorem isActive_clear (k : Condition) (p : Part) : isActive k (clear k p) = false := by
  cases h : isActive k p with
  | false => rw [clear_of_not_active h, h]
  | true =>
    rewrite [isActive, rowOf, clear_rows, if_pos h, List.getD_eq_getElem?_getD, List.getElem?_set]
    split
    · split <;> rfl
    · next hne => exact absurd rfl hne

/-! ## The end of a reload with a good profile (R73) -/

theorem probeAsk_reports (p : Part) : reportsView (probeAsk p) = reportsView p := by
  rw [reportsView, probeAsk_cru, inner_rtu (probeAsk_inner p), ← reportsView]

theorem reportAsk_reports (p : Part) : reportsView (reportAsk p) = reportsView p := by
  rewrite [reportAsk_frame]
  rfl

/-- The part whose vault thresholds a reload with a good profile judges. -/
def capacityTaken (f : Profile) (p : Part) : Part :=
  { applyProfile f p with
    cau.capacity := some (max f.vc (p.cau.money.vaultCount + p.cau.money.railCount)) }

/-- The part of a reload with a good profile, with its conditions judged. -/
def reloadJudged (f : Profile) (p : Part) : Part := clear .profileBad (judgeCapacity (capacityTaken f p))

theorem endReload_ok (f : Profile) (p : Part) : endReload (.ok f) p = completeIf 8 .done (reportAsk (probeAsk
    (gateWork (judgeBand (reloadJudged f { p with bpu.load := none, bpu.profileWords := [] }))))) := rfl

theorem judgeCapacity_inner (p : Part) : inner (judgeCapacity p) = inner p := by
  unfold judgeCapacity
  split
  · rfl
  · dsimp only
    split <;> split <;> simp

theorem joinRecord_settings (kind : ReportKind) (detail slot : Nat) (p : Part) :
    (joinRecord kind detail slot p).lu.settings = p.lu.settings := by
  unfold joinRecord
  rewrite [reportAsk_settings]
  split
  · rewrite [cancelBackoff_frame]
    rfl
  · rfl

theorem newRecord_settings (kind : ReportKind) (detail : Nat) (p : Part) :
    (newRecord kind detail p).lu.settings = p.lu.settings := by
  unfold newRecord
  split
  · exact joinRecord_settings _ _ _ _
  · split
    · split
      · exact joinRecord_settings _ _ _ _
      · rfl
    · rfl

theorem raise_settings (k : Condition) (detail : Nat) (p : Part) : (raise k detail p).lu.settings = p.lu.settings := by
  have htable : (raisedTable k detail p).lu = p.lu := by rw [raisedTable_frame]
  rewrite [raise_eq, ← htable]
  split
  · rfl
  · unfold enqueueRaise
    split
    · rfl
    · split
      · exact newRecord_settings _ _ _
      · rfl

theorem sensors_number {p q : Part} (h : sensors q = sensors p) : q.cru.number = p.cru.number := by
  simp only [sensors, Prod.mk.injEq] at h; exact h.2.2.2.2.2.2.2.2.2.1

theorem sensors_identity {p q : Part} (h : sensors q = sensors p) : q.cru.identity = p.cru.identity := by
  simp only [sensors, Prod.mk.injEq] at h; exact h.2.2.2.2.2.2.2.2.2.2.1

theorem raise_number (k : Condition) (detail : Nat) (p : Part) : (raise k detail p).cru.number = p.cru.number := by
  rw [sensors_number (raise_after_table k detail p).1, raisedTable_frame]

theorem raise_identity (k : Condition) (detail : Nat) (p : Part) :
    (raise k detail p).cru.identity = p.cru.identity := by
  rw [sensors_identity (raise_after_table k detail p).1, raisedTable_frame]

/-- The settings of a profile, without the bases. -/
def inForceView (p : Part) :=
  (p.cu.table, p.cau.vc, p.rtu.freeList, p.rtu.calendar, p.rtu.steps, p.lu.settings, p.cru.number, p.cru.identity)

theorem profileInForce_congr {f : Profile} {p q : Part} (h : inForceView q = inForceView p) (hp : profileInForce f p) :
    profileInForce f q := by
  simp only [inForceView, Prod.mk.injEq] at h
  obtain ⟨htable, hvc, hlist, hcalendar, hsteps, hsettings, hnumber, hidentity⟩ := h
  unfold profileInForce at hp ⊢
  rwa [htable, hvc, hlist, hcalendar, hsteps, hsettings, hnumber, hidentity]

theorem raise_inForceView (k : Condition) (detail : Nat) (p : Part) : inForceView (raise k detail p) = inForceView p := by
  rw [inForceView, raise_cu, raise_cau, raise_rtu, raise_settings, raise_number, raise_identity, inForceView]

theorem thresholdsRaised_inForceView (near full : Bool) (n : Nat) (p : Part) :
    inForceView (thresholdsRaised near full n p) = inForceView p := by
  unfold thresholdsRaised
  dsimp only
  split <;> split <;> simp only [raise_inForceView]

theorem clear_inForceView (k : Condition) (p : Part) : inForceView (clear k p) = inForceView p := by
  rewrite [clear_frame]
  rfl

theorem inForceView_of_steady {p q : Part} (h : steadyView q = steadyView p) : inForceView q = inForceView p := by
  simp only [steadyView, Prod.mk.injEq] at h
  obtain ⟨hcu, hcru, hvc, -, hlist, hcalendar, hsteps, hsettings, -, -⟩ := h
  rw [inForceView, hcu, hcru, hvc, hlist, hcalendar, hsteps, hsettings, inForceView]

theorem inForceView_of_settings {p q : Part} (h : settingsView q = settingsView p) : inForceView q = inForceView p := by
  simp only [settingsView, Prod.mk.injEq] at h
  obtain ⟨-, htable, hvc, hlist, hcalendar, hsteps, hsettings, hnumber, hidentity, -⟩ := h
  rw [inForceView, htable, hvc, hlist, hcalendar, hsteps, hsettings, hnumber, hidentity, inForceView]

theorem judgeCapacity_capacityTaken (f : Profile) (p : Part) {n capacity : Nat} (hn : p.cau.money.vaultCount = n)
    (hcapacity : max f.vc (n + p.cau.money.railCount) = capacity) :
    let judged := thresholdsRaised (decide (capacity * 9 / 10 ≤ n)) (decide (capacity - 8 ≤ n)) n
    judgeCapacity (capacityTaken f p) = judged (capacityTaken f p)
      ∧ reportsView (judgeCapacity (capacityTaken f p)) = reportsView (judged p) := by
  intro judged
  have heq : judgeCapacity (capacityTaken f p) = judged (capacityTaken f p) := by
    subst hn hcapacity
    exact judgeCapacity_eq (p := capacityTaken f p) rfl
  exact ⟨heq, by rewrite [heq]; exact thresholdsRaised_reportsView_congr (p := p) (q := capacityTaken f p) rfl _ _ _⟩

/-- What follows the judgement of a good profile in a reload: the band, the gate, the asks and the result. -/
theorem reload_tail {c q : Part} (hf : c.bpu.inFlight = some 8) (hr : c.bpu.result = .pending)
    (hq : completeIf 8 .done (reportAsk (probeAsk (gateWork (judgeBand c)))) = q) :
    inForceView q = inForceView c ∧ q.bpu.load = c.bpu.load ∧ q.bpu.result = .done ∧ q.cau.capacity = c.cau.capacity
      ∧ q.cru.rows = c.cru.rows ∧ q.cru.queue = c.cru.queue ∧ outer q = outer c := by
  have hsteady : steadyView (gateWork (judgeBand c)) = steadyView c := by rw [gateWork_steady, judgeBand_steady]
  have houter : outer (gateWork (judgeBand c)) = outer c := by rw [gateWork_outer, judgeBand_outer]
  generalize gateWork (judgeBand c) = g at hsteady houter hq
  have hforce := inForceView_of_steady hsteady
  simp only [steadyView, Prod.mk.injEq, decide_eq_decide] at hsteady
  obtain ⟨-, hcru, -, hcapacity, -, -, -, -, hload, hflight⟩ := hsteady
  have hi : inner (reportAsk (probeAsk g)) = inner g := by rw [reportAsk_inner, probeAsk_inner]
  have ho : outer (reportAsk (probeAsk g)) = outer g := by rw [reportAsk_outer, probeAsk_outer]
  have hv : settingsView (reportAsk (probeAsk g)) = settingsView g := by
    rw [reportAsk_settingsView, probeAsk_settingsView]
  have hreports : reportsView (reportAsk (probeAsk g)) = reportsView g := by
    rw [reportAsk_reports, probeAsk_reports]
  generalize reportAsk (probeAsk g) = r at hi ho hv hreports hq
  obtain ⟨hf', hr'⟩ := hflight.2 ⟨hf, hr⟩
  rewrite [completeIf_awaited ((inner_inFlight hi).trans hf') ((inner_result hi).trans hr')] at hq
  simp only [reportsView, Prod.mk.injEq] at hreports
  obtain ⟨hrows, hqueue, -, -⟩ := hreports
  subst hq
  exact ⟨(inForceView_of_settings hv).trans hforce, (inner_load hi).trans hload, rfl,
    (congrArg (·.capacity) (inner_cau hi)).trans hcapacity, hrows.trans (congrArg (·.rows) hcru),
    hqueue.trans (congrArg (·.queue) hcru), ho.trans houter⟩

/-- The end of a reload that has found a good profile (R53, R73). -/
theorem endReload_good {p : Part} (hf : p.bpu.inFlight = some 8) (hr : p.bpu.result = .pending) (f : Profile) {q : Part}
    (hq : endReload (.ok f) p = q) {n capacity : Nat} (hn : p.cau.money.vaultCount = n)
    (hcapacity : max f.vc (n + p.cau.money.railCount) = capacity) {judged : Part}
    (hjudged : thresholdsRaised (decide (capacity * 9 / 10 ≤ n)) (decide (capacity - 8 ≤ n)) n p = judged) :
    profileInForce f q ∧ q.bpu.load = none ∧ q.bpu.result = .done ∧ q.cau.capacity = some capacity
      ∧ q.cru.rows = (clear .profileBad judged).cru.rows ∧ isActive .profileBad q = false
      ∧ q.cru.queue = judged.cru.queue ∧ outer q = outer p := by
  rewrite [endReload_ok] at hq
  generalize hp₀ : ({ p with bpu.load := none, bpu.profileWords := [] } : Part) = p₀ at hq
  have hcount : p₀.cau.money.vaultCount = n := by rewrite [← hp₀]; exact hn
  have hmax : max f.vc (n + p₀.cau.money.railCount) = capacity := by rewrite [← hp₀]; exact hcapacity
  obtain ⟨heq, hreports⟩ := judgeCapacity_capacityTaken f p₀ hcount hmax
  have hsame : reportsView (thresholdsRaised (decide (capacity * 9 / 10 ≤ n)) (decide (capacity - 8 ≤ n)) n p₀)
      = reportsView judged := by
    rewrite [← hjudged]
    exact thresholdsRaised_reportsView_congr (by rewrite [← hp₀]; rfl) _ _ _
  have hi := judgeCapacity_inner (capacityTaken f p₀)
  have ho := judgeCapacity_outer (capacityTaken f p₀)
  have hforce : inForceView (judgeCapacity (capacityTaken f p₀)) = inForceView (capacityTaken f p₀) := by
    rw [heq, thresholdsRaised_inForceView]
  unfold reloadJudged at hq
  generalize judgeCapacity (capacityTaken f p₀) = j at hq hreports hi ho hforce
  have hboth := hreports.trans hsame
  simp only [reportsView, Prod.mk.injEq] at hboth
  obtain ⟨hrows, hqueue, -, -⟩ := hboth
  have hflight := inner_inFlight hi
  have hresult := inner_result hi
  have hload := inner_load hi
  have hcau := inner_cau hi
  subst hp₀
  obtain ⟨hforce', hload', hdone, hcapacity', hrows', hqueue', houter⟩ := reload_tail (c := clear .profileBad j)
    ((clear_bpu_inFlight _ _).trans (hflight.trans hf)) ((clear_bpu_result _ _).trans (hresult.trans hr)) hq
  have hkept : (clear .profileBad j).cru.queue = j.cru.queue := by rw [clear_frame]
  refine ⟨profileInForce_congr (hforce'.trans ((clear_inForceView _ _).trans hforce)) ?_, ?_, hdone, ?_, ?_, ?_, ?_, ?_⟩
  · exact ⟨rfl, rfl, rfl, rfl, rfl, rfl, rfl, rfl⟩
  · exact hload'.trans ((clear_bpu_load _ _).trans hload)
  · rewrite [hcapacity', clear_cau, hcau, ← hcapacity, ← hn]
    rfl
  · exact hrows'.trans (clear_rows_congr hrows _)
  · rewrite [isActive_congr hrows']
    exact isActive_clear _ _
  · exact hqueue'.trans (hkept.trans hqueue)
  · exact houter.trans ((clear_outer _ _).trans ho)

/-! ## The reads of a profile load (R70 to R73) -/

/-- A part read that nothing withdrew hands its words to its owner, and the host bus port is served. -/
theorem readDone_serves {requester : PartRead → Option (Part → Part)} {r : PartRead} {f : Part → Part} {p : Part}
    (hport : p.bpu.port = some (.read r false)) (hf : requester r = some f) :
    readDone requester p = serve (f (freePort p)) := by
  unfold readDone
  rewrite [hport]
  simp only [hf, Bool.false_eq_true, if_false]

theorem exec_profileReadDone {s : State} {position : Nat} {limit : Option Timer} {words : List Word}
    (hport : s.part.bpu.port = some (.read { purpose := .profile position, limit } false)) (hlen : words.length = 16) :
    exec (.profileReadDone words) s = .next { s with
      part := serve (takeProfileWords position words (freePort s.part)) } := by
  show onPart (readDone (profileReader words)) s = _
  rw [onPart, readDone_serves hport (f := takeProfileWords position words)]
  show some (takeProfileWords position (fit 16 words)) = _
  rw [fit_of_length hlen]

theorem serve_idle {p : Part} (h : p.bpu.hostQueue = []) : serve p = p := serveRounds_idle h _

/-- A host write is held for as long as the start load goes on (R72). -/
theorem serve_held {p : Part} {t : Target} {d : Word} (hload : p.bpu.load = some .start)
    (hqueue : p.bpu.hostQueue = [.write t d]) : serve p = p := by
  unfold serve
  rewrite [serveRounds, hqueue]
  exact if_pos (by simp [isHeld, hload])

theorem takeProfileWords_more {position : Nat} {words : List Word} {p : Part}
    (h : readProfile (p.bpu.profileWords ++ words) = .more) : takeProfileWords position words p =
      requestRead (.profile (position + 16)) { p with bpu.profileWords := p.bpu.profileWords ++ words } := by
  simp only [takeProfileWords, h]

set_option Elab.async false in
theorem takeProfileWords_fault {position key : Nat} {words : List Word} {p : Part}
    (h : readProfile (p.bpu.profileWords ++ words) = .structureFault key) :
    takeProfileWords position words p = endProfileLoad (.error (200 + key)) p := by
  simp only [takeProfileWords, h]

theorem takeProfileWords_ended {position : Nat} {records : List ProfileRecord} {checks : Bool} {words : List Word}
    {p : Part} (h : readProfile (p.bpu.profileWords ++ words) = .ended records checks) :
    takeProfileWords position words p = endProfileLoad (judgeRecords records checks) p := by
  simp only [takeProfileWords, h]

/-- What a finished reading comes to rests on the words alone. -/
theorem takeProfileWords_finished {all words : List Word} (h : readProfile all ≠ .more) : ∃ result, ∀ position p,
    p.bpu.profileWords ++ words = all → takeProfileWords position words p = endProfileLoad result p := by
  cases hr : readProfile all with
  | more => exact absurd hr h
  | structureFault key => exact ⟨_, fun position p hall => takeProfileWords_fault (by rw [hall, hr])⟩
  | ended records checks => exact ⟨_, fun position p hall => takeProfileWords_ended (by rw [hall, hr])⟩

/-- The end of a reload, at the port where its last words arrive. -/
theorem exec_reloadEnds {s : State} {position : Nat} {words : List Word} {result : Except Nat Profile}
    (h : readAtPort (.profile position) s.part) (hlen : words.length = 16) (hload : s.part.bpu.load = some .reload)
    (htaken : takeProfileWords position words (freePort s.part) = endProfileLoad result (freePort s.part))
    (hqueue : (endReload result (freePort s.part)).bpu.hostQueue = s.part.bpu.hostQueue) :
    exec (.profileReadDone words) s = .next { s with part := endReload result (freePort s.part) } := by
  obtain ⟨hidle, limit, hport⟩ := h
  rw [exec_profileReadDone hport hlen, htaken, endProfileLoad_reload (p := freePort s.part) hload,
    serve_idle (hqueue.trans hidle)]

/-- The end of the start load, at the port where its last words arrive. -/
theorem exec_startLoadEnds {s : State} {position : Nat} {words : List Word} {result : Except Nat Profile}
    (h : readAtPort (.profile position) s.part) (hlen : words.length = 16) (hload : s.part.bpu.load = some .start)
    (hengine : s.part.rtu.engine = .idle) (htiming : s.part.rtu.timing.state = .idle)
    (hdump : s.part.rlu.dump = .waiting)
    (htaken : takeProfileWords position words (freePort s.part) = endProfileLoad result (freePort s.part)) :
    exec (.profileReadDone words) s = .next { s with part := endStartLoad result (freePort s.part) } := by
  obtain ⟨hidle, limit, hport⟩ := h
  obtain ⟨hqueue, -⟩ := endStartLoad_served (p := freePort s.part) rfl hengine htiming hdump result
  rw [exec_profileReadDone hport hlen, htaken, endProfileLoad_start (p := freePort s.part) hload,
    serve_idle (hqueue.trans hidle)]

/-- A host write that waits at the port is served as one that arrives there. -/
theorem hostAccess_withQueue {p : Part} {a : HostAccess} (h : p.bpu.hostQueue = []) :
    hostAccess a p = serve (withQueue [a] p) := by
  rewrite [hostAccess, h]
  rfl

/-- A host write outside the windows is stored, with no load in progress. -/
theorem hostAccess_stored {p : Part} {a : Addr} {d : Word} (hqueue : p.bpu.hostQueue = []) (hload : p.bpu.load = none)
    (hport : p.bpu.port = none) (hcount : p.bpu.starvation < 64) (hout : windowAt a.toNat p = none) :
    hostAccess (.write (.address a) d) p = stored a.toNat d (granted p) := by
  rewrite [hostAccess_taken hqueue (by simp [isHeld, hload])
    (by simp only [takeUnported, addressOf, treatmentAt_outside hout]) hport hcount]
  exact writeEffect_outside (p := stored a.toNat d (granted p)) ((windowAt_congr (p := p) rfl a.toNat).trans hout) d

/-- The windows and offsets whose writes are suppressed (R58, R59, R62). -/
theorem treatmentAt_suppress {a o : Nat} {k : WindowKind} {p : Part} (h : windowAt a p = some (k, o))
    (hk : k = .mailbox ∧ o = 5 ∨ k = .status ∧ o ≠ 0 ∨ k = .callRing ∨ k = .reportRing ∨ k = .mapDump) :
    treatmentAt a p = .suppress k o := by
  rewrite [treatmentAt, h]
  obtain ⟨rfl, ho⟩ | ⟨rfl, ho⟩ | rfl | rfl | rfl := hk
  · exact if_pos (.inl ho)
  · exact if_neg ho
  all_goals rfl

/-- The end of a reload that has found no good profile, at the port. -/
theorem exec_reloadBad {s : State} {position detail : Nat} {words : List Word}
    (h : readAtPort (.profile position) s.part) (hlen : words.length = 16) (hload : s.part.bpu.load = some .reload)
    (hf : s.part.bpu.inFlight = some 8) (hr : s.part.bpu.result = .pending)
    (htaken : takeProfileWords position words (freePort s.part) = endProfileLoad (.error detail) (freePort s.part)) :
    exec (.profileReadDone words) s = .next { s with part := resulted .done (raise .profileBad detail
      { s.part with bpu.port := none, bpu.load := none, bpu.profileWords := [] }) } := by
  have hbad : endReload (.error detail) (freePort s.part) = _ := endReload_bad (p := freePort s.part) hf hr detail
  rw [exec_reloadEnds h hlen hload htaken, hbad]
  · rfl
  · rewrite [hbad]
    exact outer_hostQueue (raise_outer .profileBad detail _)

/-- The end of a reload that has found a good profile, at the port (R53, R73). -/
theorem exec_reloadGood {s : State} {position : Nat} {words : List Word} {f : Profile}
    (h : readAtPort (.profile position) s.part) (hlen : words.length = 16) (hload : s.part.bpu.load = some .reload)
    (hf : s.part.bpu.inFlight = some 8) (hr : s.part.bpu.result = .pending)
    (htaken : takeProfileWords position words (freePort s.part) = endProfileLoad (.ok f) (freePort s.part))
    {n capacity : Nat} (hn : s.part.cau.money.vaultCount = n)
    (hcapacity : max f.vc (n + s.part.cau.money.railCount) = capacity) {judged : Part}
    (hjudged : thresholdsRaised (decide (capacity * 9 / 10 ≤ n)) (decide (capacity - 8 ≤ n)) n s.part = judged) :
    ∃ t, exec (.profileReadDone words) s = .next t ∧ profileInForce f t.part
      ∧ t.part.bpu.windows = s.part.bpu.windows ∧ t.part.bpu.load = none ∧ t.part.bpu.result = .done
      ∧ (t.part.cau.capacity = some capacity ∧ t.part.cru.rows = (clear .profileBad judged).cru.rows
        ∧ isActive .profileBad t.part = false ∧ t.part.cru.queue = judged.cru.queue)
      ∧ t.part.mem = s.part.mem ∧ t.part.tick = s.part.tick := by
  have hsame := thresholdsRaised_reportsView_congr (p := s.part) (q := freePort s.part) rfl
    (decide (capacity * 9 / 10 ≤ n)) (decide (capacity - 8 ≤ n)) n
  obtain ⟨hforce, hloaded, hdone, hcapacity', hrows, hclear, hqueue, houter⟩ :=
    endReload_good (p := freePort s.part) hf hr f rfl hn hcapacity rfl
  have hkept := outer_hostQueue houter
  have hwindows := outer_windows houter
  have hmem := outer_mem houter
  have htick := outer_tick houter
  rewrite [hjudged] at hsame
  simp only [reportsView, Prod.mk.injEq] at hsame
  obtain ⟨hrows', hqueue', -, -⟩ := hsame
  exact ⟨_, exec_reloadEnds h hlen hload htaken hkept, hforce, hwindows, hloaded, hdone,
    ⟨hcapacity', hrows.trans (clear_rows_congr hrows' _), hclear, hqueue.trans hqueue'⟩, hmem, htick⟩

/-- A start load that has found no good profile, seen from the part before its last words arrived. -/
theorem startLoadBad_freePort {p q : Part} {detail : Nat} (h : startLoadBad detail (freePort p) q) :
    startLoadBad detail p q := by
  obtain ⟨hwindows, hrows, hrest⟩ := h
  have hsame := raise_rows_congr (p := p) (q := freePort p) rfl rfl .profileBad detail
  exact ⟨hwindows, hrows.trans hsame, hrest⟩

/-- The judgement of the records, in the order of its causes (R71). -/
theorem judgeRecords_cases (records : List ProfileRecord) :
    let keyAt (j : Nat) : Option Key := (records[j]?).bind (·.key)
    let fits := recordFits (pulseMode records)
    (judgeRecords records false = .error 300 ∨ judgeRecords records false = .error 311)
    ∧ (∀ (j : Nat) (k : Key), keyAt j = some k → (∃ i, i < j ∧ keyAt i = some k) →
        (∀ j' i k', j' < j → i < j' → keyAt j' = some k' → keyAt i ≠ some k') →
        judgeRecords records true = .error (400 + k.position))
    ∧ ((∀ i j k, i < j → keyAt i = some k → keyAt j ≠ some k) →
        (∀ k ∈ requiredKeys, (∀ r ∈ records, r.key ≠ some k) →
          (∀ k' ∈ requiredKeys, k'.position < k.position → ∃ r ∈ records, r.key = some k') →
          judgeRecords records true = .error (500 + k.position))
        ∧ ((∀ k ∈ requiredKeys, ∃ r ∈ records, r.key = some k) →
          (∀ (j : Nat) (r : ProfileRecord), records[j]? = some r → fits r = false →
            (∀ (i : Nat) (x : ProfileRecord), i < j → records[i]? = some x → fits x = true) →
            judgeRecords records true = .error (600 + keyPosition r.key))
          ∧ ((∀ r ∈ records, fits r = true) → ∃ f, settingsOf records = some f
            ∧ judgeRecords records true = (if f.calendar.all dayFits = false then .error 710
              else if wellPlaced f.bases = false then .error 801 else .ok f)))) := by
  intro keyAt fits
  refine ⟨judgeRecords_wrong records, fun j k hj hi hfirst => ?_, fun hfresh => ?_⟩
  · refine judgeRecords_repeated (firstRepeated_some (j := j) hj (.inr hi) fun j' k' hj' hk' => ?_)
    exact ⟨List.not_mem_nil, fun i hij => hfirst j' i k' hj' hij hk'⟩
  · have hnone : firstRepeated [] records = none :=
      firstRepeated_none (fun _ _ _ => List.not_mem_nil) hfresh
    refine ⟨fun k hk hmissing hlower => ?_, fun hheld => ⟨fun j r hj hunfit hbefore => ?_, fun hfits => ?_⟩⟩
    · refine judgeRecords_missing hnone
        (find?_lowest Key.position _ (by decide) hk (dataOf_isNone_iff.2 hmissing) fun k' hk' hpos => ?_)
      obtain ⟨r, hr, hkey⟩ := hlower k' hk' hpos
      exact Bool.eq_false_iff.2 fun h => dataOf_isNone_iff.1 h r hr hkey
    all_goals
      have hall : requiredKeys.find? (fun k => (dataOf k records).isNone) = none := by
        rewrite [List.find?_eq_none]
        intro k hk h
        obtain ⟨r, hr, hkey⟩ := hheld k hk
        exact dataOf_isNone_iff.1 h r hr hkey
    · obtain ⟨hlt, rfl⟩ := List.getElem?_eq_some_iff.1 hj
      refine judgeRecords_unfit hnone hall (List.find?_eq_some_iff_getElem.2 ⟨by simpa using hunfit, j, hlt, rfl, ?_⟩)
      exact fun i hij => by simpa using hbefore i _ hij (List.getElem?_eq_getElem _)
    · obtain ⟨f, hf⟩ := settingsOf_fits hheld hfits
      exact ⟨f, hf, judgeRecords_settings hnone hall (List.find?_eq_none.2 fun r hr => by simpa using hfits r hr) hf⟩

/-- The start load's end with a good profile, at the port where its last words arrive. -/
theorem exec_startLoadGood {s : State} {position : Nat} {words : List Word} {f : Profile}
    (h : readAtPort (.profile position) s.part) (hlen : words.length = 16) (hload : s.part.bpu.load = some .start)
    (hengine : s.part.rtu.engine = .idle) (htiming : s.part.rtu.timing.state = .idle)
    (hdump : s.part.rlu.dump = .waiting)
    (htaken : takeProfileWords position words (freePort s.part) = endProfileLoad (.ok f) (freePort s.part)) :
    ∃ t, exec (.profileReadDone words) s = .next t ∧ profileInForce f t.part ∧ t.part.bpu.windows = some f.bases
      ∧ t.part.cru.rows = s.part.cru.rows ∧ startLoadEnded s.part t.part := by
  have hend := exec_startLoadEnds h hlen hload hengine htiming hdump htaken
  have hgood := endStartLoad_good (p := freePort s.part) rfl hengine htiming hdump f rfl
  generalize endStartLoad (.ok f) (freePort s.part) = t at hend hgood
  obtain ⟨hforce, hwindows, hrows, hended, -, -⟩ := hgood
  exact ⟨_, hend, hforce, hwindows, hrows, hended⟩

/-- The start load's end without a good profile, at the port where its last words arrive. -/
theorem exec_startLoadBad {s : State} {position detail : Nat} {words : List Word}
    (h : readAtPort (.profile position) s.part) (hlen : words.length = 16) (hload : s.part.bpu.load = some .start)
    (hengine : s.part.rtu.engine = .idle) (htiming : s.part.rtu.timing.state = .idle)
    (hdump : s.part.rlu.dump = .waiting)
    (htaken : takeProfileWords position words (freePort s.part) = endProfileLoad (.error detail) (freePort s.part)) :
    ∃ t, exec (.profileReadDone words) s = .next t ∧ startLoadBad detail s.part t.part := by
  have hend := exec_startLoadEnds h hlen hload hengine htiming hdump htaken
  obtain ⟨hbad, -⟩ := endStartLoad_bad (p := freePort s.part) rfl hengine htiming hdump detail
  generalize endStartLoad (.error detail) (freePort s.part) = t at hend hbad
  exact ⟨_, hend, startLoadBad_freePort hbad⟩

/-- A host write that was held is served behind the start load's end, as one that arrives then (R72). -/
theorem exec_startLoadServes {s : State} {position : Nat} {words : List Word} {limit : Option Timer} {a : HostAccess}
    {result : Except Nat Profile}
    (hport : s.part.bpu.port = some (.read { purpose := .profile position, limit } false))
    (hqueue : s.part.bpu.hostQueue = [a]) (hload : s.part.bpu.load = some .start) (hlen : words.length = 16)
    (hengine : s.part.rtu.engine = .idle) (htiming : s.part.rtu.timing.state = .idle)
    (hdump : s.part.rlu.dump = .waiting)
    (htaken : ∀ p, p.bpu.profileWords = s.part.bpu.profileWords →
      takeProfileWords position words p = endProfileLoad result p) :
    ∃ t, exec (.profileReadDone words) { s with part := { s.part with bpu.hostQueue := [] } } = .next t
      ∧ t.part.bpu.hostQueue = [] ∧ t.part.bpu.load = none ∧ t.part.bpu.port = none
      ∧ (∃ b, t.part.bpu.windows = some b) ∧ t.part.bpu.starvation = s.part.bpu.starvation
      ∧ exec (.profileReadDone words) s = .next { t with part := hostAccess a t.part } := by
  let idle : State := { s with part := { s.part with bpu.hostQueue := [] } }
  have hfree : freePort s.part = withQueue [a] (freePort idle.part) := by
    rewrite [← hqueue]
    rfl
  have hend := exec_startLoadEnds (s := idle) (position := position) (words := words) ⟨rfl, limit, hport⟩ hlen hload
    hengine htiming hdump (htaken (freePort idle.part) rfl)
  have hserved := endStartLoad_served (p := freePort idle.part) rfl hengine htiming hdump result
  have hwith := endStartLoad_withQueue result (p := freePort idle.part) [a] hdump htiming
  have hheld : exec (.profileReadDone words) s =
      .next { s with part := serve (endStartLoad result (freePort s.part)) } := by
    rw [exec_profileReadDone hport hlen, htaken (freePort s.part) rfl,
      endProfileLoad_start (p := freePort s.part) hload]
  rewrite [hfree, hwith] at hheld
  generalize endStartLoad result (freePort idle.part) = t at hend hserved hheld
  obtain ⟨hnone, hloaded, hopen, hwindows, hcount⟩ := hserved
  rewrite [← hostAccess_withQueue hnone] at hheld
  exact ⟨_, hend, hnone, hloaded, hopen, hwindows, hcount, hheld⟩

/-- Settles O43, from the ends of a profile load, the reading of its words and the judgement of its records. -/
theorem profileReadsGoOn : Obligations.ProfileReadsGoOn := by
  unfold Obligations.ProfileReadsGoOn
  refine ⟨fun s position words hread hlen => ?_,
    fun s position words limit a d hport hqueue hload hlen hengine htiming hdump => ?_,
    fun rs tail hrs => ⟨fun check hroom => readProfile_ended hrs hroom,
      fun key length hroom hlong => readProfile_tooLong hrs hroom hlong,
      fun length hroom hshort hne => readProfile_zzLength hrs hroom hshort hne, fun hfull => readProfile_noEnd hrs hfull⟩,
    judgeRecords_cases⟩
  · intro all
    have hfault : ∀ key, readProfile all = .structureFault key →
        takeProfileWords position words (freePort s.part) = endProfileLoad (.error (200 + key)) (freePort s.part) :=
      fun key h => takeProfileWords_fault (p := freePort s.part) h
    have hended : ∀ records checks result, readProfile all = .ended records checks →
        judgeRecords records checks = result →
        takeProfileWords position words (freePort s.part) = endProfileLoad result (freePort s.part) :=
      fun records checks result h hresult => hresult ▸ takeProfileWords_ended (p := freePort s.part) h
    refine ⟨fun hmore => ?_, fun hload hf hr => ⟨fun key h => ?_, fun records checks detail h herror => ?_,
      fun records checks f h hok => ?_⟩, fun hload hengine htiming hdump => ⟨fun records checks f h hok => ?_,
        fun detail h => ?_⟩⟩
    · obtain ⟨hidle, limit, hport⟩ := hread
      rewrite [exec_profileReadDone hport hlen, takeProfileWords_more (p := freePort s.part) hmore, serve_idle (by exact hidle)]
      rfl
    · exact exec_reloadBad hread hlen hload hf hr (hfault key h)
    · exact exec_reloadBad hread hlen hload hf hr (hended records checks _ h herror)
    · exact exec_reloadGood hread hlen hload hf hr (hended records checks _ h hok) rfl rfl rfl
    · exact exec_startLoadGood hread hlen hload hengine htiming hdump (hended records checks _ h hok)
    · refine exec_startLoadBad hread hlen hload hengine htiming hdump ?_
      obtain ⟨key, h, rfl⟩ | ⟨records, checks, h, herror⟩ := h
      · exact hfault key h
      · exact hended records checks _ h herror
  · intro all
    refine ⟨fun hmore => ?_, fun hdone => ?_⟩
    · rewrite [exec_profileReadDone hport hlen, takeProfileWords_more (p := freePort s.part) hmore,
        serve_held (by exact hload) (by exact hqueue)]
      rfl
    · obtain ⟨result, htaken⟩ := takeProfileWords_finished hdone
      obtain ⟨t, hidle, hnone, hloaded, hopen, hwindows, hcount, hexec⟩ :=
        exec_startLoadServes hport hqueue hload hlen hengine htiming hdump fun p hp => htaken position p (by rw [hp])
      refine ⟨t, hidle, hnone, hloaded, hopen, hwindows, hexec, fun hout hbelow => ?_, fun k o hin hkind => ?_⟩
      · rw [hexec, hostAccess_stored hnone hloaded hopen (hcount ▸ hbelow) hout]
      · have hk : k ≠ .account := by
          rintro rfl
          simp at hkind
        rw [hexec, hostAccess_suppress hnone (by simp [hloaded]) rfl (treatmentAt_suppress hin hkind),
          suppressWrite_eq hk, BitVec.ofNat_toNat, BitVec.setWidth_eq]

end Sys2Proof.Machine
end

section
/-!
PROOFS. A measured coin (R1, R5 to R12, R14): its publication, the reject window, the credit on hand once it has joined
the rail, and the reject map.
-/

namespace Sys2Proof.Machine

/-! ## The reject window (R13) -/

set_option Elab.async false in
theorem takeOutcome_eq (e : Measured) (p : Part) : takeOutcome e p =
    burstJudged (joinWindow e p.cu.window) { p with cu.window := joinWindow e p.cu.window } := by
  unfold takeOutcome judgeBurst burstJudged
  simp only [Bool.not_eq_eq_eq_not, Bool.not_true, Nat.mul_comm]

/-- A calm window is judged without a raise or a clear. -/
theorem burstJudged_calm {e : Measured} {p q : Part} (h : windowCalm e p) (hrows : q.cru.rows = p.cru.rows) :
    burstJudged (joinWindow e p.cu.window) q = q := by
  obtain ⟨hclear, hfew⟩ := h
  have hclear' : isActive .rejectBurst q = false := (isActive_congr hrows _).trans hclear
  unfold burstJudged
  rw [if_neg (by omega), clear_of_not_active hclear', ite_self]

theorem takeOutcome_calm {e : Measured} {p : Part} (h : windowCalm e p) :
    takeOutcome e p = { p with cu.window := joinWindow e p.cu.window } :=
  (takeOutcome_eq e p).trans (burstJudged_calm h rfl)

/-! ## The publication of a coin (R12) -/

theorem publishCoin_publishes (k v : Nat) (r : Reason) (m : Measurement) (p : Part) :
    Publishes p (publishCoin k v r m p) :=
  (setCause_publishes _ _).ofLast (((markS_publishes _ _).ofLast (markS_publishes _ _)).after rfl)

section
variable (k v : Nat) (r : Reason) (m : Measurement) (p : Part)

@[simp] theorem publishCoin_tick : (publishCoin k v r m p).tick = p.tick := by simp [publishCoin]
@[simp] theorem publishCoin_mem : (publishCoin k v r m p).mem = p.mem := by simp [publishCoin]
@[simp] theorem publishCoin_rlu : (publishCoin k v r m p).rlu = p.rlu := by simp [publishCoin]
@[simp] theorem publishCoin_cau : (publishCoin k v r m p).cau = p.cau := by simp [publishCoin]
@[simp] theorem publishCoin_rtu : (publishCoin k v r m p).rtu = p.rtu := by simp [publishCoin]
@[simp] theorem publishCoin_lu : (publishCoin k v r m p).lu = p.lu := by simp [publishCoin]
@[simp] theorem publishCoin_cc : (publishCoin k v r m p).cc = p.cc := by simp [publishCoin]
@[simp] theorem publishCoin_cru : (publishCoin k v r m p).cru = p.cru := by simp [publishCoin]
@[simp] theorem publishCoin_table : (publishCoin k v r m p).cu.table = p.cu.table := by simp [publishCoin]
@[simp] theorem publishCoin_flap : (publishCoin k v r m p).cu.flap = p.cu.flap := by simp [publishCoin]
@[simp] theorem publishCoin_window : (publishCoin k v r m p).cu.window = p.cu.window := by simp [publishCoin]
@[simp] theorem publishCoin_rejects : (publishCoin k v r m p).cu.rejects = p.cu.rejects := by simp [publishCoin]
@[simp] theorem publishCoin_dump : (publishCoin k v r m p).cu.dump = p.cu.dump := by simp [publishCoin]

end

/-- What a coin publishes, where its routing has not published it yet. -/
theorem publishCoin_published {p q : Part} (ha : q.cu.accepted = p.cu.accepted) (hr : q.cu.returned = p.cu.returned)
    (k v : Nat) (r : Reason) (m : Measurement) : coinPublished k v r m p (publishCoin k v r m q) := by
  refine ⟨rfl, ?_, ?_, ?_, ?_, Publishes.caused (c := .coin) (.refl _)⟩
  · cases r <;> simp [publishCoin, addTo, flagBit, ha]
  · cases r <;> simp [publishCoin, addTo, flagBit, hr]
  · exact (setCause_publishes _ _).dirty _ ((markS_publishes 4 _).dirty _ (mem_insertGroup_self _ _))
  · exact (setCause_publishes _ _).dirty _ (mem_insertGroup_self _ _)

/-- The publication stays while nothing of it is changed. -/
theorem coinPublished.kept {k v : Nat} {r : Reason} {m : Measurement} {p q t : Part} (h : coinPublished k v r m p q)
    (hevent : t.cu.event = q.cu.event) (ha : t.cu.accepted = q.cu.accepted) (hr : t.cu.returned = q.cu.returned)
    (hp : Publishes q t) : coinPublished k v r m p t := by
  obtain ⟨h1, h2, h3, h4, h5, h6⟩ := h
  exact ⟨hevent.trans h1, ha.trans h2, hr.trans h3, hp.dirty _ h4, hp.dirty _ h5, hp.causes _ h6⟩

theorem coinPublished.windowed {k v : Nat} {r : Reason} {m : Measurement} {p q : Part} (h : coinPublished k v r m p q)
    (w : List Measured) : coinPublished k v r m p { q with cu.window := w } := h.kept rfl rfl rfl (.of_bpu rfl)

theorem coinPublished.mapped {k v : Nat} {r : Reason} {m : Measurement} {p q : Part} (h : coinPublished k v r m p q)
    (w : List Measured) (c : Memory) : coinPublished k v r m p { q with cu.window := w, cu.rejects := c } :=
  h.kept rfl rfl rfl (.of_bpu rfl)

/-! ## Credit on hand (R106) -/

theorem cc_withLow {c : Cc} {b : Bool} (h : c.low = b) : c = { c with low := b } := by
  subst h
  rfl

/-- A flag that is examined while it is set stays just where the credit on hand is less than a step, or no call is
charged. -/
theorem reexamineCredit_cc (p : Part) : (reexamineCredit p).cc = { p.cc with low := lowKept p p } := by
  unfold reexamineCredit
  by_cases hlow : p.cc.low = true
  · rewrite [if_pos hlow]
    by_cases hidle : p.rtu.timing.state = .idle
    · rewrite [examineCredit_idle hidle]
      exact cc_withLow (by simp [lowKept, hlow, hidle])
    · have hcharging : isCharging p = true := by simp [isCharging, hidle]
      unfold examineCredit
      rewrite [hcharging, Bool.not_true, if_neg (by decide), if_pos hlow, if_pos hlow]
      by_cases hless : creditOnHand p < chargeStep p
      · rewrite [if_pos hless]
        exact cc_withLow (by simp [lowKept, hlow, hless])
      · rewrite [if_neg hless]
        have hkept : lowKept p p = false := by simp [lowKept, hidle, hless]
        rewrite [hkept]
        rfl
  · rewrite [if_neg hlow]
    exact cc_withLow (by simp [lowKept, hlow])

theorem creditOnHand_congr {p q : Part} (h : q.rlu = p.rlu) : creditOnHand q = creditOnHand p := by
  rw [creditOnHand, creditOnHand, h]

theorem chargeStep_congr {p q : Part} (h : q.rtu = p.rtu) : chargeStep q = chargeStep p := by
  rw [chargeStep, chargeStep, h]

theorem lowKept_congr {p q p' q' : Part} (hlow : p'.cc.low = p.cc.low) (hstate : p'.rtu.timing = p.rtu.timing)
    (hrlu : q'.rlu = q.rlu) (hrtu : q'.rtu = q.rtu) : lowKept p' q' = lowKept p q := by
  simp only [lowKept, hlow, hstate, creditOnHand_congr hrlu, chargeStep_congr hrtu]

theorem lowKept_published (k v : Nat) (r : Reason) (m : Measurement) (w : List Measured) (p q : Part) :
    lowKept p { publishCoin k v r m q with cu.window := w } = lowKept p q :=
  lowKept_congr rfl rfl (publishCoin_rlu k v r m q) (publishCoin_rtu k v r m q)

theorem creditFollows_cc (n : Nat) (p : Part) : (creditFollows n p).cc = { p.cc with low := lowKept p p } := by
  unfold creditFollows
  extract_lets q
  have hq : q.cc = p.cc ∧ q.rtu = p.rtu ∧ q.rlu = p.rlu := by
    simp only [q]
    split <;> exact ⟨rfl, rfl, rfl⟩
  obtain ⟨hcc, hrtu, hrlu⟩ := hq
  rw [reexamineCredit_cc, lowKept_congr (p := p) (q := p) (by rw [hcc]) (by rw [hrtu]) hrlu hrtu, hcc]

theorem railChange_cc (f : Part → Part) (p : Part) :
    (railChange f p).cc = { (f p).cc with low := lowKept (f p) (f p) } := creditFollows_cc _ _

/-! ## The routes of a coin (R5 to R9) -/

theorem retryOnCoin_other {p : Part} (h : p.cc.call ≠ .grace) : retryOnCoin p = p := if_neg h

/-- What a coin that joins the rail changes outside GRACE: the rail, MONEY, the coin's nominals, the flap and a low-credit
flag that no longer holds. -/
structure CoinJoined (k v : Nat) (m : Measurement) (p q : Part) : Prop where
  rlu : q.rlu = { p.rlu with rail := p.rlu.rail ++ [{ type := k, value := v }] }
  money : q.cau.money = { p.cau.money with
    accepted := p.cau.money.accepted + BitVec.ofNat 32 v
    railTypes := p.cau.money.railTypes.take p.cau.money.railCount ++ [k]
    railCount := p.cau.money.railCount + 1 }
  types : q.cau.types = p.cau.types
  cu : q.cu = { p.cu with flap := some { start := p.tick, limit := 250 }, table := p.cu.table.map (moveType k m) }
  cc : q.cc = { p.cc with low := lowKept p q }
  cru : q.cru = p.cru
  lu : q.lu = p.lu
  rtu : q.rtu = p.rtu
  mem : q.mem = p.mem
  tick : q.tick = p.tick
  credit : q.bpu.causes.getLsbD 1 = true
  figures : Group.status 1 ∈ q.bpu.dirty
  record : 1 ∉ p.cau.faulted → Group.account (slotOf 1 p) ∈ q.bpu.dirty

theorem railChange_sets_credit (f : Part → Part) (p : Part) : (railChange f p).bpu.causes.getLsbD 1 = true :=
  Publishes.caused (c := .credit) (creditFollows_publishes _ _)

theorem railChange_after (f : Part → Part) (p : Part) : Publishes (f p) (railChange f p) :=
  (creditFollows_publishes _ _).ofLast ((setCause_publishes _ _).ofLast (markS_publishes _ _))

theorem bookMoney_marks {f : Money → Money} {p : Part} (h : 1 ∉ p.cau.faulted) :
    Group.account (slotOf 1 p) ∈ (bookMoney f p).bpu.dirty :=
  markRecord_marks (p := { p with cau.money := f p.cau.money }) h

/-- A coin at the tail of the rail, with its value and type in MONEY. -/
def coinBooked (k v : Nat) (p : Part) : Part :=
  bookMoney (fun b => { b with
      accepted := addTo b.accepted v, railTypes := b.railTypes.take b.railCount ++ [k], railCount := b.railCount + 1 })
    { p with rlu.rail := p.rlu.rail ++ [{ type := k, value := v }] }

/-- The flap held for a coin, and the nominals of its type moved. -/
def coinAdmitted (k : Nat) (m : Measurement) (p : Part) : Part :=
  { p with cu.flap := some (newTimer 250 p), cu.table := p.cu.table.map (moveType k m) }

theorem joinRail_eq (k v : Nat) (m : Measurement) (p : Part) :
    joinRail k v m p = retryOnCoin (railChange (coinBooked k v) (coinAdmitted k m p)) := rfl

theorem joinRail_joined {p : Part} (h : p.cc.call ≠ .grace) (k v : Nat) (m : Measurement) :
    CoinJoined k v m p (joinRail k v m p) := by
  let q : Part := coinBooked k v (coinAdmitted k m p)
  have hcc : (railChange (coinBooked k v) (coinAdmitted k m p)).cc = { p.cc with low := lowKept q q } :=
    (railChange_cc _ _).trans (by simp [coinBooked, coinAdmitted, q])
  rewrite [joinRail_eq, retryOnCoin_other (by rewrite [hcc]; exact h)]
  have hsame : lowKept q q = lowKept p (railChange (coinBooked k v) (coinAdmitted k m p)) :=
    lowKept_congr (by simp [coinBooked, coinAdmitted, q]) (by simp [coinBooked, coinAdmitted, q])
      (railChange_rlu _ _).symm (railChange_rtu _ _).symm
  exact {
    rlu := by simp [coinBooked, coinAdmitted]
    money := by simp [coinBooked, coinAdmitted, addTo]
    types := by simp [coinBooked, coinAdmitted]
    cu := by simp [coinBooked, coinAdmitted, newTimer]
    cc := hsame ▸ hcc
    cru := by simp [coinBooked, coinAdmitted]
    lu := by simp [coinBooked, coinAdmitted]
    rtu := by simp [coinBooked, coinAdmitted]
    mem := by simp [coinBooked, coinAdmitted]
    tick := by simp [coinBooked, coinAdmitted]
    credit := railChange_sets_credit _ _
    figures := railChange_marks_S1 _ _
    record := fun hf => (railChange_after _ _).dirty _ (bookMoney_marks hf) }

/-- A coin that is returned: its reason is counted where TYPE COUNTS has a place for it, and nothing else moves. -/
structure CoinReturned (r : Reason) (p q : Part) : Prop where
  cu : q.cu = { p.cu with flap := none }
  money : q.cau.money = p.cau.money
  uncounted : r.countIndex = none → q.cau = p.cau
  counted : ∀ i, r.countIndex = some i → q.cau.types = { p.cau.types with
    returned := p.cau.types.returned.set i (min 65535 (p.cau.types.returned.getD i 0 + 1)) }
  rlu : q.rlu = p.rlu
  cc : q.cc = p.cc
  cru : q.cru = p.cru
  lu : q.lu = p.lu
  rtu : q.rtu = p.rtu
  mem : q.mem = p.mem
  tick : q.tick = p.tick

theorem returnCoin_returned (r : Reason) (p : Part) : CoinReturned r p (returnCoin r p) := by
  unfold returnCoin
  dsimp only
  split
  next i hi => constructor <;> simp [hi, countUp, satAdd]
  next hi => constructor <;> simp [hi]

theorem routeReason_eq (v : Nat) (p : Part) : routeReason v p = firstFailing v p := by
  unfold routeReason firstFailing
  simp only [Bool.not_eq_true', decide_eq_false_iff_not, Nat.not_lt]

theorem firstFailing_counted {v : Nat} {p : Part} (h : firstFailing v p ≠ .none) :
    ∃ i, (firstFailing v p).countIndex = some i := by
  revert h
  unfold firstFailing
  repeat' split
  all_goals first | exact fun _ => ⟨_, rfl⟩ | exact fun h => absurd rfl h

/-! ## The reject map (R14) -/

/-- A reject that stays below the threshold is only counted. -/
theorem addReject_below {i n : Nat} {p : Part} (hn : (readWord p.cu.rejects i).toNat = n)
    (h : n + 1 < clusterLimit p) :
    addReject i p = { p with cu.rejects := writeWord p.cu.rejects i (word (satAdd 65535 n)) } := by
  subst hn
  unfold addReject
  exact if_neg fun hcluster => absurd hcluster.2 (Nat.not_le.2 h)

theorem binReject_undumped {i : Nat} {p : Part} (h : p.cu.dump = none) : binReject i p = addReject i p := by
  rw [binReject, h]

theorem satAdd_word {n : Nat} (h : n + 1 ≤ 65535) : (word (satAdd 65535 n)).toNat = n + 1 := by
  rewrite [satAdd, Nat.min_eq_right h]
  exact Nat.mod_eq_of_lt (by omega)

/-! ## The measurement -/

theorem takeMeasurement_unready {p : Part} (m : Measurement)
    (h : p.bpu.load = some .start ∨ p.rlu.dump ≠ .ended ∨ p.cu.table = none) : takeMeasurement m p =
      takeOutcome .notRejected (publishCoin 0 0 .refused m { p with cu.flap := none }) := by
  unfold takeMeasurement
  cases ht : p.cu.table with
  | none => rfl
  | some t =>
    obtain hload | hdump | htable := h
    · exact if_neg (by simp [coinReady, hload])
    · exact if_neg (by simp [coinReady, hdump])
    · rewrite [ht] at htable
      cases htable

theorem takeMeasurement_ready {p : Part} {t : CoinTable} (m : Measurement) (hload : p.bpu.load ≠ some .start)
    (hdump : p.rlu.dump = .ended) (ht : p.cu.table = some t) :
    takeMeasurement m p = gateWork (routeCoin (classifyCoin t m) m p) := by
  simp only [takeMeasurement, ht]
  exact if_pos (by simp [coinReady, hload, hdump])

/-- A routed coin whose outcome leaves a calm window calm. -/
theorem takeOutcome_route {e : Measured} {p q : Part} (h : windowCalm e p) (hrows : q.cru = p.cru)
    (hwindow : q.cu.window = p.cu.window) (k v : Nat) (r : Reason) (m : Measurement) :
    takeOutcome e (publishCoin k v r m q) =
      { publishCoin k v r m q with cu.window := joinWindow e p.cu.window } := by
  have hw : (publishCoin k v r m q).cu.window = p.cu.window := hwindow
  have hcalm : windowCalm e (publishCoin k v r m q) := by
    obtain ⟨hclear, hfew⟩ := h
    exact ⟨(isActive_congr (p := p) (congrArg Cru.rows hrows) _).trans hclear, hw.symm ▸ hfew⟩
  rw [takeOutcome_calm hcalm, hw]

theorem exec_coinMeasurement {s : State} {m : Measurement} {t : Part} (h : takeMeasurement m s.part = t) :
    exec (.coinMeasurement m.d m.a m.t) s = .next { s with part := t } := h ▸ rfl

/-- The gate at rest stays so while a coin is routed. -/
theorem gateRests_route {p q : Part} (h : gateRests p) (hcharge : q.rlu.charge = p.rlu.charge)
    (hrefund : q.rlu.refund = p.rlu.refund) (hpending : q.rlu.pendingRefund = p.rlu.pendingRefund) : gateRests q :=
  ⟨hcharge.trans h.1, hrefund.trans h.2.1, hpending.trans h.2.2⟩

/-- A coin measured before the unit is ready (R6). -/
theorem coinRouted_unready {s : State} (m : Measurement)
    (h : s.part.bpu.load = some .start ∨ s.part.rlu.dump ≠ .ended ∨ s.part.cu.table = none)
    (hcalm : windowCalm .notRejected s.part) : exec (.coinMeasurement m.d m.a m.t) s = .next { s with
      part := { publishCoin 0 0 .refused m { s.part with cu.flap := none } with
        cu.window := joinWindow .notRejected s.part.cu.window } } :=
  exec_coinMeasurement ((takeMeasurement_unready m h).trans
    (takeOutcome_route (p := s.part) (q := { s.part with cu.flap := none }) hcalm rfl rfl 0 0 .refused m))

/-- A coin that meets every condition of R6. -/
theorem coinRouted_joined {s : State} {m : Measurement} {table : CoinTable} {k v : Nat} (hrests : gateRests s.part)
    (hgrace : s.part.cc.call ≠ .grace) (hload : s.part.bpu.load ≠ some .start) (hdump : s.part.rlu.dump = .ended)
    (ht : s.part.cu.table = some table) (hclass : classifyCoin table m = .valid k v)
    (hcalm : windowCalm .notRejected s.part) (hnone : firstFailing v s.part = .none) :
    exec (.coinMeasurement m.d m.a m.t) s = .next { s with part := { publishCoin k v .none m (joinRail k v m s.part) with
      cu.window := joinWindow .notRejected s.part.cu.window } } := by
  have hjoined := joinRail_joined hgrace k v m
  refine exec_coinMeasurement ?_
  rewrite [takeMeasurement_ready m hload hdump ht, hclass]
  simp only [routeCoin, routeReason_eq, hnone, if_true]
  generalize joinRail k v m s.part = q at hjoined
  rewrite [takeOutcome_route hcalm hjoined.cru (by rw [hjoined.cu])]
  have hrests' : gateRests q :=
    gateRests_route hrests (by rw [hjoined.rlu]) (by rw [hjoined.rlu]) (by rw [hjoined.rlu])
  exact gateWork_rest hrests'

/-- A coin that fails a condition of R6. -/
theorem coinRouted_returned {s : State} {m : Measurement} {table : CoinTable} {k v : Nat} (hrests : gateRests s.part)
    (hload : s.part.bpu.load ≠ some .start) (hdump : s.part.rlu.dump = .ended)
    (ht : s.part.cu.table = some table) (hclass : classifyCoin table m = .valid k v)
    (hcalm : windowCalm .notRejected s.part) {r : Reason} (hr : firstFailing v s.part = r) (hfails : r ≠ .none) :
    exec (.coinMeasurement m.d m.a m.t) s = .next { s with part := { publishCoin k v r m (returnCoin r s.part) with
      cu.window := joinWindow .notRejected s.part.cu.window } } := by
  have hreturned := returnCoin_returned r s.part
  refine exec_coinMeasurement ?_
  rewrite [takeMeasurement_ready m hload hdump ht, hclass]
  simp only [routeCoin, routeReason_eq, hr, if_neg hfails]
  generalize returnCoin r s.part = q at hreturned
  rewrite [takeOutcome_route hcalm hreturned.cru (by rw [hreturned.cu])]
  have hrests' : gateRests q :=
    gateRests_route hrests (by rw [hreturned.rlu]) (by rw [hreturned.rlu]) (by rw [hreturned.rlu])
  exact gateWork_rest hrests'

/-- A coin of a disabled type (R9). -/
theorem coinRouted_disabled {s : State} {m : Measurement} {table : CoinTable} {k v : Nat} (hrests : gateRests s.part)
    (hload : s.part.bpu.load ≠ some .start) (hdump : s.part.rlu.dump = .ended)
    (ht : s.part.cu.table = some table) (hclass : classifyCoin table m = .disabled k v)
    (hcalm : windowCalm .notRejected s.part) :
    exec (.coinMeasurement m.d m.a m.t) s = .next { s with
      part := { publishCoin k v .disabled m { s.part with cu.flap := none } with
        cu.window := joinWindow .notRejected s.part.cu.window } } := by
  refine exec_coinMeasurement ?_
  rewrite [takeMeasurement_ready m hload hdump ht, hclass]
  show gateWork (takeOutcome .notRejected (publishCoin k v .disabled m { s.part with cu.flap := none })) = _
  rewrite [takeOutcome_route (p := s.part) (q := { s.part with cu.flap := none }) hcalm rfl rfl]
  exact gateWork_rest hrests

/-- The reason that a reject is published with. -/
def rejectReason (why : Measured) : Reason := if why = .transit then .transit else .noMatch

theorem returnCoin_reject (why : Measured) (p : Part) :
    returnCoin (rejectReason why) p = { p with cu.flap := none } := by
  unfold rejectReason
  split <;> rfl

/-- The route of a reject (R12 to R14). -/
theorem routeCoin_reject (why : Measured) (m : Measurement) (p : Part) : routeCoin (.reject why) m p =
    binReject (cellIndex m) (takeOutcome why (publishCoin 0 0 (rejectReason why) m { p with cu.flap := none })) := by
  rewrite [← returnCoin_reject why p]
  rfl

set_option Elab.async false in
/-- A coin that is rejected, with the window calm and its cell below the threshold. -/
theorem coinRouted_reject {s : State} {m : Measurement} {table : CoinTable} {why : Measured} (hrests : gateRests s.part)
    (hload : s.part.bpu.load ≠ some .start) (hdump : s.part.rlu.dump = .ended)
    (ht : s.part.cu.table = some table) (hclass : classifyCoin table m = .reject why)
    (hcalm : windowCalm why s.part) (hmap : s.part.cu.dump = none) {n : Nat}
    (hn : (readWord s.part.cu.rejects (cellIndex m)).toNat = n) (hbelow : n + 1 < table.cluster) :
    exec (.coinMeasurement m.d m.a m.t) s = .next { s with
      part := { publishCoin 0 0 (rejectReason why) m { s.part with cu.flap := none } with
        cu.window := joinWindow why s.part.cu.window
        cu.rejects := writeWord s.part.cu.rejects (cellIndex m) (word (satAdd 65535 n)) } } := by
  refine exec_coinMeasurement ?_
  rewrite [takeMeasurement_ready m hload hdump ht, hclass, routeCoin_reject,
    takeOutcome_route (p := s.part) (q := { s.part with cu.flap := none }) hcalm rfl rfl,
    binReject_undumped (by simpa using hmap), addReject_below (n := n) (by simpa using hn)
      (by simpa [clusterLimit, ht] using hbelow)]
  simp only [publishCoin_rejects]
  exact gateWork_rest (by simpa using hrests)

/-- Settles O47, from the routes of a coin with the reject window calm. -/
theorem coinRouted : Obligations.CoinRouted := by
  unfold Obligations.CoinRouted
  refine fun s m hrests hgrace => ⟨fun hunready hcalm => ?_, fun table hload hdump ht =>
    ⟨fun k v hclass hcalm => ?_, fun k v hclass hcalm => ?_, fun why hclass hcalm hmap => ?_⟩⟩
  · refine ⟨_, coinRouted_unready m hunready hcalm, (publishCoin_published rfl rfl 0 0 .refused m).windowed _, ?_⟩
    simp
  · by_cases hnone : firstFailing v s.part = .none
    · have hexec := coinRouted_joined hrests hgrace hload hdump ht hclass hcalm hnone
      have hjoined := joinRail_joined hgrace k v m
      have hpub := publishCoin_publishes k v .none m (joinRail k v m s.part)
      have hcoin := publishCoin_published (p := s.part) (q := joinRail k v m s.part) (by rw [hjoined.cu])
        (by rw [hjoined.cu]) k v .none m
      generalize joinRail k v m s.part = q at hexec hjoined hpub hcoin
      refine ⟨_, hexec, by rewrite [hnone]; exact hcoin.windowed _, by simp, by simp [hjoined.cu], fun _ => ?_,
        fun h => absurd hnone h, ?_, by simp [hjoined.cru], by simp [hjoined.lu], by simp [hjoined.rtu],
        by simp [hjoined.mem], by simp [hjoined.tick]⟩
      · exact ⟨by simp [hjoined.rlu], by simp [hjoined.money], by simp [hjoined.types], by simp [hjoined.cu, ht],
          by simp [hjoined.cu], hpub.dirty _ hjoined.figures, hpub.causes _ hjoined.credit,
          fun hf => hpub.dirty _ (hjoined.record hf)⟩
      · rewrite [if_pos hnone, lowKept_published]
        simpa only [publishCoin_cc] using hjoined.cc
    · have hexec := coinRouted_returned hrests hload hdump ht hclass hcalm rfl hnone
      have hreturned := returnCoin_returned (firstFailing v s.part) s.part
      have hcoin := publishCoin_published (p := s.part) (q := returnCoin (firstFailing v s.part) s.part)
        (by rw [hreturned.cu]) (by rw [hreturned.cu]) k v (firstFailing v s.part) m
      generalize returnCoin (firstFailing v s.part) s.part = q at hexec hreturned hcoin
      refine ⟨_, hexec, hcoin.windowed _, by simp, by simp [hreturned.cu], fun h => absurd h hnone, fun _ => ?_,
        by simp [hnone, hreturned.cc], by simp [hreturned.cru], by simp [hreturned.lu], by simp [hreturned.rtu],
        by simp [hreturned.mem], by simp [hreturned.tick]⟩
      obtain ⟨i, hi⟩ := firstFailing_counted hnone
      exact ⟨by simp [hreturned.rlu], by simp [hreturned.money], by simp [hreturned.cu, ht], by simp [hreturned.cu],
        i, hi, by simp [hreturned.counted i hi]⟩
  · refine ⟨_, coinRouted_disabled hrests hload hdump ht hclass hcalm,
      (publishCoin_published rfl rfl k v .disabled m).windowed _, ?_⟩
    simp [ht]
  · intro i hbelow hwf hcluster
    refine ⟨_, coinRouted_reject hrests hload hdump ht hclass hcalm hmap rfl hbelow,
      (publishCoin_published rfl rfl 0 0 (rejectReason why) m).mapped _ _, rfl, ?_,
      fun j hj => readWord_writeWord_other hj, ?_⟩
    · exact (congrArg BitVec.toNat (readWord_writeWord_same hwf)).trans
        (satAdd_word (Nat.le_of_lt (hbelow.trans_le (hcluster.trans (by decide)))))
    · simp

end Sys2Proof.Machine
end

section
/-!
PROOFS. The completion of a group write (R66 to R68): its words in memory, what its owner does at it, and the host access
that waits behind it.
-/

namespace Sys2Proof.Machine

/-! ## The words of a group -/

set_option Elab.async false in
theorem writtenAt_inMemory {p : Part} (h : Memory.wf p.mem = true) (a : Nat) (ws : List Word) :
    wordsInMemory a ws p (writtenAt a ws p) := by
  refine ⟨fun i hi => ?_, fun c hc => readWord_writeWords_other hc⟩
  rewrite [wordAt, List.getD_eq_getElem _ _ hi]
  exact readWord_writeWords_at h hi

/-- With no host access waiting, the owner acts at the end of the write. -/
theorem onPart_writeDone {owner : Group → Option Nat → Option (Part → Part)} {s : State} {g : Group}
    {record : Option Nat} {a : Nat} {ws : List Word} {f : Part → Part} {q : Part}
    (hwrite : writeAtPort g record a ws s.part) (howner : owner g record = some f) (hq : f (writtenAt a ws s.part) = q)
    (houter : outer q = outer (writtenAt a ws s.part)) : onPart (writeDone owner) s = .next { s with part := q } := by
  obtain ⟨hidle, hport⟩ := hwrite
  subst hq
  rw [onPart, writeDone_owned hport howner ((outer_hostQueue houter).trans hidle)]

/-! ## The map dump (R16, R17) -/

theorem writeWord_writeWord {a : Nat} (v w : Word) : ∀ {m : Memory}, Memory.wf m = true →
    writeWord (writeWord m a v) a w = writeWord m a w
  | [], _ => by
    simp only [writeWord]
    split <;> simp [writeWord]
  | (b, u) :: rest, h => by
    obtain ⟨-, hb, hr⟩ := Memory.wf_cons.1 h
    simp only [writeWord]
    split
    next hlt =>
      split
      · simp [writeWord, hlt]
      · simp [writeWord]
    next hge =>
      split
      next heq =>
        subst heq
        split
        · exact writeWord_at_below w hb
        · simp [writeWord]
      next hne => simp only [writeWord, if_neg hge, if_neg hne, writeWord_writeWord v w hr]
where
  writeWord_at_below {a : Nat} (w : Word) : ∀ {m : Memory}, m.above a →
      writeWord m a w = if w = 0 then m else (a, w) :: m
    | [], _ => rfl
    | (_, _) :: _, ⟨hb, _⟩ => by simp only [writeWord, if_pos hb]

theorem word_toNat {n : Nat} (h : n < 65536) : (word n).toNat = n := Nat.mod_eq_of_lt h

/-- Rejects that stay below the threshold are only counted. -/
theorem addHeld_below {m : Memory} {i : Nat} (hm : Memory.wf m = true) {q : Part} : ∀ (k j : Nat),
    j + k < clusterLimit q → j + k < 65536 → q.cu.rejects = writeWord m i (word j) →
    addHeld k i q = { q with cu.rejects := writeWord m i (word (j + k)) }
  | 0, j, _, _, hq => by
    rw [addHeld, Nat.add_zero, ← hq]
  | k + 1, j, hlimit, hword, hq => by
    have hcell : (readWord q.cu.rejects i).toNat = j := by
      rw [hq, readWord_writeWord_same hm, word_toNat (by omega)]
    rewrite [addHeld, addReject_below hcell (by omega), hq, writeWord_writeWord _ _ hm, satAdd,
      Nat.min_eq_right (by omega)]
    rw [addHeld_below (q := { q with cu.rejects := writeWord m i (word (j + 1)) }) hm k (j + 1)
      (by exact (by omega : j + 1 + k < clusterLimit q)) (by omega) rfl, Nat.add_right_comm, Nat.add_assoc]

theorem cellWritten_other {i : Nat} (h : i ≠ 255) (p : Part) : cellWritten i p = cellZeroed i p := if_neg h

theorem cellZeroed_clearing {p : Part} {held : Nat} (h : p.cu.dump = some { clear := true, held }) (i : Nat) :
    cellZeroed i p = addHeld held i { p with
      cu.rejects := writeWord p.cu.rejects i 0, cu.dump := some { clear := true, held := 0 } } := by
  rw [cellZeroed, h]

theorem cellZeroed_keeping {p : Part} {held : Nat} (h : p.cu.dump = some { clear := false, held }) (i : Nat) :
    cellZeroed i p = p := by
  rw [cellZeroed, h]

/-- A clearing dump zeroes the cell and counts there the rejects that it held meanwhile. -/
theorem cellWritten_held {p : Part} {n i : Nat} (hi : i ≠ 255) (hdump : p.cu.dump = some { clear := true, held := n })
    (hlimit : n < clusterLimit p) (hword : n < 65536) (hm : Memory.wf p.cu.rejects = true) :
    cellWritten i p = { p with
      cu.rejects := writeWord p.cu.rejects i (word n), cu.dump := some { clear := true, held := 0 } } := by
  rw [cellWritten_other hi, cellZeroed_clearing hdump, addHeld_below (j := 0) hm n (by rewrite [Nat.zero_add]; exact hlimit)
    (by rwa [Nat.zero_add]) rfl, Nat.zero_add]

/-- A dump that does not clear ends at cell 255 with its answer. -/
theorem cellWritten_last {p : Part} (hdump : p.cu.dump = some { clear := false, held := 0 })
    (hf : p.bpu.inFlight = some 5) (hr : p.bpu.result = .pending) :
    cellWritten 255 p = resulted .done { p with cu.dump := none } := by
  rewrite [cellWritten, cellZeroed_keeping hdump, if_pos rfl, endMapDump, hdump]
  exact completeIf_awaited (p := { p with cu.dump := none }) hf hr

/-! ## Account slots (R46, R48, R50, R52, R55) -/

theorem relocationsWritten_none {slot : Nat} {p : Part} (h : ∀ r ∈ p.cau.relocations, r.newSlot ≠ slot) :
    relocationsWritten slot p = p := by
  refine if_neg fun hany => ?_
  obtain ⟨r, hr, heq⟩ := List.any_eq_true.1 hany
  exact h r hr (beq_iff_eq.1 heq)

theorem relocationsWritten_ended {slot : Nat} {p : Part} (h : ∃ r ∈ p.cau.relocations, r.newSlot = slot) :
    relocationsWritten slot p =
      markRecord 0 { p with cau.relocations := p.cau.relocations.filter fun r => r.newSlot != slot } := by
  obtain ⟨r, hr, heq⟩ := h
  exact if_pos (List.any_eq_true.2 ⟨r, hr, by simpa using heq⟩)

theorem clearingWritten_none {p : Part} (h : p.cau.clearing = []) (n : Nat) : clearingWritten n p = p := by
  rewrite [clearingWritten, h]
  rfl

theorem clearanceWritten_none {p : Part} (h : p.cau.clearance = none) (n : Nat) : clearanceWritten n p = p := by
  rw [clearanceWritten, h]

/-- A slot whose write ends no relocation, with neither a clearance nor a clear of ACCOUNT_FAULT waiting for it. -/
theorem slotWritten_plain {slot n : Nat} {p : Part} (hr : ∀ r ∈ p.cau.relocations, r.newSlot ≠ slot)
    (hclearing : p.cau.clearing = []) (hclearance : p.cau.clearance = none) :
    slotWritten slot (some n) p = touchSlot slot p := by
  show clearanceWritten n (clearingWritten n (relocationsWritten slot (touchSlot slot p))) = _
  rw [relocationsWritten_none (by exact hr), clearingWritten_none (by exact hclearing),
    clearanceWritten_none (by exact hclearance)]

/-- The turns touched by two slots in a row. -/
theorem touched_twice (slot slot' : Nat) (faulted : Prop) [Decidable faulted] (h : ¬ faulted)
    (t : Option ScrubTurn) :
    (t.map fun t => if t.slot = slot then { t with touched := true } else t).map
        (fun t => if t.slot = slot' then { t with touched := true } else t) =
      t.map fun t => if t.slot = slot ∨ t.slot = slot' ∧ ¬ faulted then { t with touched := true } else t := by
  cases t with
  | none => rfl
  | some t =>
    by_cases h1 : t.slot = slot <;> by_cases h2 : t.slot = slot' <;> simp_all

/-- The slot that a relocation moves a record to ends the relocation, and the header publishes the new map. -/
theorem slotWritten_relocated {slot n : Nat} {p : Part} (hr : ∃ r ∈ p.cau.relocations, r.newSlot = slot)
    (hclearing : p.cau.clearing = []) (hclearance : p.cau.clearance = none) :
    slotWritten slot (some n) p = { p with
      cau.relocations := p.cau.relocations.filter (fun r => r.newSlot != slot)
      cau.turn := p.cau.turn.map fun t =>
        if t.slot = slot ∨ t.slot = 0 ∧ 0 ∉ p.cau.faulted then { t with touched := true } else t
      bpu.dirty := if 0 ∈ p.cau.faulted then p.bpu.dirty else insertGroup (.account 0) p.bpu.dirty } := by
  show clearanceWritten n (clearingWritten n (relocationsWritten slot (touchSlot slot p))) = _
  rewrite [relocationsWritten_ended (by exact hr), clearingWritten_none (by rewrite [markRecord_cau_clearing]; exact hclearing),
    clearanceWritten_none (by rewrite [markRecord_cau_clearance]; exact hclearance)]
  by_cases hf : 0 ∈ p.cau.faulted
  · rewrite [markRecord, if_pos (by exact hf), if_pos hf]
    simp only [hf, not_true_eq_false, and_false, or_false]
    rfl
  · rewrite [markRecord, if_neg (by exact hf), if_neg hf, ← touched_twice slot 0 _ hf]
    rfl

/-- The account slots that a vault clearance waits for (R55). -/
theorem slotWritten_clearance {slot n : Nat} {p : Part} {c : Clearance} (hr : p.cau.relocations = [])
    (hclearing : p.cau.clearing = []) (hclearance : p.cau.clearance = some c) (hturn : p.cau.turn = none) {money last : Bool}
    (hmoney : (c.moneyWritten || decide (n = 1)) = money) (hlast : (c.lastWritten || decide (n = 4)) = last) :
    slotWritten slot (some n) p =
      if money && last then completeIf 6 .done { p with cau.clearance := none }
      else { p with cau.clearance := some { moneyWritten := money, lastWritten := last } } := by
  have htouch : touchSlot slot p = p := by
    rewrite [touchSlot, hturn]
    show { p with cau.turn := none } = p
    rw [← hturn]
  show clearanceWritten n (clearingWritten n (relocationsWritten slot (touchSlot slot p))) = _
  rewrite [htouch, relocationsWritten_none (by simp [hr]), clearingWritten_none hclearing, clearanceWritten, hclearance,
    ← hmoney, ← hlast]
  rfl

/-- The account slots that CLEAR_CONDITION ACCOUNT_FAULT waits for (R52). -/
theorem slotWritten_clearing {slot n : Nat} {p : Part} (hr : p.cau.relocations = [])
    (hclearance : p.cau.clearance = none) (hturn : p.cau.turn = none) (hn : n ∈ p.cau.clearing) :
    slotWritten slot (some n) p =
      if p.cau.clearing.filter (· != n) = [] then
        clearanceWritten n (completeIf 7 .done { p with cau.clearing := p.cau.clearing.filter (· != n) })
      else { p with cau.clearing := p.cau.clearing.filter (· != n) } := by
  have htouch : touchSlot slot p = p := by
    rewrite [touchSlot, hturn]
    show { p with cau.turn := none } = p
    rw [← hturn]
  show clearanceWritten n (clearingWritten n (relocationsWritten slot (touchSlot slot p))) = _
  rewrite [htouch, relocationsWritten_none (by simp [hr]), clearingWritten, if_pos (by simpa using hn)]
  dsimp only
  split
  · rfl
  · exact clearanceWritten_none (by exact hclearance) n

/-! ## The host access behind a run (R67, R68) -/

theorem serve_one {p : Part} {a : HostAccess} (h : p.bpu.hostQueue = [a]) : serve p = serveRounds 4 p := by
  rewrite [serve, h]
  rfl

/-- An access to an address in no window is neither interpreted nor suppressed. -/
theorem takeUnported_outside {p : Part} {a : Addr} (h : windowAt a.toNat p = none) {access : HostAccess}
    (haccess : access = .read (.address a) ∨ ∃ d, access = .write (.address a) d) : takeUnported access p = none := by
  obtain rfl | ⟨d, rfl⟩ := haccess
  · rfl
  · simp only [takeUnported, addressOf, treatmentAt_outside h]

/-- A host access is taken at a free port, where the starvation count does not give the part its run first. -/
theorem serveRounds_takes {p : Part} {a : HostAccess} {q : Part} (n : Nat) (hqueue : p.bpu.hostQueue = [a])
    (hheld : isHeld a p = false) (hpass : takeUnported a { p with bpu.hostQueue := [] } = none)
    (hport : p.bpu.port = none) (hturn : p.bpu.starvation < 64 ∨ workReady p = false)
    (htaken : takeAccess a (granted { p with bpu.hostQueue := [] }) = q) (hidle : q.bpu.hostQueue = []) :
    serveRounds (n + 1) p = q := by
  have hcount : (64 ≤ p.bpu.starvation && workReady p) = false := by
    obtain h | h := hturn
    · simp [Nat.not_le.2 h]
    · simp [h]
  rewrite [serveRounds, hqueue]
  simp only [hheld, hpass, hcount, Bool.false_eq_true, if_false]
  rewrite [if_neg (by simp [hport])]
  exact (congrArg (serveRounds n) htaken).trans (serveRounds_idle hidle n)

/-- With the count at 64 and part work waiting, the part takes its run first, and the access goes on waiting. -/
theorem serveRounds_starved {p : Part} {a : HostAccess} {q : Part} (n : Nat) (hqueue : p.bpu.hostQueue = [a])
    (hheld : isHeld a p = false) (hpass : takeUnported a { p with bpu.hostQueue := [] } = none)
    (hport : p.bpu.port = none) (hcount : 64 ≤ p.bpu.starvation) (hready : workReady p = true)
    (hrun : grantRun p = q) (hqueue' : q.bpu.hostQueue = [a]) (hheld' : isHeld a q = false)
    (hpass' : takeUnported a { q with bpu.hostQueue := [] } = none) (hbusy : q.bpu.port.isSome = true) :
    serveRounds (n + 2) p = q := by
  rewrite [serveRounds, hqueue]
  simp only [hheld, hpass, hcount, hready, hrun, Bool.false_eq_true, if_false, decide_true, Bool.and_self, if_true]
  rewrite [if_neg (by simp [hport]), serveRounds, hqueue']
  simp only [hheld', hpass', hbusy, Bool.false_eq_true, if_false, if_true]

theorem exec_groupWriteComplete {s : State} {g : Group} {address : Nat} {ws : List Word}
    (hg : (∃ k, g = .status k) ∨ ∃ k, g = .report k) (hport : s.part.bpu.port = some (.write g none address ws)) :
    exec .groupWriteComplete s = .next { s with part := serve (writtenAt address ws s.part) } := by
  have howner : plainOwner s.part g none = some id := by
    obtain ⟨k, rfl⟩ | ⟨k, rfl⟩ := hg <;> rfl
  show onPart (fun p => writeDone (plainOwner p) p) s = _
  rewrite [onPart, writeDone, hport]
  simp only [howner]
  rfl

/-- A run that the part begins with the word of its first dirty group. -/
theorem grantRun_group {p : Part} {b : Bases} {g : Group} (hwindows : p.bpu.windows = some b)
    (hfirst : p.bpu.dirty.find? (fun x => !isCell x) = some g) :
    workReady p = true ∧ grantRun p = writeBegun g p := by
  have hg : firstGroup p = some g := by rw [firstGroup, writable_open hwindows, hfirst]
  have hmem : g ∈ writable p := by
    rewrite [writable_open hwindows]
    exact List.mem_of_find?_eq_some hfirst
  refine ⟨?_, grantRun_taken (chooseRun_write hg _) rfl⟩
  rw [workReady, bne_iff_ne.2 (List.ne_nil_of_mem hmem), Bool.true_or]

/-- A run that the part begins with its first waiting read. -/
theorem grantRun_read {p : Part} {r : PartRead} {rest : List PartRead} (hcells : ∀ x ∈ p.bpu.dirty, isCell x = true)
    (hwaiting : p.bpu.waiting = r :: rest) (hready : p.pins.flashBusy = false ∨ ofFlash r.purpose = false) :
    workReady p = true ∧ grantRun p = readBegun r rest p := by
  have hnone : firstGroup p = none := firstGroup_none (.inr hcells)
  have hfree : (ofFlash r.purpose && p.pins.flashBusy) = false := by
    obtain h | h := hready <;> simp [h]
  refine ⟨by simp [workReady, hwaiting], grantRun_taken (chooseRun_read hnone hwaiting hfree _) rfl⟩

/-- Settles O42, from the owners of the groups and the rounds of the host bus port. -/
theorem groupWritesComplete : Obligations.GroupWritesComplete := by
  unfold Obligations.GroupWritesComplete
  refine ⟨fun s g record a ws hwrite => ?_, fun s g address ws a hg hport => ?_⟩
  · intro p
    refine ⟨fun hwf => writtenAt_inMemory hwf a ws, fun hg => ?_, fun k hg => ?_, fun hg hf hr hws => ?_,
      fun i hg hi hdump => ?_, fun i n hg hi hdump hlimit hword hwf => ?_, fun hg hdump hf hr => ?_,
      fun slot n hg hrecord hr hclearing hclearance => ?_, fun slot n hg hrecord hr hclearing hclearance => ?_,
      fun slot n c hg hrecord hr hclearing hclearance hturn => ?_,
      fun slot n hg hrecord hr hclearance hturn hn => ?_⟩
    · have howner : plainOwner s.part g record = some id := by
        obtain ⟨k, rfl⟩ | ⟨k, rfl⟩ := hg <;> rfl
      exact onPart_writeDone hwrite howner rfl rfl
    · subst hg
      refine onPart_writeDone (owner := plainOwner s.part) hwrite rfl ?_ ?_
      · simp [callSlotWritten, writtenAt, p]
      · split <;> rfl
    · subst hg
      have hfinal : showsFinal ws s.part = true := by simp [showsFinal, hf, hr, hws, resultWord]
      rewrite [exec_resultWordWritten_final hwrite hfinal]
      rfl
    · subst hg
      refine onPart_writeDone (owner := cellOwner) hwrite rfl ?_ ?_
      · rewrite [cellWritten_other hi, cellZeroed_clearing (p := writtenAt a ws s.part) hdump, addHeld, ← hdump]
        rfl
      · rfl
    · subst hg
      exact onPart_writeDone (owner := cellOwner) hwrite rfl
        (cellWritten_held (p := writtenAt a ws s.part) hi hdump hlimit hword hwf) rfl
    · subst hg
      exact onPart_writeDone (owner := cellOwner) hwrite rfl
        (cellWritten_last (p := writtenAt a ws s.part) hdump hf hr) rfl
    · subst hg hrecord
      exact onPart_writeDone (owner := slotOwner) hwrite rfl
        (slotWritten_plain (p := writtenAt a ws s.part) hr hclearing hclearance) rfl
    · subst hg hrecord
      exact onPart_writeDone (owner := slotOwner) hwrite rfl
        (slotWritten_relocated (p := writtenAt a ws s.part) hr hclearing hclearance) rfl
    · subst hg hrecord
      intro money last
      have hslot := slotWritten_clearance (slot := slot) (p := writtenAt a ws s.part) (n := n) hr hclearing hclearance
        hturn (money := money) (last := last) rfl rfl
      refine ⟨fun hopen => ?_, fun hmoney hlast hf hr => ?_⟩
      · rewrite [if_neg (by obtain h | h := hopen <;> simp [h])] at hslot
        exact onPart_writeDone (owner := slotOwner) hwrite rfl hslot rfl
      · rewrite [hmoney, hlast, Bool.and_self, if_pos rfl, completeIf_awaited (by exact hf) (by exact hr)] at hslot
        exact onPart_writeDone (owner := slotOwner) hwrite rfl hslot rfl
    · subst hg hrecord
      have hslot := slotWritten_clearing (slot := slot) (p := writtenAt a ws s.part) (n := n) hr hclearance hturn hn
      refine ⟨fun hleft => ?_, fun hall hf hr => ?_⟩
      · obtain ⟨m, hm, hne⟩ := hleft
        have hsome : (writtenAt a ws s.part).cau.clearing.filter (· != n) ≠ [] :=
          List.ne_nil_of_mem (List.mem_filter.2 ⟨hm, by simpa using hne⟩)
        rewrite [if_neg hsome] at hslot
        exact onPart_writeDone (owner := slotOwner) hwrite rfl hslot rfl
      · have hnone : (writtenAt a ws s.part).cau.clearing.filter (· != n) = [] :=
          List.filter_eq_nil_iff.2 fun m hm => by simpa using hall m hm
        rewrite [if_pos hnone, hnone, completeIf_awaited (by exact hf) (by exact hr),
          clearanceWritten_none (by exact hclearance)] at hslot
        exact onPart_writeDone (owner := slotOwner) hwrite rfl hslot rfl
  · intro p taken
    have hexec := exec_groupWriteComplete hg hport
    have hfree : p.bpu.port = none := rfl
    have houtside : windowAt a.toNat s.part = none → ∀ q : Part, q.bpu.windows = s.part.bpu.windows →
        windowAt a.toNat q = none := fun hout q hq => (windowAt_congr hq a.toNat).trans hout
    refine ⟨fun d hqueue => ?_, fun hout hload hturn => ⟨fun d hqueue => ?_, fun hqueue => ?_⟩,
      fun access hqueue hout hload haccess hcount => ?_⟩
    · have hwith : withQueue [.write (.address a) d] { p with bpu.hostQueue := [] } = p := by
        rewrite [← hqueue]
        rfl
      show _ = onPart (hostAccess (.write (.address a) d)) _
      rewrite [onPart, hostAccess_withQueue rfl, hwith]
      exact hexec
    · have hheld : isHeld (.write (.address a) d) p = false := by simpa [isHeld] using (show p.bpu.load ≠ _ from hload)
      have hpass : takeUnported (.write (.address a) d) { p with bpu.hostQueue := [] } = none :=
        takeUnported_outside (houtside hout { p with bpu.hostQueue := [] } rfl) (.inr ⟨d, rfl⟩)
      have htaken : takeAccess (.write (.address a) d) taken = stored a.toNat d taken :=
        writeEffect_outside (houtside hout (stored a.toNat d taken) rfl) d
      rw [hexec, serve_one (by exact hqueue), serveRounds_takes 3 (by exact hqueue) hheld hpass hfree hturn htaken rfl]
    · have hpass : takeUnported (.read (.address a)) { p with bpu.hostQueue := [] } = none := rfl
      have hread : windowAt a.toNat { taken with bpu.readData := readWord p.mem a.toNat } ≠ some (.status, 51) := by
        rewrite [houtside hout { taken with bpu.readData := readWord p.mem a.toNat } rfl]
        exact nofun
      have htaken : takeAccess (.read (.address a)) taken = { taken with bpu.readData := readWord p.mem a.toNat } :=
        if_neg hread
      rw [hexec, serve_one (by exact hqueue), serveRounds_takes 3 (by exact hqueue) rfl hpass hfree hturn htaken rfl]
    · have hheld : ∀ q : Part, q.bpu.load = s.part.bpu.load → isHeld access q = false := fun q hq => by
        obtain rfl | ⟨d, rfl⟩ := haccess
        · rfl
        · simpa [isHeld, hq] using hload
      have hpass : ∀ q : Part, q.bpu.windows = s.part.bpu.windows → takeUnported access q = none :=
        fun q hq => takeUnported_outside (houtside hout q hq) haccess
      refine ⟨fun b next hwindows hfirst => ?_, fun r rest hcells hwaiting hready => ?_⟩
      · obtain ⟨hwork, hrun⟩ := grantRun_group (p := p) hwindows hfirst
        rw [hexec, serve_one (by exact hqueue), serveRounds_starved 2 (by exact hqueue) (hheld p rfl)
          (hpass _ rfl) hfree hcount hwork hrun (by exact hqueue) (hheld _ rfl) (hpass _ rfl) rfl]
      · obtain ⟨hwork, hrun⟩ := grantRun_read (p := p) hcells hwaiting hready
        rw [hexec, serve_one (by exact hqueue), serveRounds_starved 2 (by exact hqueue) (hheld p rfl)
          (hpass _ rfl) hfree hcount hwork hrun (by exact hqueue) (hheld _ rfl) (hpass _ rfl) rfl]

end Sys2Proof.Machine
end

section
/-!
PROOFS. The abuse detectors (R13, R15, R133, R153, R154): the cord, the shock pulses, the lists of ticks, the reject
window and the reject map.
-/

namespace Sys2Proof.Machine

set_option Elab.async false in
/-- A raise's row is made of the row before it and the clock. -/
theorem raise_rows_of_rows {p q : Part} (hrows : q.cru.rows = p.cru.rows) (hclock : q.rtu.clock = p.rtu.clock)
    (k : Condition) (detail : Nat) : (raise k detail q).cru.rows = (raise k detail p).cru.rows := by
  rw [raise_rows, raise_rows, rowOf, rowOf, hrows, hclock]

/-! ## Shock (R154) -/

theorem raise_pulses (k : Condition) (detail : Nat) (p : Part) :
    (raise k detail p).cru.pulses = p.cru.pulses ∧ (raise k detail p).cru.shockQuiet = p.cru.shockQuiet := by
  have h : sensors (raise k detail p) = sensors (raisedTable k detail p) := (raise_after_table k detail p).1
  rewrite [raisedTable_frame] at h
  simp only [sensors, Prod.mk.injEq] at h
  obtain ⟨-, -, -, -, -, hpulses, hquiet, -⟩ := h
  exact ⟨hpulses, hquiet⟩

theorem judgePulses_view (p : Part) :
    (judgePulses p).cru.rows = (if 5 ≤ p.cru.pulses.length then (raise .shock p.cru.pulses.length p).cru.rows
      else p.cru.rows)
    ∧ (judgePulses p).cru.pulses = p.cru.pulses ∧ (judgePulses p).cru.shockQuiet = p.cru.shockQuiet
    ∧ inner (judgePulses p) = inner p ∧ outer (judgePulses p) = outer p := by
  unfold judgePulses
  split
  · exact ⟨rfl, (raise_pulses ..).1, (raise_pulses ..).2, raise_inner .., raise_outer ..⟩
  · exact ⟨rfl, rfl, rfl, rfl, rfl⟩

theorem restartQuiet_view (p : Part) :
    (restartQuiet p).cru.rows = p.cru.rows ∧ (restartQuiet p).cru.pulses = p.cru.pulses
    ∧ (restartQuiet p).cru.shockQuiet =
      (if isActive .shock p then some { start := p.tick, limit := 600000 } else p.cru.shockQuiet)
    ∧ inner (restartQuiet p) = inner p ∧ outer (restartQuiet p) = outer p := by
  unfold restartQuiet
  split <;> exact ⟨rfl, rfl, rfl, rfl, rfl⟩

/-! ## The reject window (R13) -/

theorem burstJudged_inner (w : List Measured) (p : Part) : inner (burstJudged w p) = inner p := by
  unfold burstJudged
  dsimp only
  split
  · exact raise_inner _ _ p
  · split
    · exact clear_inner _ p
    · rfl

theorem burstJudged_outer (w : List Measured) (p : Part) : outer (burstJudged w p) = outer p := by
  unfold burstJudged
  dsimp only
  split
  · exact raise_outer _ _ p
  · split
    · exact clear_outer _ p
    · rfl

theorem burstJudged_rows_congr {p q : Part} (hrows : q.cru.rows = p.cru.rows) (hclock : q.rtu.clock = p.rtu.clock)
    (w : List Measured) : (burstJudged w q).cru.rows = (burstJudged w p).cru.rows := by
  unfold burstJudged
  rewrite [isActive_congr hrows]
  dsimp only
  split
  · exact raise_rows_of_rows hrows hclock _ _
  · split
    · exact clear_rows_congr hrows _
    · exact hrows

theorem burstJudged_cleared {w : List Measured} (h : transitCount w + noMatchCount w ≤ 4) (p : Part) :
    burstJudged w p = clear .rejectBurst p := by
  unfold burstJudged
  rw [if_neg (by omega), if_pos h]

/-- What the window judges behind a coin's publication. -/
theorem takeOutcome_view {e : Measured} {p q : Part} (hrows : q.cru.rows = p.cru.rows)
    (hclock : q.rtu.clock = p.rtu.clock) (hwindow : q.cu.window = p.cu.window) :
    inner (takeOutcome e q) = inner { q with cu.window := joinWindow e p.cu.window }
    ∧ outer (takeOutcome e q) = outer q
    ∧ (takeOutcome e q).cru.rows = (burstJudged (joinWindow e p.cu.window) p).cru.rows := by
  rewrite [takeOutcome_eq, hwindow]
  exact ⟨burstJudged_inner _ _, burstJudged_outer _ _, burstJudged_rows_congr (p := p) (by exact hrows) (by exact hclock) _⟩

/-- A coin that leaves 4 rejects or fewer in the window clears REJECT_BURST. -/
theorem takeOutcome_cleared {e : Measured} {p q : Part} (hrows : q.cru.rows = p.cru.rows)
    (hwindow : q.cu.window = p.cu.window)
    (h : transitCount (joinWindow e p.cu.window) + noMatchCount (joinWindow e p.cu.window) ≤ 4) :
    isActive .rejectBurst (takeOutcome e q) = false
    ∧ (isActive .rejectBurst p = true → restrictionHolds (takeOutcome e q)
      ∧ (takeOutcome e q).bpu.causes.getLsbD 5 = true ∧ Group.status 7 ∈ (takeOutcome e q).bpu.dirty) := by
  rewrite [takeOutcome_eq, hwindow, burstJudged_cleared h]
  refine ⟨isActive_clear _ _, fun hactive => ?_⟩
  have hactive' : isActive .rejectBurst { q with cu.window := joinWindow e p.cu.window } = true :=
    (isActive_congr hrows _).trans hactive
  exact ⟨clear_restrictionHolds hactive', clear_sets_condition hactive', clear_marks_S7 hactive'⟩

/-- The gate rests on behind a coin that it need not serve. -/
theorem gateWork_outcome {e : Measured} {q : Part} (h : gateRests q) (k v : Nat) (r : Reason) (m : Measurement) :
    gateWork (takeOutcome e (publishCoin k v r m q)) = takeOutcome e (publishCoin k v r m q) := by
  have hrlu : (takeOutcome e (publishCoin k v r m q)).rlu = q.rlu :=
    (inner_rlu (takeOutcome_view (p := publishCoin k v r m q) rfl rfl rfl).1).trans (publishCoin_rlu k v r m q)
  exact gateWork_rest (gateRests_route h (by rw [hrlu]) (by rw [hrlu]) (by rw [hrlu]))

/-- A coin that is not rejected is published, and the window judged behind it. -/
theorem takeMeasurement_notRejected {p : Part} {m : Measurement} (hrests : gateRests p) (hgrace : p.cc.call ≠ .grace)
    (h : p.bpu.load = some .start ∨ p.rlu.dump ≠ .ended ∨ p.cu.table = none
      ∨ ∃ table, p.cu.table = some table ∧ ∀ why, classifyCoin table m ≠ .reject why) :
    ∃ k v r q, takeMeasurement m p = takeOutcome .notRejected (publishCoin k v r m q) ∧ q.cru = p.cru ∧ q.rtu = p.rtu
      ∧ q.cu.window = p.cu.window ∧ q.cu.rejects = p.cu.rejects ∧ q.mem = p.mem := by
  by_cases hready : p.bpu.load = some .start ∨ p.rlu.dump ≠ .ended ∨ p.cu.table = none
  · exact ⟨0, 0, .refused, { p with cu.flap := none }, takeMeasurement_unready m hready, rfl, rfl, rfl, rfl, rfl⟩
  · obtain ⟨hload, hdump, htable⟩ : p.bpu.load ≠ some .start ∧ p.rlu.dump = .ended ∧ p.cu.table ≠ none := by
      simpa only [not_or, ne_eq, not_not] using hready
    obtain ⟨table, ht, hnot⟩ : ∃ table, p.cu.table = some table ∧ ∀ why, classifyCoin table m ≠ .reject why := by
      obtain h | h | h | h := h
      · exact absurd h hload
      · exact absurd hdump h
      · exact absurd h htable
      · exact h
    rewrite [takeMeasurement_ready m hload hdump ht]
    cases hc : classifyCoin table m with
    | reject why => exact absurd hc (hnot why)
    | disabled k v =>
      exact ⟨k, v, .disabled, { p with cu.flap := none }, gateWork_outcome (q := { p with cu.flap := none }) hrests ..,
        rfl, rfl, rfl, rfl, rfl⟩
    | valid k v =>
      by_cases hnone : firstFailing v p = .none
      · have hjoined := joinRail_joined hgrace k v m
        have hroute : routeCoin (.valid k v) m p = takeOutcome .notRejected (publishCoin k v .none m (joinRail k v m p)) := by
          simp only [routeCoin, routeReason_eq, hnone, if_true]
        rewrite [hroute]
        generalize joinRail k v m p = q at hjoined
        have hrests' : gateRests q :=
          gateRests_route hrests (by rw [hjoined.rlu]) (by rw [hjoined.rlu]) (by rw [hjoined.rlu])
        exact ⟨k, v, .none, q, gateWork_outcome hrests' .., hjoined.cru, hjoined.rtu, by rw [hjoined.cu],
          by rw [hjoined.cu], hjoined.mem⟩
      · have hreturned := returnCoin_returned (firstFailing v p) p
        have hroute : routeCoin (.valid k v) m p =
            takeOutcome .notRejected (publishCoin k v (firstFailing v p) m (returnCoin (firstFailing v p) p)) := by
          simp only [routeCoin, routeReason_eq, if_neg hnone]
        rewrite [hroute]
        generalize returnCoin (firstFailing v p) p = q at hreturned
        have hrests' : gateRests q :=
          gateRests_route hrests (by rw [hreturned.rlu]) (by rw [hreturned.rlu]) (by rw [hreturned.rlu])
        exact ⟨k, v, firstFailing v p, q, gateWork_outcome hrests' .., hreturned.cru, hreturned.rtu,
          by rw [hreturned.cu], by rw [hreturned.cu], hreturned.mem⟩

/-! ## The reject map (R15) -/

theorem clusterDetail (m : Measurement) :
    cellIndex m / 16 * 100 + cellIndex m % 16 = 100 * (m.d.toNat / 4096) + m.a.toNat / 4096 := by
  have ha : m.a.toNat / 4096 < 16 := Nat.div_lt_of_lt_mul m.a.isLt
  unfold cellIndex
  omega

/-- What a reject in the map does: SLUG_CLUSTER is raised just where its cell reaches the threshold. -/
theorem addReject_view {i n limit : Nat} {p : Part} (hn : (readWord p.cu.rejects i).toNat = n)
    (hlimit : clusterLimit p = limit) :
    (addReject i p).cru.rows =
      (if n + 1 = limit then (raise .slugCluster (i / 16 * 100 + i % 16) p).cru.rows else p.cru.rows)
    ∧ (addReject i p).cu.window = p.cu.window ∧ (addReject i p).rlu = p.rlu ∧ (addReject i p).cau = p.cau
    ∧ (addReject i p).mem = p.mem := by
  subst hn hlimit
  have hreach : (cellValue i p < clusterLimit p ∧ clusterLimit p ≤ cellValue i p + 1) ↔
      (readWord p.cu.rejects i).toNat + 1 = clusterLimit p := by
    show _ ↔ cellValue i p + 1 = _
    omega
  unfold addReject
  simp only [hreach]
  split
  · exact ⟨raise_rows_of_rows (p := p) (by rfl) (by rfl) _ _, by rw [raise_cu], raise_rlu .., raise_cau .., raise_mem ..⟩
  · exact ⟨rfl, rfl, rfl, rfl, rfl⟩

theorem completeIf_frame (code : Nat) (c : ResultCode) (p : Part) :
    completeIf code c p = { p with bpu := (completeIf code c p).bpu } := by
  unfold completeIf
  split <;> rfl

theorem anyCluster_iff (p : Part) :
    (!anyCluster p) = true ↔ ∀ c ∈ p.cu.rejects, c.2.toNat < clusterLimit p := by
  rewrite [Bool.not_eq_true', anyCluster, List.any_eq_false]
  simp only [decide_eq_true_eq, Nat.not_le]

/-- The end of a map dump clears SLUG_CLUSTER just where it cleared the cells and none stands at the threshold. -/
theorem endMapDump_view {p : Part} {all : Bool} {held : Nat} (h : p.cu.dump = some { clear := all, held }) :
    outer (endMapDump p) = outer p ∧ (endMapDump p).cu = { p.cu with dump := none }
    ∧ (endMapDump p).cru.rows = (if all = true ∧ ∀ c ∈ p.cu.rejects, c.2.toNat < clusterLimit p then
        (clear .slugCluster p).cru.rows else p.cru.rows)
    ∧ (endMapDump p).rlu = p.rlu ∧ (endMapDump p).cau = p.cau ∧ (endMapDump p).cc = p.cc := by
  have hany := anyCluster_iff { p with cu.dump := none }
  unfold endMapDump
  rewrite [h]
  dsimp only
  refine ⟨?_, ?_⟩
  · rewrite [completeIf_outer]
    split
    · exact clear_outer _ _
    · rfl
  · rewrite [completeIf_frame]
    by_cases hclear : all = true ∧ ∀ c ∈ p.cu.rejects, c.2.toNat < clusterLimit p
    · rewrite [if_pos (Bool.and_eq_true_iff.2 ⟨hclear.1, hany.2 hclear.2⟩), if_pos hclear]
      exact ⟨clear_cu .., clear_rows_congr (p := p) (by rfl) _, clear_rlu .., clear_cau .., clear_cc ..⟩
    · rewrite [if_neg fun hcond => hclear ⟨(Bool.and_eq_true_iff.1 hcond).1, hany.1 (Bool.and_eq_true_iff.1 hcond).2⟩,
        if_neg hclear]
      exact ⟨rfl, rfl, rfl, rfl, rfl⟩

theorem cellZeroed_unheld {p : Part} {all : Bool} (h : p.cu.dump = some { clear := all, held := 0 }) (i : Nat) :
    cellZeroed i p = { p with cu.rejects := if all then writeWord p.cu.rejects i 0 else p.cu.rejects } := by
  cases all with
  | true =>
    rewrite [cellZeroed_clearing h, addHeld, ← h]
    rfl
  | false => exact cellZeroed_keeping h i

/-- Settles O60, from the raises and clears of each detector. -/
theorem abuseDetected : Obligations.AbuseDetected := by
  unfold Obligations.AbuseDetected
  intro s
  refine ⟨?_, ?_, ?_, fun hdue => ?_, fun hdue => ?_, fun hdue => ?_, fun hdue => ?_,
    fun table m why hload hdump ht hclass hrests hmap => ?_, fun m hrests hgrace hnot => ?_,
    fun a ws all hwrite hdump => ?_⟩
  · intro p
    show onPart (fun q => cordChanges true { q with
      pins.cordOpen := true, samplers.cord := { last := true, held := 2000 } }) s = _
    rewrite [onPart, cordChanges, if_pos rfl, isActive_congr (p := s.part) (by rfl)]
    rfl
  · rfl
  · show ∃ t, onPart (fun q => takePulse { q with
      pins.shockClosed := false, samplers.shock := heldFor false 0 }) s = .next t ∧ _
    let q : Part := { s.part with pins.shockClosed := false, samplers.shock := heldFor false 0 }
    let r : Part := { q with cru.pulses := appendTick 60000 q q.cru.pulses }
    obtain ⟨hrows, hpulses, hquiet, hinner, houter⟩ := judgePulses_view r
    obtain ⟨hrows', hpulses', hquiet', hinner', houter'⟩ := restartQuiet_view (judgePulses r)
    have hpulse : (restartQuiet (judgePulses r)).cru.pulses = ticksWith 60000 s.part.cru.pulses s.part :=
      hpulses'.trans hpulses
    have hin := hinner'.trans hinner
    have hactive := isActive_congr hrows' .shock
    refine ⟨{ s with part := restartQuiet (judgePulses r) }, rfl, hpulse, ?_, fun h => ?_, fun h => ?_, inner_rlu hin,
      inner_cau hin, inner_cc hin, (outer_mem houter').trans (outer_mem (p := r) houter)⟩
    · refine (hrows'.trans hrows).trans ?_
      rewrite [hpulses', hpulses]
      split
      · exact raise_rows_of_rows (p := s.part) (by rfl) (by rfl) _ _
      · rfl
    · refine hquiet'.trans ?_
      rw [if_pos (hactive.symm.trans h), outer_tick houter]
    · refine hquiet'.trans ?_
      rw [if_neg (by rewrite [← hactive, h]; decide), hquiet]
  · show onPart (fun p => onExpiry p.cru.shockQuiet _ p) s = _
    rw [onPart, onExpiry_due hdue]
  · show onPart (fun p => onExpiry (ageTimer 60000 p.cru.pulses) _ p) s = _
    rewrite [onPart, onExpiry_due hdue]
    rfl
  · show onPart (fun p => onExpiry (ageTimer 10000 p.cc.flashes) _ p) s = _
    rewrite [onPart, onExpiry_due hdue]
    rfl
  · show onPart (fun p => onExpiry p.cc.abuse _ p) s = _
    rw [onPart, onExpiry_due hdue]
  · intro window cell count burst
    let q := publishCoin 0 0 (rejectReason why) m { s.part with cu.flap := none }
    obtain ⟨hinner, houter, hrows⟩ := takeOutcome_view (e := why) (p := s.part) (q := q) (by simp [q]) (by simp [q])
      (by simp [q])
    have hcu := inner_cu hinner
    have hview := addReject_view (i := cellIndex m) (p := takeOutcome why q) (n := count) (limit := table.cluster)
      (by rewrite [hcu]; simp [q, count, cell, cellIndex]) (by rewrite [clusterLimit, hcu]; simp [q, ht])
    have hexec : exec (.coinMeasurement m.d m.a m.t) s = .next { s with
        part := gateWork (addReject (cellIndex m) (takeOutcome why q)) } := by
      refine exec_coinMeasurement ?_
      rw [takeMeasurement_ready m hload hdump ht, hclass, routeCoin_reject, binReject_undumped]
      rewrite [hcu]
      simpa [q] using hmap
    obtain ⟨hrows', hwindow, hrlu, hcau, hmem⟩ := hview
    have hrlu' : (addReject (cellIndex m) (takeOutcome why q)).rlu = s.part.rlu := by
      rewrite [hrlu, inner_rlu hinner]
      simp [q]
    rewrite [gateWork_rest (gateRests_route hrests (by rw [hrlu']) (by rw [hrlu']) (by rw [hrlu']))] at hexec
    refine ⟨_, hexec, ?_, ?_, hrlu', ?_, ?_⟩
    · simp [hwindow, hcu, window]
    · rewrite [clusterDetail] at hrows'
      refine hrows'.trans ?_
      have hclock : (takeOutcome why q).rtu.clock = burst.rtu.clock := by
        rewrite [inner_rtu hinner, inner_rtu (burstJudged_inner window s.part)]
        simp [q]
      rw [hrows, raise_rows_of_rows hrows hclock]
    · rewrite [hcau, inner_cau hinner]
      simp [q]
    · rewrite [hmem, outer_mem houter]
      simp [q]
  · intro window
    obtain ⟨k, v, r, q, htaken, hcru, hrtu, hwindow, hrejects, hmem⟩ := takeMeasurement_notRejected hrests hgrace hnot
    have hrows' : (publishCoin k v r m q).cru.rows = s.part.cru.rows := by rw [publishCoin_cru, hcru]
    have hwindow' : (publishCoin k v r m q).cu.window = s.part.cu.window := by rw [publishCoin_window, hwindow]
    obtain ⟨hinner, houter, hrows⟩ := takeOutcome_view (e := .notRejected) hrows'
      (by rw [publishCoin_rtu, hrtu]) hwindow'
    have hcu := inner_cu hinner
    refine ⟨_, exec_coinMeasurement htaken, by rw [hcu], hrows, fun h => takeOutcome_cleared hrows' hwindow' h, ?_, ?_⟩
    · rewrite [hcu]
      simpa using hrejects
    · rewrite [outer_mem houter]
      simpa using hmem
  · intro live
    let q : Part := { writtenAt a ws s.part with cu.rejects := live }
    have hcell : cellWritten 255 (writtenAt a ws s.part) = endMapDump q := by
      show endMapDump (cellZeroed 255 (writtenAt a ws s.part)) = _
      rewrite [cellZeroed_unheld (p := writtenAt a ws s.part) hdump]
      rfl
    obtain ⟨houter, hcu, hrows, hrlu, hcau, hcc⟩ := endMapDump_view (p := q) hdump
    refine ⟨_, onPart_writeDone (owner := cellOwner) hwrite rfl hcell houter, by rw [hcu], by rw [hcu], ?_, hrlu, hcau,
      hcc⟩
    exact hrows.trans (by rewrite [clear_rows_congr (p := s.part) (q := q) rfl]; rfl)

end Sys2Proof.Machine
end

section
/-!
PROOFS. The reading of the line (R97, R114, R123 to R126): what a change of current or sense does, and the answer of a
call.
-/

namespace Sys2Proof.Machine

/-! ## What follows the reading -/

set_option Elab.async false in
theorem isTimed_of_copy {p : Part} {l : LineSettings} (h : p.lu.copy = some l) : isTimed p = l.timed := by
  rw [isTimed, h]

theorem followLoss_current {p : Part} (h : isWatched p.lu.line = true) (hloop : p.pins.loop.isSome = true) :
    followLoss p = { p with lu.loss := { counted := 0, since := none } } := by
  rw [followLoss, if_pos h, if_pos hloop]

theorem followReversal_other {p : Part} (h : p.lu.line ≠ .awaitAnswer) : followReversal p = p :=
  if_neg fun hc => h hc.1

theorem followClear_other {p : Part} (h : isConnected p.lu.line = false) : followClear p = p :=
  if_neg fun hc => by simp [h] at hc

/-- What the three followers change of the line. -/
theorem followLoss_frame (p : Part) :
    followLoss p = { p with lu.loss := (followLoss p).lu.loss, lu.spoiled := (followLoss p).lu.spoiled } := by
  unfold followLoss resumeLoss
  split
  · split
    · rfl
    · split <;> rfl
  · rfl

theorem followReversal_frame (p : Part) : followReversal p = { p with
    lu.reversalHold := (followReversal p).lu.reversalHold, lu.mustReturn := (followReversal p).lu.mustReturn } := by
  unfold followReversal
  split
  · split
    · split <;> rfl
    · rfl
  · rfl

theorem followClear_frame (p : Part) : followClear p = { p with lu.clearHold := (followClear p).lu.clearHold } := by
  unfold followClear
  split <;> rfl

/-- Without current no sense stands at the reference or against it: the holds end, and what must return still must. -/
theorem followReversal_lost {p : Part} (h : p.pins.loop = none) :
    (followReversal p).lu.mustReturn = p.lu.mustReturn
    ∧ (p.lu.line = .awaitAnswer → isTimed p = false → (followReversal p).lu.reversalHold = none) := by
  have hopposite : isOpposite p = false := by simp [isOpposite, opposes, h]
  have hreference : isAtReference p = false := by simp [isAtReference, h]
  unfold followReversal
  rewrite [hopposite, hreference]
  split
  · exact ⟨Bool.and_true _, fun _ _ => rfl⟩
  next hother => exact ⟨rfl, fun hline htimed => absurd ⟨hline, htimed⟩ hother⟩

theorem followClear_lost {p : Part} (h : p.pins.loop = none) (hline : isConnected p.lu.line = true)
    (htimed : isTimed p = false) : (followClear p).lu.clearHold = none := by
  have hreference : isAtReference p = false := by simp [isAtReference, h]
  unfold followClear
  rewrite [if_pos ⟨hline, htimed⟩, hreference]
  rfl

/-! ## The reading itself -/

/-- A loss of current, the sense shown before it kept (log entry 31). -/
theorem senseLoop_lost {p : Part} {sense : Polarity} (h : p.pins.loop = some sense) : senseLoop none p =
    followClear (followReversal (followLoss { p with pins.loop := none, lu.shown := some sense })) := by
  rewrite [senseLoop, if_neg (by simp [h])]
  simp only [Option.isNone_none, if_true, h]
  split
  next hnone => exact absurd hnone (by simp)
  next => rfl

/-- A sense on a line that is not being seized. -/
theorem senseLoop_seen {p : Part} {sense : Polarity} (h : p.pins.loop ≠ some sense) (hline : isWatched p.lu.line = true) :
    senseLoop (some sense) p = followClear (followReversal { p with
      pins.loop := some sense, lu.loss := { counted := 0, since := none } }) := by
  have hother : p.lu.line ≠ .seizing := by
    intro hseizing
    rewrite [hseizing] at hline
    cases hline
  rewrite [senseLoop, if_neg h]
  have hloss := followLoss_current (p := { p with pins.loop := some sense }) hline rfl
  simp only [Option.isNone_some, Bool.false_eq_true, if_false]
  split
  next hs _ => exact absurd hs hother
  next => exact congrArg (fun q => followClear (followReversal q)) hloss

/-- A sense in AWAIT_ANSWER under REVERSAL. -/
theorem senseLoop_awaiting {p : Part} {sense : Polarity} (h : p.pins.loop ≠ some sense)
    (hline : p.lu.line = .awaitAnswer) : senseLoop (some sense) p = followReversal { p with
      pins.loop := some sense, lu.loss := { counted := 0, since := none } } := by
  rw [senseLoop_seen h (by rewrite [hline]; rfl), followClear_other]
  rewrite [followReversal_frame]
  simp only [hline]
  rfl

theorem isOpposite_iff {p : Part} {sense r : Polarity} (hloop : p.pins.loop = some sense)
    (hr : p.lu.reference = some r) : isOpposite p = decide (sense ≠ r) := by
  cases sense <;> cases r <;> simp [isOpposite, opposes, hloop, hr]

theorem isAtReference_iff {p : Part} {sense r : Polarity} (hloop : p.pins.loop = some sense)
    (hr : p.lu.reference = some r) : isAtReference p = decide (sense = r) := by
  cases sense <;> cases r <;> simp [isAtReference, hloop, hr]

/-- A line that has shown the reference since dialling ended: an opposite sense begins the hold, a return ends it. -/
theorem followReversal_returned {p : Part} {sense r : Polarity} (hline : p.lu.line = .awaitAnswer)
    (htimed : isTimed p = false) (hloop : p.pins.loop = some sense) (hr : p.lu.reference = some r)
    (hmust : p.lu.mustReturn = false) : followReversal p = { p with
      lu.reversalHold := if sense = r then none else some { start := p.tick, limit := 40 } } := by
  unfold followReversal
  rewrite [if_pos ⟨hline, htimed⟩, isOpposite_iff hloop hr, hmust, Bool.false_and]
  by_cases h : sense = r
  · simp only [h, ne_eq, not_true_eq_false, decide_false, Bool.false_eq_true, if_false, if_true]
    rw [← hmust]
  · simp only [h, ne_eq, not_false_eq_true, decide_true, Bool.false_eq_true, if_false, if_true]
    rfl

/-- A sense that must return first: the opposite one begins nothing, and the reference ends the wait. -/
theorem followReversal_standing {p : Part} {sense r : Polarity} (hline : p.lu.line = .awaitAnswer)
    (htimed : isTimed p = false) (hloop : p.pins.loop = some sense) (hr : p.lu.reference = some r)
    (hmust : p.lu.mustReturn = true) : followReversal p = { p with
      lu.reversalHold := if sense = r then none else p.lu.reversalHold, lu.mustReturn := decide (sense ≠ r) } := by
  unfold followReversal
  rewrite [if_pos ⟨hline, htimed⟩, isOpposite_iff hloop hr, isAtReference_iff hloop hr, hmust, Bool.true_and]
  by_cases h : sense = r
  · simp only [h, ne_eq, not_true_eq_false, decide_false, Bool.false_eq_true, if_false, if_true, decide_true,
      Bool.not_true]
  · simp only [h, ne_eq, not_false_eq_true, decide_true, if_false, if_true]
    rw [← hmust]

/-- The clear hold on a connected line (R126). -/
theorem followClear_connected {p : Part} {sense r : Polarity} {l : LineSettings} (hline : isConnected p.lu.line = true)
    (hcopy : p.lu.copy = some l) (hloop : p.pins.loop = some sense) (hr : p.lu.reference = some r) :
    followClear p = { p with
      lu.clearHold := if l.timed = true then p.lu.clearHold
        else if sense = r then some { start := p.tick, limit := 200 } else none } := by
  unfold followClear
  rewrite [isTimed_of_copy hcopy, isAtReference_iff hloop hr]
  by_cases htimed : l.timed = true
  · rw [if_neg (by simp [htimed]), if_pos htimed]
  · rewrite [if_pos ⟨hline, by simpa using htimed⟩, if_neg htimed]
    simp only [decide_eq_true_eq]
    rfl

/-! ## The answer (R97, R123, R124) -/

theorem setCall_frame (c : CallState) (p : Part) :
    setCall c p = { p with cc.call := c, bpu := (setCall c p).bpu } := by
  by_cases h : p.cc.call = c
  · rw [setCall, if_pos h, ← h]
  · rewrite [setCall_of_ne h]
    rfl

/-- The line as an answer leaves it. -/
def lineAnswered (p : Part) : Part :=
  markS 0 { p with
    lu.line := .connected
    lu.answerLimit := none
    lu.reversalHold := none
    lu.clearHold := none
    lu.classifier := Classifier.empty }

theorem answerCall_customer {p : Part} (h : p.lu.owner = .customer) : answerCall p = takeAnswered (lineAnswered p) := by
  show (match p.lu.owner with
    | .customer => takeAnswered (lineAnswered p)
    | .report => _
    | .probe => _
    | .none => _) = _
  rw [h]

theorem answerCall_report {p : Part} (h : p.lu.owner = .report) :
    answerCall p = { lineAnswered p with lu.pause := some (newTimer 1000 p) } := by
  show (match p.lu.owner with
    | .customer => _
    | .report => { lineAnswered p with lu.pause := some (newTimer 1000 p) }
    | .probe => _
    | .none => _) = _
  rw [h]

theorem takeAnswered_free {p : Part} {c : PlacedCall} (hplaced : p.cc.placed = some c) (hfree : c.cls = .freeClass) :
    takeAnswered p = setCall .talking { p with
      cc.placed := some { c with answer := some { tick := p.tick, band := bandNow p } } } := by
  unfold takeAnswered
  rewrite [hplaced]
  exact if_pos hfree

/-- The two commands that answer a call do the same. -/
theorem exec_answers {s : State} {t : Part} (h : answerCall s.part = t) :
    (due s.part.lu.reversalHold s.part → exec .reversalHoldEnd s = .next { s with part := t })
    ∧ (due (timedSilence s.part) s.part → exec .timedAnswerExpiry s = .next { s with part := t }) := by
  subst h
  refine ⟨fun hdue => ?_, fun hdue => ?_⟩
  · show onPart (fun p => onExpiry p.lu.reversalHold answerCall p) s = _
    rw [onPart, onExpiry_due hdue]
  · show onPart (fun p => onExpiry (timedSilence p) answerCall p) s = _
    rw [onPart, onExpiry_due hdue]

theorem exec_reportPauseEnd {s : State} (hdue : due s.part.lu.pause s.part) :
    exec .reportPauseEnd s = .next { s with part := endPause s.part } := by
  show onPart (fun p => onExpiry p.lu.pause endPause p) s = _
  rw [onPart, onExpiry_due hdue]

/-- After the pause the next record is composed and its frame begins (R169). -/
theorem endPause_sends {p : Part} {c : ReportCall} {r : ReportRecord} (hline : p.lu.line = .connected)
    (hreport : p.cru.report = some c) (hnext : nextRecord p.cru.queue = some r) {s1 : Nat} {rest : List Nat}
    (hframe : frameOf c.identity r = s1 :: rest) {q : Part}
    (hq : q = { p with lu.pause := none, lu.announced := true, cru.report := some { c with sends := 0 } }) :
    endPause p = startTone s1 rest (markS 0 { changeRecord r.slot composed { q with
      cru.report := some { c with sends := 1 } } with lu.line := .sending }) := by
  subst hq
  show chooseRecord _ = _
  rewrite [chooseRecord_next (c := c) (by exact hreport) (by exact hnext)]
  exact sendFrame_sent (c := { c with sends := 0 }) rfl hline rfl hframe

/-! ## The end of dialling by breaks (R114, R123) -/

/-- Without current the loss timer runs on behind the last break. -/
theorem resumeLoss_frame (p : Part) : resumeLoss p = { p with lu.loss := (resumeLoss p).lu.loss } := by
  unfold resumeLoss
  split <;> rfl

theorem resumeLoss_runs {p : Part} (hwatched : isWatched p.lu.line = true) (hloop : p.pins.loop = none)
    (hclosed : loopClosed p = true) : (resumeLoss p).lu.loss.since.isSome = true := by
  unfold resumeLoss
  rewrite [hwatched, hloop, hclosed]
  cases h : p.lu.loss.since with
  | none => rfl
  | some t => simp [h]

theorem opposes_some {p : Part} {q r : Polarity} (hr : p.lu.reference = some r) :
    opposes (some q) p = decide (q ≠ r) := by
  cases q <;> cases r <;> simp [opposes, hr]

/-- Settles O55, from the reading of the line and the answer. -/
theorem callsAnswered : Obligations.CallsAnswered := by
  unfold Obligations.CallsAnswered
  intro s
  have hpolarity : ∀ sense, s.part.pins.loop.isSome = true →
      exec (.polarityChange sense) s = .next { s with part := senseLoop (some sense) s.part } := by
    intro sense hloop
    show onPart (fun p => if p.pins.loop.isSome then senseLoop (some sense) p else p) s = _
    rw [onPart, if_pos hloop]
  refine ⟨fun sense r l hline hcopy htimed hr hmust hloop hne => ?_, fun c hdue howner hplaced hfree => ?_,
    fun hdue howner => ?_, fun c r hdue hline hreport hnext => ?_, fun l hcopy => ⟨fun hother => ?_, fun hline htimed =>
      ⟨fun t hring hlast => ?_, fun u hring hlimit => ?_⟩⟩, fun q r hline hdue hphase hbreaks hrest hr hshown hloop => ?_,
    fun sense hloop => ?_, fun sense r l hline hcopy htimed hr => ⟨fun hmust hne => ?_, fun hmust hloop => ?_⟩,
    fun sense r l hline hcopy hr hloop hne => ?_⟩
  · rw [hpolarity sense hloop, senseLoop_awaiting hne hline, followReversal_returned (by exact hline)
      ((isTimed_of_copy (by exact hcopy)).trans htimed) rfl (by exact hr) (by exact hmust)]
  · have htalking : answerCall s.part = _ := (answerCall_customer howner).trans (takeAnswered_free hplaced hfree)
    rewrite [setCall_frame] at htalking
    obtain ⟨hreversal, htimed⟩ := exec_answers htalking
    exact ⟨_, hreversal, htimed, rfl, rfl, howner, rfl, rfl, rfl, rfl, rfl, rfl, rfl⟩
  · obtain ⟨hreversal, htimed⟩ := exec_answers (answerCall_report howner)
    exact ⟨_, hreversal, htimed, rfl, rfl, rfl, rfl, rfl, rfl, rfl⟩
  · have hframe := frameOf_cons c.identity r
    have hexec := exec_reportPauseEnd hdue
    rewrite [endPause_sends hline hreport hnext hframe rfl] at hexec
    exact ⟨_, _, _, hexec, (frameOf_composed c.identity r).trans hframe, rfl, rfl, rfl, rfl, rfl, rfl, rfl, rfl, rfl, rfl,
      rfl⟩
  · unfold timedSilence
    refine if_neg fun hc => ?_
    rewrite [isTimed_of_copy hcopy] at hc
    obtain h | h := hother
    · exact h hc.1
    · simp [h] at hc
  · unfold timedSilence
    rewrite [if_pos ⟨hline, (isTimed_of_copy hcopy).trans htimed⟩, if_pos hring, hlast]
    rfl
  · unfold timedSilence
    rewrite [if_pos ⟨hline, (isTimed_of_copy hcopy).trans htimed⟩, if_neg (by simp [hring]), hlimit]
    rfl
  · have hexec := exec_pulseBreakEnd hdue hphase
    rewrite [endBreak_last hbreaks hrest] at hexec
    have hruns := resumeLoss_runs (p := enterAwaitAnswer s.part) rfl hloop rfl
    rewrite [resumeLoss_frame] at hexec
    refine ⟨_, hexec, rfl, rfl, rfl, ?_, rfl, hruns, rfl, rfl, rfl, rfl, rfl⟩
    exact (enterAwaitAnswer_mustReturn s.part).trans (by rw [lastShown_none hloop, hshown, opposes_some hr])
  · let p : Part := { s.part with pins.loop := none, lu.shown := some sense }
    have hexec : exec (.loopCurrentChange none) s = .next { s with
        part := followClear (followReversal (followLoss p)) } := by
      show onPart (senseLoop none) s = _
      rw [onPart, senseLoop_lost hloop]
    have hloss := followLoss_frame p
    generalize hq : followLoss p = q at hexec hloss
    have hloop' : q.pins.loop = none := by rw [hloss]
    obtain ⟨hmust, hhold⟩ := followReversal_lost hloop'
    have hreversal := followReversal_frame q
    generalize hr : followReversal q = r at hexec hreversal hmust hhold
    have hloop'' : r.pins.loop = none := by rewrite [hreversal]; exact hloop'
    have hclear := followClear_lost hloop''
    have hframe := followClear_frame r
    generalize followClear r = t at hexec hframe hclear
    have hline : r.lu.line = s.part.lu.line := by rw [hreversal, hloss]
    have hcopy : isTimed r = isTimed s.part := by rewrite [hreversal, hloss]; rfl
    have htimed : (∃ l, s.part.lu.copy = some l ∧ l.timed = false) → isTimed s.part = false := by
      rintro ⟨l, hl, hfalse⟩
      exact (isTimed_of_copy hl).trans hfalse
    refine ⟨_, hexec, by rewrite [hframe]; exact hloop'', by rw [hframe, hreversal, hloss],
      by rewrite [hframe]; exact hmust.trans (by rw [hloss]), fun hconnected hl => hclear (hline ▸ hconnected)
        (hcopy.trans (htimed hl)), fun hawait hl => ⟨?_, by rewrite [hframe]; exact hline.trans hawait,
        by rw [hframe, hreversal, hloss]⟩, by rw [hframe, hreversal, hloss], by rw [hframe, hreversal, hloss],
      by rw [hframe, hreversal, hloss], by rw [hframe, hreversal, hloss]⟩
    rewrite [hframe]
    exact hhold (by rewrite [hloss]; exact hawait) (by rewrite [hloss]; exact htimed hl)
  · intro q
    have hsense : senseLoop (some sense) s.part = q := by
      rewrite [senseLoop_awaiting hne hline]
      exact followReversal_standing hline ((isTimed_of_copy hcopy).trans htimed) rfl hr hmust
    refine ⟨?_, fun hloop => ?_⟩
    · show onPart (senseLoop (some sense)) s = _
      rw [onPart, hsense]
    · rw [hpolarity sense hloop, hsense]
  · show onPart (senseLoop (some sense)) s = _
    rw [onPart, senseLoop_awaiting (by rewrite [hloop]; exact nofun) hline, followReversal_returned (by exact hline)
      ((isTimed_of_copy (by exact hcopy)).trans htimed) rfl (by exact hr) (by exact hmust)]
  · have hwatched : isWatched s.part.lu.line = true := by
      revert hline
      cases s.part.lu.line <;> simp [isConnected, isWatched]
    have hother : s.part.lu.line ≠ .awaitAnswer := by
      intro h
      rewrite [h] at hline
      cases hline
    rw [hpolarity sense hloop, senseLoop_seen hne hwatched, followReversal_other (by exact hother),
      followClear_connected (by exact hline) (by exact hcopy) rfl (by exact hr)]

end Sys2Proof.Machine
end

section
/-!
PROOFS. An ending event with no charge in flight and no settlement waiting (R141, R142): the call ends at once, and the
money and the gate stay as they are.
-/

namespace Sys2Proof.Machine

/-! ## The completion, operation by operation -/

set_option Elab.async false in
theorem unlockFor_frame (c : PlacedCall) (p : Part) :
    unlockFor c p = { p with rtu.cache := (unlockFor c p).rtu.cache } := by
  unfold unlockFor; split <;> rfl

theorem settleIfDue_undue {p : Part} (h : p.rlu.settlementDue = false) : settleIfDue p = p := by
  rw [settleIfDue, if_neg (by simp [h])]

theorem setCall_publishes (c : CallState) (p : Part) : Publishes p (setCall c p) := by
  unfold setCall
  split
  · exact .refl p
  · exact .ofLast (setCause_publishes .call _) (.after (markS_publishes 0 _) rfl)

theorem enterClearing_publishes (p : Part) : Publishes p (enterClearing p) := .after (markS_publishes 0 _) rfl

theorem releaseLine_publishes (o : Owner) (p : Part) : Publishes p (releaseLine o p) := by
  unfold releaseLine
  dsimp only
  split <;> split
  · exact (enterClearing_publishes _).after rfl
  · exact .of_bpu rfl
  · exact enterClearing_publishes p
  · exact .refl p

theorem releaseLine_frame (o : Owner) (p : Part) :
    releaseLine o p = { p with lu := (releaseLine o p).lu, bpu := (releaseLine o p).bpu } := by
  unfold releaseLine
  dsimp only
  split <;> split <;> rfl

/-- The line's registers as CLEARING begins (R108). -/
def clearedLu (now : Tick) (l : Lu) : Lu :=
  { l with
    line := .clearing, owner := .none, copy := none, reference := none, spoiled := false, number := []
    sender := Sender.still, inCall := [], classifier := Classifier.empty, loss := { counted := 0, since := none }
    clearing := some { start := now, limit := 1000 }
    loopLimit := none, searchLimit := none, reversalHold := none, clearHold := none, answerLimit := none, pause := none
    ackWait := none, mustReturn := false, announced := false }

theorem enterClearing_lu (p : Part) : (enterClearing p).lu = clearedLu p.tick p.lu := rfl

theorem releaseLine_customer (p : Part) : (releaseLine .customer p).lu =
    if p.lu.owner = .customer then clearedLu p.tick { p.lu with waitingSeize := none }
    else { p.lu with waitingSeize := none } := by
  rewrite [releaseLine, if_pos rfl]
  by_cases h : p.lu.owner = .customer
  · rw [if_pos ⟨h, by decide⟩, if_pos h, enterClearing_lu]
  · rw [if_neg (fun hc => h hc.1), if_neg h]

theorem enterCollecting_publishes (p : Part) : Publishes p (enterCollecting p) := by
  unfold enterCollecting clearDigits
  split
  · exact setCall_publishes _ _
  · exact .ofLast (setCall_publishes _ _) (.after (markS_publishes 2 _) rfl)

theorem leaveCall_publishes (p : Part) : Publishes p (leaveCall p) := by
  unfold leaveCall
  dsimp only
  split
  · exact (enterCollecting_publishes _).after rfl
  · exact (setCall_publishes _ _).after rfl

theorem completeIf_publishes (n : Nat) (c : ResultCode) (p : Part) : Publishes p (completeIf n c p) := by
  unfold completeIf
  split
  · exact ⟨fun g hg => show g ∈ insertGroup .result p.bpu.dirty from mem_insertGroup_of_mem hg, fun _ h => h⟩
  · exact .refl p

theorem recordCall_publishes {c : PlacedCall} {e : EndingMark} {n : Nat} {p : Part} (h : p.cau.load = .ended) :
    Publishes p (recordCall c e n p) := by
  unfold recordCall
  rewrite [countEvent_ended (by rewrite [appendRecord_cau]; exact h)]
  exact (appendRecord_publishes _ p).trans
    ((markRecord_publishes 3 _).after (p := appendRecord (.call (callRecord c e n p)) p) rfl)

theorem recordCall_types {c : PlacedCall} {e : EndingMark} {n : Nat} {p : Part} (h : p.cau.load = .ended) :
    (recordCall c e n p).cau.types = p.cau.types := by
  unfold recordCall
  rewrite [countEvent_ended (by rewrite [appendRecord_cau]; exact h), markRecord_frame]
  simp

theorem leaveCall_cau (p : Part) : (leaveCall p).cau = p.cau := by
  unfold leaveCall enterCollecting clearDigits
  dsimp only
  split
  · rewrite [setCall_frame]
    split <;> rfl
  · rw [setCall_frame]

theorem recordCall_grace {c : PlacedCall} {e : EndingMark} {n : Nat} {p : Part} (h : p.cau.load = .ended) :
    (recordCall c e n p).cc.grace = p.cc.grace := by
  unfold recordCall
  rewrite [countEvent_ended (by rewrite [appendRecord_cau]; exact h), markRecord_frame]
  unfold appendRecord
  split <;> rfl

theorem leaveCall_grace (p : Part) : (leaveCall p).cc.grace = p.cc.grace := by
  unfold leaveCall enterCollecting clearDigits
  dsimp only
  split
  · rewrite [setCall_frame]
    split <;> rfl
  · rw [setCall_frame]

/-- A completion with no settlement waiting: the line is released, and no more of it changes. -/
theorem completeEnding_unsettled {c : PlacedCall} {p : Part} (hplaced : p.cc.placed = some c)
    (hcall : p.cc.call = .ending) (hdue : p.rlu.settlementDue = false) (hload : p.cau.load = .ended) :
    (completeEnding p).lu = (releaseLine .customer p).lu ∧ (completeEnding p).cau.types = p.cau.types
    ∧ (completeEnding p).cc.grace = p.cc.grace ∧ Publishes p (completeEnding p) := by
  have hframe := releaseLine_frame .customer p
  have hpublishes := releaseLine_publishes .customer p
  have hrlu : (releaseLine .customer p).rlu = p.rlu := by rw [hframe]
  have hcau : (releaseLine .customer p).cau = p.cau := by rw [hframe]
  have hcc : (releaseLine .customer p).cc = p.cc := by rw [hframe]
  unfold completeEnding
  rewrite [hplaced]
  dsimp only
  clear hframe
  generalize releaseLine .customer p = q at *
  rewrite [settleIfDue_undue (by rw [hrlu, hdue]), unlockFor_frame]
  rewrite [← hcau] at hload ⊢
  rewrite [← hcc] at hcall
  generalize coinsToRefund _ = n
  generalize (unlockFor c _).rtu.cache = cache
  generalize EndingMark.mk _ _ = kept
  set r : Part := { q with rtu.cache := cache } with hr
  have hrecorded := recordCall_moneyKept (c := c) (e := c.ending.getD kept) (n := n) (p := r) hload
  have htypes := recordCall_types (c := c) (e := c.ending.getD kept) (n := n) (p := r) hload
  have hgrace := recordCall_grace (c := c) (e := c.ending.getD kept) (n := n) (p := r) hload
  have hrecord := recordCall_publishes (c := c) (e := c.ending.getD kept) (n := n) (p := r) hload
  have hfacts := recordCall_ended (c := c) (e := c.ending.getD kept) (n := n) (p := r) hload
  generalize recordCall c (c.ending.getD kept) n r = t at *
  have hleft := leaveCall_ending (p := t) (hfacts.2.1.trans hcall)
  rewrite [completeIf_frame]
  refine ⟨?_, ?_, ?_, ?_⟩
  · exact hleft.1.lu.trans hrecorded.lu
  · show (leaveCall t).cau.types = _
    rw [leaveCall_cau, htypes]
  · show (leaveCall t).cc.grace = _
    rw [leaveCall_grace, hgrace, ← hcc]
  · rewrite [← completeIf_frame]
    exact .ofLast (completeIf_publishes _ _ _) (.ofLast (leaveCall_publishes t)
      (.ofLast (hrecord.after (p := q) rfl) hpublishes))

/-! ## The ending event -/

theorem stopCharging_idle {p : Part} (h : p.rtu.timing.state = .idle) : stopCharging p =
    { p with cc.grace := none, cc.graceOver := false, cc.noted := false, cc.owed := 0 } :=
  if_neg (by simp [isCharging, h])

theorem stopCharging_charged {p : Part} (h : p.rtu.timing.state ≠ .idle) : stopCharging p =
    markS 2 (markS 1 { p with
      cc.grace := none, cc.graceOver := false, cc.noted := false, cc.owed := 0
      rtu.timing.state := .idle, cc.low := false }) :=
  if_pos (by simp [isCharging, h])

theorem stopCharging_publishes (p : Part) : Publishes p (stopCharging p) := by
  by_cases h : p.rtu.timing.state = .idle
  · exact .of_bpu (by rw [stopCharging_idle h])
  · rewrite [stopCharging_charged h]
    exact .ofLast (markS_publishes 2 _) (.after (markS_publishes 1 _) rfl)

theorem stopCharging_marks {p : Part} (h : p.rtu.timing.state ≠ .idle) :
    Group.status 1 ∈ (stopCharging p).bpu.dirty ∧ Group.status 2 ∈ (stopCharging p).bpu.dirty := by
  rewrite [stopCharging_charged h]
  exact ⟨mem_insertGroup_of_mem (mem_insertGroup_self _ _), mem_insertGroup_self _ _⟩

/-- What stops with the charging, said of every field of the call and of the timing. -/
theorem stopCharging_eq (p : Part) : stopCharging p = { p with
    cc := { p.cc with grace := none, graceOver := false, noted := false, owed := 0
                      low := p.cc.low && p.rtu.timing.state == .idle }
    rtu.timing.state := .idle
    bpu := (stopCharging p).bpu } := by
  by_cases h : p.rtu.timing.state = .idle
  · have hlow : (p.cc.low && p.rtu.timing.state == .idle) = p.cc.low := by rewrite [h]; exact Bool.and_true _
    rw [hlow, stopCharging_idle h, ← h]
  · have hlow : (p.cc.low && p.rtu.timing.state == .idle) = false := by rw [beq_false_of_ne h, Bool.and_false]
    rewrite [hlow, stopCharging_charged h]
    rfl

theorem setCall_marks {c : CallState} {p : Part} (h : p.cc.call ≠ c) : Group.status 0 ∈ (setCall c p).bpu.dirty := by
  rewrite [setCall_of_ne h]
  exact mem_insertGroup_self _ _

theorem setCall_result (c : CallState) (p : Part) :
    (setCall c p).bpu.result = p.bpu.result ∧ (setCall c p).bpu.inFlight = p.bpu.inFlight := by
  unfold setCall
  split <;> exact ⟨rfl, rfl⟩

theorem stopCharging_result (p : Part) :
    (stopCharging p).bpu.result = p.bpu.result ∧ (stopCharging p).bpu.inFlight = p.bpu.inFlight := by
  unfold stopCharging
  dsimp only
  split <;> exact ⟨rfl, rfl⟩

/-- A held call with an ending event's mark. -/
def endingMarked (o : CallOutcome) (c : PlacedCall) (p : Part) : Part :=
  { p with cc.placed := some { c with ending := some { outcome := o, tick := p.tick } } }

/-- The call is in ENDING and charging has stopped: the completion may follow. -/
def endingBegun (o : CallOutcome) (c : PlacedCall) (p : Part) : Part :=
  setCall .ending (stopCharging (endingMarked o c p))

theorem endingBegun_publishes (o : CallOutcome) (c : PlacedCall) (p : Part) : Publishes p (endingBegun o c p) :=
  .ofLast (setCall_publishes .ending _) (.after (p := p) (stopCharging_publishes (endingMarked o c p)) rfl)

theorem endCall_begun {o : CallOutcome} {c : PlacedCall} {p : Part} (hplaced : p.cc.placed = some c)
    (hcharge : p.rlu.charge = none) : endCall o p = completeEnding (endingBegun o c p) := by
  have hrlu : (endingBegun o c p).rlu = p.rlu := by
    unfold endingBegun stopCharging
    rewrite [setCall_frame]
    split <;> rfl
  unfold endCall
  dsimp only
  rewrite [hplaced, Option.map_some]
  exact if_neg (c := (endingBegun o c p).rlu.charge.isSome = true) (by simp [hrlu, hcharge])

theorem endingBegun_ending {o : CallOutcome} {c : PlacedCall} {p : Part} (hheld : callHeld c p) :
    callEnding o c p (endingBegun o c p) ∧ (endingBegun o c p).rlu = p.rlu ∧ (endingBegun o c p).lu = p.lu
    ∧ (endingBegun o c p).bpu.result = p.bpu.result ∧ (endingBegun o c p).bpu.inFlight = p.bpu.inFlight := by
  obtain ⟨hplaced, hcall⟩ := hheld
  have hne : ¬ p.cc.call = .ending := by rcases hcall with h | h | h <;> simp [h]
  have hstop := stopCharging_eq (endingMarked o c p)
  have hmarks := stopCharging_marks (p := endingMarked o c p)
  have hpublishes := setCall_publishes .ending (stopCharging (endingMarked o c p))
  obtain ⟨hresult, hflight⟩ := setCall_result .ending (stopCharging (endingMarked o c p))
  obtain ⟨hresult', hflight'⟩ := stopCharging_result (endingMarked o c p)
  have hmark := setCall_marks (c := .ending) (p := stopCharging (endingMarked o c p)) (by rewrite [hstop]; exact hne)
  have hset := setCall_frame .ending (stopCharging (endingMarked o c p))
  unfold endingBegun callEnding
  generalize hq : setCall .ending (stopCharging (endingMarked o c p)) = q at *
  clear hq
  generalize stopCharging (endingMarked o c p) = r at *
  have hrest : q.rtu = r.rtu ∧ q.cau = r.cau ∧ q.cu = r.cu ∧ q.cru = r.cru ∧ q.mem = r.mem ∧ q.tick = r.tick
      ∧ q.rlu = r.rlu ∧ q.lu = r.lu := by
    rewrite [hset]
    exact ⟨rfl, rfl, rfl, rfl, rfl, rfl, rfl, rfl⟩
  have hcc : q.cc = { r.cc with call := .ending } := by rw [hset]
  clear hset
  obtain ⟨hrtu, hcau, hcu, hcru, hmem, htick, hrlu, hlu⟩ := hrest
  refine ⟨⟨?_, ?_, fun h => ?_, hmark, ?_, ?_, ?_, ?_, ?_⟩, ?_, ?_, hresult.trans hresult', hflight.trans hflight'⟩
  · rewrite [hcc, hstop]
    rfl
  · rewrite [hrtu, hstop]
    rfl
  · exact ⟨hpublishes.dirty _ (hmarks h).1, hpublishes.dirty _ (hmarks h).2⟩
  · rewrite [hcau, hstop]
    rfl
  · rewrite [hcu, hstop]
    rfl
  · rewrite [hcru, hstop]
    rfl
  · rewrite [hmem, hstop]
    rfl
  · rewrite [htick, hstop]
    rfl
  · rewrite [hrlu, hstop]
    rfl
  · rewrite [hlu, hstop]
    rfl

theorem cacheUnlocked_congr {c d : PlacedCall} {p b q : Part} (hentry : d.entry = c.entry)
    (hcache : b.rtu.cache = p.rtu.cache) (h : cacheUnlocked d b q) : cacheUnlocked c p q := by
  unfold cacheUnlocked at h ⊢
  rwa [hentry, hcache] at h

/-- The completion is the same for the call with its mark, where nothing of the ring, the counts and the cache has
moved since the event. -/
theorem callClosed_congr {r : CallRecord} {c d : PlacedCall} {p b q : Part} (hanswer : d.answer = c.answer)
    (hclass : d.cls = c.cls) (hentry : d.entry = c.entry) (hoff : b.cc.off = p.cc.off)
    (hring : b.cc.producer = p.cc.producer ∧ b.cc.heldCount = p.cc.heldCount ∧ b.cc.lost = p.cc.lost
      ∧ b.cc.records = p.cc.records)
    (hcalls : b.cau.calls = p.cau.calls) (hcache : b.rtu.cache = p.rtu.cache) (hmem : b.mem = p.mem)
    (htick : b.tick = p.tick) (h : callClosed r d b q) : callClosed r c p q := by
  obtain ⟨hproducer, hheld, hlost, hrecords⟩ := hring
  unfold callClosed at h ⊢
  rewrite [hanswer, hclass, hoff, hproducer, hheld, hlost, hrecords, hcalls, hmem, htick] at h
  obtain ⟨hcall, hplaced, hdigits, htiming, hroom, hfull, hcounts, hunlocked, hrest⟩ := h
  exact ⟨hcall, hplaced, hdigits, htiming, hroom, hfull, hcounts, cacheUnlocked_congr hentry hcache hunlocked, hrest⟩

/-- What has ended at once keeps beside the call's own figures. -/
structure EndedAlone (p q : Part) : Prop where
  cru : q.cru = p.cru
  lu : q.lu = if p.lu.owner = .customer then clearedLu p.tick { p.lu with waitingSeize := none }
    else { p.lu with waitingSeize := none }
  released : p.bpu.inFlight = some 2 → p.bpu.result = .pending → q.bpu.result = .done
  publishes : Publishes p q

/-- An ending event of a call that stands ends it at once, and the gate has no work after it. -/
theorem endCall_atOnce {o : CallOutcome} {c : PlacedCall} {p : Part} (hstands : callStands c p) :
    callEnded o c p (gateWork (endCall o p)) ∧ EndedAlone p (gateWork (endCall o p)) := by
  obtain ⟨hheld, hcharge, hstill, hdue, hload⟩ := hstands
  have hsteady := endCall_steady o p
  obtain ⟨⟨hcc, hrtu, hmarks, -, hcau, -, hcru, hmem, htick⟩, hrlu, hlu, hresult, hflight⟩ :=
    endingBegun_ending (o := o) hheld
  rewrite [endCall_begun hheld.1 hcharge] at hsteady ⊢
  have hbegun := endingBegun_publishes o c p
  generalize endingBegun o c p = b at *
  have hplaced : b.cc.placed = some { c with ending := some { outcome := o, tick := p.tick } } := by rw [hcc]
  have hcall : b.cc.call = .ending := by rw [hcc]
  have hclosed := completeEnding_closed hplaced rfl hcall (by rw [hrtu]) (by rw [hcau, hload])
  have hunsettled := completeEnding_unsettled hplaced hcall (by rw [hrlu, hdue]) (by rw [hcau, hload])
  generalize completeEnding b = q at *
  dsimp only at hclosed
  obtain ⟨hclosed, hlow, hsteps, hcharged, hcru', hcause, hdone, hline, hrlu', hmoney⟩ := hclosed
  obtain ⟨hlu', htypes, hgrace, hpublishes⟩ := hunsettled
  have hstays : q.rlu = p.rlu := by rw [hrlu', hrlu, if_neg (by simp [hdue])]
  have hrecord : { recordKept { outcome := o, tick := p.tick }
        { c with ending := some { outcome := o, tick := p.tick } } b with toRefund := coinsToRefund b } =
      recordNow o c p := by
    have hcoins : coinsToRefund b = 0 := by rw [coinsToRefund, hrlu, if_neg (by simp [hdue])]
    rewrite [hcoins]
    unfold recordKept recordNow
    rw [hcc]
  rewrite [hrecord] at hclosed
  rewrite [gateWork_still (by simpa only [gateStill, gateRests, hstays] using hstill)]
  refine ⟨⟨callClosed_congr rfl rfl rfl ?_ ?_ ?_ ?_ hmem htick hclosed, ?_, fun h => ?_, fun h => ⟨?_, ?_⟩, ?_, ?_, hstays,
    ?_, fun h => ?_⟩, hcru'.trans hcru, ?_, ?_, hbegun.trans hpublishes⟩
  · rw [hcc]
  · rewrite [hcc]
    exact ⟨rfl, rfl, rfl, rfl⟩
  · rw [hcau]
  · rw [hrtu]
  · rw [hgrace, hcc]
  · rewrite [hlow, hcc, h]
    exact Bool.and_true _
  · rewrite [hlow, hcc, beq_false_of_ne h]
    exact Bool.and_false _
  · exact hpublishes.dirty _ (hmarks h).1
  · rewrite [hmoney, hcau, hrlu, hdue]
    simp
  · rw [htypes, hcau]
  · exact congrArg Prod.fst hsteady
  · exact hline (by rw [hlu, h])
  · rw [hlu', releaseLine_customer, hlu, htick]
  · rewrite [← hresult, ← hflight]
    exact hdone

end Sys2Proof.Machine
end

section
/-!
PROOFS. The search for dial tone and the tone classifier (R113 to R117, R121, R122, R129): dwells, sweeps, and what ends
a seize.
-/

namespace Sys2Proof.Machine

/-! ## The tone classifier (R121) -/

set_option Elab.async false in
theorem classify_same {on : Bool} {now : Tick} {c : Classifier} {m : Nat} {j : Bool}
    (h : c.period = some { on, dwells := m, judged := j }) : classify on now c =
      { c with period := some { on, dwells := m + 1, judged := j }, lastOn := if on then some now else c.lastOn } := by
  unfold classify
  cases on <;> simp [h]

theorem judgePeriod_lastOn (on : Bool) (n : Nat) (c : Classifier) (t : Option Tick) :
    judgePeriod on n { c with lastOn := t } = { judgePeriod on n c with lastOn := t } := by
  unfold judgePeriod
  split
  · rfl
  · dsimp only
    split
    · rfl
    · split <;> rfl

theorem judgePeriod_on (n : Nat) (c : Classifier) : judgePeriod true n c =
    { c with onLength := some n, cycles := if isBusyLength n then c.cycles else 0 } := rfl

/-- An off period behind an on period: a busy cycle is no ringback, as their lengths are apart. -/
theorem judgePeriod_off (l n k : Nat) (x : Option Period) (r : Bool) (t : Option Tick) :
    judgePeriod false n { period := x, onLength := some l, cycles := k, ringback := r, lastOn := t } =
      { period := x
        onLength := none
        cycles := if isBusyLength l && isBusyLength n then k + 1 else 0
        ringback := r || (isRingOn l && isRingOff n)
        lastOn := t } := by
  simp only [judgePeriod, Bool.false_eq_true, if_false]
  split
  next hbusy =>
    have hring : isRingOn l = false := by
      simp only [isBusyLength, isRingOn, Bool.and_eq_true, decide_eq_true_eq, Bool.and_eq_false_iff,
        decide_eq_false_iff_not] at hbusy ⊢
      omega
    simp [hring]
  next => rfl

/-- The first dwell of the other kind ends the period, which is judged unless it was the first one heard. -/
theorem classify_turn {on : Bool} {now : Tick} {c : Classifier} {m : Nat} {j : Bool}
    (h : c.period = some { on := !on, dwells := m, judged := j }) : classify on now c =
      { (if j then judgePeriod (!on) (m * 50) c else c) with
        period := some { on, dwells := 1, judged := true }, lastOn := if on then some now else c.lastOn } := by
  have hlast : (if on then { c with lastOn := some now } else c) =
      { c with lastOn := if on then some now else c.lastOn } := by cases on <;> rfl
  unfold classify
  dsimp only
  rewrite [hlast]
  generalize (if on then some now else c.lastOn) = t
  simp only [h]
  rewrite [if_neg (by cases on <;> decide), ← h, judgePeriod_lastOn]
  cases j <;> rfl

theorem hears_succ (on : Bool) (now : Tick) (n : Nat) (c : Classifier) :
    hears on now (n + 1) c = hears on now n (classify on now c) := by
  induction n with
  | zero => rfl
  | succ n ih => rw [hears, ih, ← hears]

/-- The dwells that follow the first of a period only lengthen it. -/
theorem hears_same {on : Bool} {now : Tick} (n : Nat) {c : Classifier} {m : Nat} {j : Bool}
    (h : c.period = some { on, dwells := m, judged := j }) (hlast : on = true → c.lastOn = some now) :
    hears on now n c = { c with period := some { on, dwells := m + n, judged := j } } := by
  induction n with
  | zero => rw [hears, Nat.add_zero, ← h]
  | succ n ih =>
    rewrite [hears, ih, classify_same rfl]
    cases on
    · rfl
    · rewrite [hlast rfl]
      rfl

/-- A period of another kind than the one before it. -/
theorem hears_turn {on : Bool} {now : Tick} {n : Nat} (hn : 0 < n) {c : Classifier} {m : Nat} {j : Bool}
    (h : c.period = some { on := !on, dwells := m, judged := j }) : hears on now n c =
      { (if j then judgePeriod (!on) (m * 50) c else c) with
        period := some { on, dwells := n, judged := true }, lastOn := if on then some now else c.lastOn } := by
  obtain ⟨n, rfl⟩ : ∃ k, n = k + 1 := ⟨n - 1, by omega⟩
  rw [hears_succ, classify_turn h, hears_same n rfl (fun h => by rewrite [h]; rfl), Nat.add_comm]

theorem hears_first {now : Tick} {n : Nat} (hn : 0 < n) : hears false now n Classifier.empty =
    { Classifier.empty with period := some { on := false, dwells := n, judged := false } } := by
  obtain ⟨n, rfl⟩ : ∃ k, n = k + 1 := ⟨n - 1, by omega⟩
  rewrite [hears_succ]
  refine (hears_same (m := 1) (j := false) n rfl (by simp)).trans ?_
  rewrite [Nat.add_comm]
  rfl

/-- Two on periods, each with an off period after it, behind a first period that is not judged (R121). -/
theorem classifier_heard {early a b c d : Nat} {now mid last : Tick} (hearly : 0 < early) (ha : 0 < a) (hb : 0 < b)
    (hc : 0 < c) (hd : 0 < d) :
    hears true last 1 (hears false last d (hears true mid c (hears false mid b (hears true now a
      (hears false now early Classifier.empty))))) =
    { period := some { on := true, dwells := 1, judged := true }
      onLength := none
      cycles := if isBusyLength (c * 50) && isBusyLength (d * 50) then
          (if isBusyLength (a * 50) && isBusyLength (b * 50) then 2 else 1) else 0
      ringback := isRingOn (a * 50) && isRingOff (b * 50) || isRingOn (c * 50) && isRingOff (d * 50)
      lastOn := some last } := by
  rewrite [hears_first hearly, hears_turn ha rfl, hears_turn hb rfl, hears_turn hc rfl, hears_turn hd rfl,
    hears_turn (by decide) rfl]
  simp only [Classifier.empty, Bool.not_true, Bool.not_false, if_true, Bool.false_eq_true, if_false, judgePeriod_on,
    judgePeriod_off, Bool.false_or]
  cases isBusyLength (c * 50) <;> cases isBusyLength (d * 50) <;> simp
  split <;> rfl

/-! ## What ends a seize (R129, R131) -/

/-- What the outcome of a line finds as before: the call, its charging and its money, and the tick. -/
structure CallSame (p q : Part) : Prop where
  cc : q.cc = p.cc
  rtu : q.rtu = p.rtu
  cau : q.cau = p.cau
  rlu : q.rlu = p.rlu
  cu : q.cu = p.cu
  mem : q.mem = p.mem
  tick : q.tick = p.tick

theorem CallSame.refl (p : Part) : CallSame p p := ⟨rfl, rfl, rfl, rfl, rfl, rfl, rfl⟩

theorem CallSame.trans {p q r : Part} (h : CallSame p q) (k : CallSame q r) : CallSame p r :=
  ⟨k.cc.trans h.cc, k.rtu.trans h.rtu, k.cau.trans h.cau, k.rlu.trans h.rlu, k.cu.trans h.cu, k.mem.trans h.mem,
    k.tick.trans h.tick⟩

theorem CallSame.raised {p q : Part} (h : CallSame p q) (k : Condition) (d : Nat) : CallSame p (raise k d q) :=
  h.trans ⟨raise_cc .., raise_rtu .., raise_cau .., raise_rlu .., raise_cu .., raise_mem .., raise_tick ..⟩

theorem CallSame.stands {c : PlacedCall} {p q : Part} (h : CallSame p q) (hstands : callStands c p) :
    callStands c q := by
  unfold callStands callHeld gateStill gateRests at *
  rwa [h.cc, h.rlu, h.cau]

/-- The ended call is the same one where the line alone has changed before the event. -/
theorem CallSame.ended {o : CallOutcome} {c : PlacedCall} {p b q : Part} (h : CallSame p b)
    (hline : q.lu.line = .clearing ∧ q.lu.owner = .none) (hended : callEnded o c b q) : callEnded o c p q := by
  obtain ⟨hclosed, hgrace, hidle, hcharged, hmoney, htypes, hrlu, hcu, -⟩ := hended
  have hrecord : recordNow o c b = recordNow o c p := by
    unfold recordNow
    rw [h.tick, h.cc]
  rewrite [hrecord] at hclosed
  rewrite [h.rtu, h.cc] at hidle
  rewrite [h.rtu] at hcharged
  exact ⟨callClosed_congr rfl rfl rfl (by rw [h.cc]) (by rewrite [h.cc]; exact ⟨rfl, rfl, rfl, rfl⟩) (by rw [h.cau])
    (by rw [h.rtu]) h.mem h.tick hclosed, hgrace, hidle, hcharged, hmoney.trans (by rw [h.cau]),
    htypes.trans (by rw [h.cau]), hrlu.trans h.rlu, hcu.trans h.cu, fun _ => hline⟩

theorem countFailedSeize_third {d : Nat} {p : Part} (h : 2 ≤ p.lu.failedSeizes) : countFailedSeize d p =
    raise .lineDown d { p with
      lu.failedSeizes := 0
      lu.probe := if isActive .lineDown p then p.lu.probe else some { start := p.tick, limit := 300000 } } := by
  rewrite [countFailedSeize, if_neg (by omega), raiseLineDown_eq]
  rfl

/-- A failed seize is counted, and the third raises LINE_DOWN. -/
theorem countFailedSeize_counts {d : Nat} {p : Part} (hline : p.lu.line ≠ .idle) :
    CallSame p (countFailedSeize d p)
    ∧ (countFailedSeize d p).lu = { p.lu with
        failedSeizes := if decide (2 ≤ p.lu.failedSeizes) then 0 else p.lu.failedSeizes + 1
        probe := if decide (2 ≤ p.lu.failedSeizes) ∧ isActive .lineDown p = false
          then some { start := p.tick, limit := 300000 } else p.lu.probe }
    ∧ (countFailedSeize d p).cru.rows =
        if decide (2 ≤ p.lu.failedSeizes) then (raise .lineDown d p).cru.rows else p.cru.rows := by
  by_cases hthird : 2 ≤ p.lu.failedSeizes
  · rewrite [countFailedSeize_third hthird, decide_eq_true hthird, if_pos rfl, if_pos rfl]
    set q : Part := { p with
      lu.failedSeizes := 0
      lu.probe := if isActive .lineDown p then p.lu.probe else some { start := p.tick, limit := 300000 } } with hq
    refine ⟨CallSame.raised (by rewrite [hq]; exact ⟨rfl, rfl, rfl, rfl, rfl, rfl, rfl⟩) _ _, ?_, ?_⟩
    · rewrite [(raise_kept .lineDown d q).lu (by exact hline), hq]
      cases isActive .lineDown p <;> rfl
    · exact raise_rows_of_rows (p := p) (q := q) (by rw [hq]) (by rw [hq]) _ _
  · rewrite [countFailedSeize, if_pos (by omega), decide_eq_false hthird]
    exact ⟨⟨rfl, rfl, rfl, rfl, rfl, rfl, rfl⟩, rfl, rfl⟩

/-- The line's outcome with a third failure behind it, or not: what the call and the counters find. -/
theorem seizeFailure_same {owner : Owner} {o : LineOutcome} {p : Part} (hline : p.lu.line = .clearing) :
    CallSame p (seizeFailure owner o p) ∧ (seizeFailure owner o p).lu.line = .clearing
    ∧ (seizeFailure owner o p).lu.owner = p.lu.owner ∧ (seizeFailure owner o p).lu.clearing = p.lu.clearing
    ∧ (seizeFailure owner o p).lu.sender = p.lu.sender ∧ (seizeFailure owner o p).lu.reference = p.lu.reference
    ∧ (seizeFailure owner o p).lu.copy = p.lu.copy := by
  unfold seizeFailure
  split
  · split
    · exact ⟨.refl p, hline, rfl, rfl, rfl, rfl, rfl⟩
    · next d _ _ =>
      obtain ⟨hsame, hlu, -⟩ := countFailedSeize_counts (d := d) (p := p) (by rewrite [hline]; decide)
      rewrite [hlu]
      exact ⟨hsame, hline, rfl, rfl, rfl, rfl, rfl⟩
  · exact ⟨.refl p, hline, rfl, rfl, rfl, rfl, rfl⟩

/-- A line outcome of a customer's call that stands ends it at once. -/
theorem lineOutcome_ends {o : LineOutcome} {c : PlacedCall} {p : Part} (hstands : callStands c p)
    (howner : p.lu.owner = .customer) : callEnded (outcomeOf o) c p (lineOutcome o p)
      ∧ EndedAlone (seizeFailure .customer o (enterClearing p)) (lineOutcome o p) := by
  obtain ⟨hsame, hline, hnone, -⟩ := seizeFailure_same (owner := .customer) (o := o) (p := enterClearing p) rfl
  have hoends : lineOutcome o p = takeLineOutcome o (seizeFailure .customer o (enterClearing p)) := by
    unfold lineOutcome handOutcome
    rewrite [howner]
    rfl
  rewrite [hoends]
  have hcleared : CallSame p (seizeFailure .customer o (enterClearing p)) :=
    CallSame.trans (q := enterClearing p) ⟨rfl, rfl, rfl, rfl, rfl, rfl, rfl⟩ hsame
  generalize seizeFailure .customer o (enterClearing p) = b at *
  have hholds := hcleared.stands hstands
  rewrite [takeLineOutcome, if_pos (isPlaced_of_callHeld hholds.1)]
  obtain ⟨hended, halone⟩ := endCall_atOnce (o := outcomeOf o) hholds
  refine ⟨hcleared.ended ?_ hended, halone⟩
  rewrite [halone.lu, if_neg (by rewrite [hnone]; exact nofun)]
  exact ⟨hline, hnone⟩


theorem lineOutcome_seizeFailed {o : LineOutcome} {d : Nat} {c : PlacedCall} {p : Part}
    (hdetail : failedSeizeDetail o = some d) (hstands : callStands c p) (howner : p.lu.owner = .customer) :
    seizeFailed d p (lineOutcome o p) := by
  obtain ⟨-, halone⟩ := lineOutcome_ends (o := o) hstands howner
  have hfailure : seizeFailure .customer o (enterClearing p) = countFailedSeize d (enterClearing p) := by
    rewrite [seizeFailure, hdetail]
    rfl
  obtain ⟨-, hlu, hrows⟩ := countFailedSeize_counts (d := d) (p := enterClearing p) (by exact nofun)
  rewrite [hfailure] at halone
  have hraised : (raise .lineDown d (enterClearing p)).cru.rows = (raise .lineDown d p).cru.rows :=
    raise_rows_of_rows (p := p) (q := enterClearing p) rfl rfl _ _
  have hnone : ¬ (countFailedSeize d (enterClearing p)).lu.owner = .customer := by
    rewrite [hlu]
    exact nofun
  unfold seizeFailed
  dsimp only
  rewrite [halone.lu, if_neg hnone, halone.cru, hrows, hraised, hlu]
  exact ⟨rfl, rfl, rfl⟩

theorem seizeFailed_congr {d : Nat} {p b q : Part} (hfailed : b.lu.failedSeizes = p.lu.failedSeizes)
    (hprobe : b.lu.probe = p.lu.probe) (hrows : b.cru.rows = p.cru.rows) (hclock : b.rtu.clock = p.rtu.clock)
    (htick : b.tick = p.tick) (h : seizeFailed d b q) : seizeFailed d p q := by
  unfold seizeFailed at h ⊢
  rwa [hfailed, raise_rows_of_rows hrows hclock, hrows, isActive_congr hrows, hprobe, htick] at h

/-- A probe's outcome counts no failure, and its timer starts again with LINE_DOWN active. -/
theorem lineOutcome_probe {o : LineOutcome} {p : Part} (howner : p.lu.owner = .probe) :
    lineOutcome o p = probeEnded (enterClearing p) := by
  have hfailure : seizeFailure .probe o (enterClearing p) = enterClearing p := by
    unfold seizeFailure
    split <;> rfl
  unfold lineOutcome
  dsimp only
  rewrite [howner, if_neg (by decide), hfailure]
  rfl

theorem probeEnded_failed (p : Part) : probeFailed p (probeEnded (enterClearing p)) := by
  have hactive : isActive .lineDown (enterClearing p) = isActive .lineDown p := rfl
  unfold probeEnded probeFailed
  rewrite [hactive]
  split <;> exact ⟨rfl, rfl, rfl, rfl, rfl, rfl, rfl, rfl, rfl, rfl⟩

theorem exec_seizeEnds {command : Instr} {detail : Nat} {s : State} (h : seizeEnds command detail s.part) :
    ∃ o, failedSeizeDetail o = some detail ∧ outcomeOf o = (if detail = 2 then .noLoop else .noDialtone)
      ∧ exec command s = .next { s with part := lineOutcome o s.part } := by
  obtain ⟨rfl, rfl, hdue⟩ | ⟨rfl, rfl, hdue⟩ := h
  · refine ⟨.noLoop, rfl, rfl, ?_⟩
    show onPart (fun p => onExpiry p.lu.loopLimit (lineOutcome .noLoop) p) s = _
    rw [onPart, onExpiry_due hdue]
  · refine ⟨.noDialtone, rfl, rfl, ?_⟩
    show onPart (fun p => onExpiry p.lu.searchLimit (lineOutcome .noDialtone) p) s = _
    rw [onPart, onExpiry_due hdue]

/-! ## Dial tone (R116, R129, R131) -/

/-- The line as dial tone is found: its step is the last good one, and LINE_DOWN ends with its probe. -/
def toneHeard (step : Nat) (p : Part) : Part :=
  clearLineDown { p with lu.gain := step, lu.lastGood := step, lu.failedSeizes := 0, lu.searchLimit := none }

theorem toneHeard_heard (step : Nat) (p : Part) :
    (toneHeard step p).lu = { p.lu with
      gain := step, lastGood := step, failedSeizes := 0, searchLimit := none
      probe := if isActive .lineDown p then none else p.lu.probe
      probeDue := !isActive .lineDown p && p.lu.probeDue }
    ∧ (toneHeard step p).cru = (clear .lineDown p).cru ∧ isActive .lineDown (toneHeard step p) = false
    ∧ CallSame p (toneHeard step p) := by
  set q : Part := if isActive .lineDown p then { p with
      lu.gain := step, lu.lastGood := step, lu.failedSeizes := 0, lu.searchLimit := none
      lu.probe := none, lu.probeDue := false }
    else { p with lu.gain := step, lu.lastGood := step, lu.failedSeizes := 0, lu.searchLimit := none } with hq
  have hheard : toneHeard step p = clear .lineDown q := rfl
  have hcru : q.cru = p.cru := by rewrite [hq]; split <;> rfl
  have hsame : CallSame p q := by rewrite [hq]; split <;> exact ⟨rfl, rfl, rfl, rfl, rfl, rfl, rfl⟩
  rewrite [hheard]
  refine ⟨?_, clear_cru_congr hcru _, isActive_clear _ _, hsame.trans ?_⟩
  · rewrite [clear_lu, hq]
    cases isActive .lineDown p <;> rfl
  · rewrite [clear_frame]
    exact ⟨rfl, rfl, rfl, rfl, rfl, rfl, rfl⟩

theorem dialToneFound_probe {step : Nat} {p : Part} (h : p.lu.owner = .probe) :
    dialToneFound step p = probeEnded (enterClearing (toneHeard step p)) := by
  have howner : (toneHeard step p).lu.owner = .probe := by rw [(toneHeard_heard step p).1, h]
  exact if_pos (c := (toneHeard step p).lu.owner = .probe) howner

theorem dialToneFound_call {step : Nat} {p : Part} (h : p.lu.owner ≠ .probe) {q : Part}
    (hq : q = markS 0 { toneHeard step p with lu.line := .dialling }) :
    dialToneFound step p = (match p.lu.number with
      | [] => enterAwaitAnswer q
      | d :: rest => startDigit d rest q) := by
  have howner : (toneHeard step p).lu.owner ≠ .probe := by rwa [(toneHeard_heard step p).1]
  have hnumber : q.lu.number = p.lu.number := by
    subst hq
    show (toneHeard step p).lu.number = _
    rw [(toneHeard_heard step p).1]
  rewrite [← hnumber]
  subst hq
  exact if_neg (c := (toneHeard step p).lu.owner = .probe) howner

theorem dialToneFound_dials {step d : Nat} {rest : List Nat} {p : Part} (h : p.lu.owner ≠ .probe)
    (hnumber : p.lu.number = d :: rest) :
    dialToneFound step p = startDigit d rest (markS 0 { toneHeard step p with lu.line := .dialling }) := by
  rw [dialToneFound_call h rfl, hnumber]

theorem pauseLoss_frame (p : Part) : pauseLoss p = { p with lu.loss := (pauseLoss p).lu.loss } := by
  unfold pauseLoss
  split <;> rfl

theorem startDigit_frame (d : Nat) (rest : List Nat) (p : Part) : startDigit d rest p = { p with
    lu.loss := (startDigit d rest p).lu.loss, lu.sender := (startDigit d rest p).lu.sender } := by
  have hcases : startDigit d rest p = startBreak d (breaksOf d - 1) rest p ∨ startDigit d rest p = startTone d rest p := by
    unfold startDigit
    exact ite_eq_or_eq ..
  obtain h | h := hcases
  · rw [h, startBreak_eq (pauseLoss_frame p)]
  · rewrite [h]
    rfl

theorem startDigit_sender {d : Nat} {rest : List Nat} {p : Part} {l : LineSettings} (hcopy : p.lu.copy = some l) :
    (startDigit d rest p).lu.sender = if l.pulse = true then
        { phase := .breaking, symbol := d, breaks := (if d = 0 then 10 else d) - 1, rest
          timer := some { start := p.tick, limit := 60 } }
      else { phase := .tone, symbol := d, breaks := 0, rest, timer := some { start := p.tick, limit := 80 } } := by
  unfold startDigit
  rewrite [hcopy]
  dsimp only
  split
  · rewrite [startBreak_eq (pauseLoss_frame p)]
    rfl
  · rfl

/-- What the end of a search with dial tone leaves of the line and the conditions, whatever follows it. -/
structure ToneFound (step : Nat) (p q : Part) : Prop where
  gain : q.lu.gain = step
  lastGood : q.lu.lastGood = step
  failedSeizes : q.lu.failedSeizes = 0
  searchLimit : q.lu.searchLimit = none
  probe : q.lu.probe = if isActive .lineDown p then none else p.lu.probe
  probeDue : q.lu.probeDue = (!isActive .lineDown p && p.lu.probeDue)
  cru : q.cru = (clear .lineDown p).cru
  inactive : isActive .lineDown q = false
  same : CallSame p q

theorem toneHeard_found (step : Nat) (p : Part) : ToneFound step p (toneHeard step p) := by
  obtain ⟨hlu, hcru, hinactive, hsame⟩ := toneHeard_heard step p
  exact ⟨by rw [hlu], by rw [hlu], by rw [hlu], by rw [hlu], by rw [hlu], by rw [hlu], hcru, hinactive, hsame⟩

/-- What changes the line alone, but not what the search has left, keeps it. -/
theorem ToneFound.then {step : Nat} {p q r : Part} (h : ToneFound step p q) (hgain : r.lu.gain = q.lu.gain)
    (hlast : r.lu.lastGood = q.lu.lastGood) (hfailed : r.lu.failedSeizes = q.lu.failedSeizes)
    (hlimit : r.lu.searchLimit = none) (hprobe : r.lu.probe = q.lu.probe) (hdue : r.lu.probeDue = q.lu.probeDue)
    (hcru : r.cru = q.cru) (hsame : CallSame q r) : ToneFound step p r :=
  ⟨hgain.trans h.gain, hlast.trans h.lastGood, hfailed.trans h.failedSeizes, hlimit, hprobe.trans h.probe,
    hdue.trans h.probeDue, hcru.trans h.cru, (isActive_congr (by rw [hcru]) _).trans h.inactive, h.same.trans hsame⟩

theorem probeEnded_inactive {p : Part} (h : isActive .lineDown p = false) : probeEnded p = p :=
  if_neg (by simp [h])

theorem dialToneFound_found (step : Nat) (p : Part) : ToneFound step p (dialToneFound step p) := by
  have hheard := toneHeard_found step p
  by_cases howner : p.lu.owner = .probe
  · rewrite [dialToneFound_probe howner, probeEnded_inactive (by exact hheard.inactive)]
    exact hheard.then rfl rfl rfl rfl rfl rfl rfl ⟨rfl, rfl, rfl, rfl, rfl, rfl, rfl⟩
  · obtain ⟨q, hq⟩ : ∃ q, q = markS 0 { toneHeard step p with lu.line := .dialling } := ⟨_, rfl⟩
    have hdials : ToneFound step p q := by
      rewrite [hq]
      exact hheard.then rfl rfl rfl hheard.searchLimit rfl rfl rfl ⟨rfl, rfl, rfl, rfl, rfl, rfl, rfl⟩
    rewrite [dialToneFound_call howner hq]
    clear hq
    split
    · exact hdials.then rfl rfl rfl hdials.searchLimit rfl rfl rfl ⟨rfl, rfl, rfl, rfl, rfl, rfl, rfl⟩
    · rewrite [startDigit_frame]
      exact hdials.then rfl rfl rfl hdials.searchLimit rfl rfl rfl ⟨rfl, rfl, rfl, rfl, rfl, rfl, rfl⟩

/-! ## The dwells of the search (R115 to R117) -/

theorem exec_searchDwell {s : State} (hline : s.part.lu.line = .searching) (figure : BitVec 8) :
    exec (.dwellFigure figure) s = .next { s with part := searchDwell figure.toNat s.part } := by
  show onPart (fun p => if p.lu.line = .searching then searchDwell figure.toNat p else progressDwell figure.toNat p) s = _
  rw [onPart, if_pos hline]

theorem searchDwell_left {figure : Nat} {p : Part} (h : p.lu.spoiled = true ∨ p.pins.loop = none) :
    searchDwell figure p = { p with lu.spoiled := p.pins.loop.isNone } := by
  rw [searchDwell, if_pos (by obtain h | h := h <;> simp [h])]

/-- A dwell with current, judged and left: the sweep goes on at the next step, or ends. -/
theorem searchDwell_judged {figure : Nat} {p : Part} (hspoiled : p.lu.spoiled = false) (hloop : p.pins.loop ≠ none)
    {sweep : Sweep} (hsweep : judgeFigure p.lu.gain figure p.lu.sweep = sweep) : searchDwell figure p =
      if 15 ≤ p.lu.gain ∨ sweep.second = false ∧ lookBeyond p ≤ sweep.misses then endSweep { p with lu.sweep := sweep }
      else { p with lu.sweep := sweep, lu.gain := p.lu.gain + 1 } := by
  subst hsweep
  have hnone : p.pins.loop.isNone = false := Option.isNone_eq_false_iff.2 (Option.isSome_iff_ne_none.2 hloop)
  rewrite [searchDwell, if_neg (by simp [hspoiled, hnone])]
  rfl

theorem endSweep_found {step f : Nat} {p : Part} (hbest : p.lu.sweep.best = some (step, f)) (hf : toneThreshold p ≤ f) :
    endSweep p = dialToneFound step p := by
  unfold endSweep
  simp [hbest, hf]

theorem endSweep_failed {p : Part} (h : ∀ step f, p.lu.sweep.best = some (step, f) → f < toneThreshold p) :
    endSweep p = if p.lu.sweep.second then lineOutcome .noDialtone p
      else { p with lu.gain := 0, lu.sweep := { second := true, best := none, misses := 0 } } := by
  have hnone : (p.lu.sweep.best.bind fun b => if toneThreshold p ≤ b.2 then some b.1 else none) = none := by
    cases hbest : p.lu.sweep.best with
    | none => rfl
    | some b => exact if_neg (by have := h b.1 b.2 hbest; omega)
  unfold endSweep
  dsimp only
  rw [hnone]

set_option Elab.async false in
/-- A figure above the best of the sweep becomes the best; any other is a miss. -/
theorem judgeFigure_eq (step figure : Nat) (w : Sweep) : judgeFigure step figure w =
    if (match w.best with
      | none => true
      | some (_, f) => decide (f < figure)) then { second := w.second, best := some (step, figure), misses := 0 }
    else { w with misses := w.misses + 1 } := by
  unfold judgeFigure
  cases w.best with
  | none => rfl
  | some b => simp

/-- A figure that is no better than the best is a miss, and the best stands. -/
theorem judgeFigure_miss {step figure k f : Nat} {w : Sweep} (hbest : w.best = some (k, f)) (h : figure ≤ f) :
    judgeFigure step figure w = { w with misses := w.misses + 1 } := by
  rewrite [judgeFigure_eq]
  simp only [hbest]
  rw [if_neg (by simpa using h)]

theorem judgeFigure_cases (step figure : Nat) (w : Sweep) :
    judgeFigure step figure w = { second := w.second, best := some (step, figure), misses := 0 }
    ∨ judgeFigure step figure w = { w with misses := w.misses + 1 } := by
  rewrite [judgeFigure_eq]
  exact ite_eq_or_eq ..

/-- Whatever a sweep without dial tone has judged, its best stays below the threshold. -/
theorem judgeFigure_below {step figure limit : Nat} {w : Sweep} (hfigure : figure < limit)
    (h : ∀ k f, w.best = some (k, f) → f < limit) :
    ∀ k f, (judgeFigure step figure w).best = some (k, f) → f < limit := by
  intro k f hbest
  obtain hjudged | hjudged := judgeFigure_cases step figure w
  · rewrite [hjudged] at hbest
    obtain ⟨rfl, rfl⟩ := Prod.mk.inj (Option.some.inj hbest)
    exact hfigure
  · rewrite [hjudged] at hbest
    exact h k f hbest

theorem judgeFigure_second (step figure : Nat) (w : Sweep) : (judgeFigure step figure w).second = w.second := by
  obtain hjudged | hjudged := judgeFigure_cases step figure w <;> rw [hjudged]

theorem lookBeyond_of_copy {p : Part} {l : LineSettings} (h : p.lu.copy = some l) : lookBeyond p = l.depth := by
  rw [lookBeyond, h]

theorem toneThreshold_of_copy {p : Part} {l : LineSettings} (h : p.lu.copy = some l) :
    toneThreshold p = l.threshold := by
  rw [toneThreshold, h]

theorem currentSeen_seized {p : Part} {l : LineSettings} (hcopy : p.lu.copy = some l) (sense : Polarity) :
    currentSeen sense p = { p with
      lu.line := .searching
      lu.reference := some (referenceFor l.policy sense)
      lu.loopLimit := none
      lu.loss := { counted := 0, since := none }
      lu.gain := p.lu.lastGood - 2
      lu.sweep := { second := false, best := none, misses := 0 }
      lu.spoiled := false
      bpu.dirty := insertGroup (.status 0) p.bpu.dirty } := by
  unfold currentSeen
  rewrite [hcopy]
  rfl

/-- Current in SEIZING begins the search. -/
theorem senseLoop_seizing {p : Part} {sense : Polarity} (hline : p.lu.line = .seizing) (hloop : p.pins.loop = none) :
    senseLoop (some sense) p = currentSeen sense { p with pins.loop := some sense } := by
  rewrite [senseLoop, if_neg (by rewrite [hloop]; exact nofun)]
  dsimp only [Option.isNone_some]
  rewrite [if_neg (by decide)]
  split
  next h => rw [Option.some.inj h]
  next h => exact absurd hline (h sense · rfl)

/-- A loss of current starts the loss timer on a connected line, unless a break holds the loop open. -/
theorem followLoss_lost {p : Part} (hline : p.lu.line = .connected) (hloop : p.pins.loop = none)
    (hloss : p.lu.loss.since = none) : (followLoss p).lu.loss =
      { counted := p.lu.loss.counted, since := if p.lu.sender.phase = .breaking then none else some p.tick } := by
  by_cases hphase : p.lu.sender.phase = .breaking
  · simp [followLoss, resumeLoss, loopClosed, isWatched, hline, hloop, hloss, hphase]
    rw [← hloss]
  · simp [followLoss, resumeLoss, loopClosed, isWatched, hline, hloop, hloss, hphase]

theorem exec_progressDwell {s : State} {l : LineSettings} (hline : s.part.lu.line = .awaitAnswer)
    (hcopy : s.part.lu.copy = some l) (figure : BitVec 8) {after : Classifier}
    (hafter : classify (decide (l.threshold ≤ figure.toNat)) s.part.tick s.part.lu.classifier = after) :
    exec (.dwellFigure figure) s = .next { s with
      part := if 2 ≤ after.cycles then lineOutcome .busy { s.part with lu.classifier := after }
        else { s.part with lu.classifier := after } } := by
  have hruns : classifierRuns s.part = true := by rw [classifierRuns, hline]
  show onPart (fun p => if p.lu.line = .searching then searchDwell figure.toNat p else progressDwell figure.toNat p) s = _
  rewrite [onPart, if_neg (by rewrite [hline]; decide), progressDwell, if_pos hruns, toneThreshold_of_copy hcopy]
  subst hafter
  simp only [hline, if_true]

/-- The search ends with dial tone. -/
theorem searched_found {p : Part} {step : Nat} {w : Sweep} {l : LineSettings} (hcopy : p.lu.copy = some l) {t : Part}
    (ht : dialToneFound step { p with lu.sweep := w } = t) : ToneFound step p t
      ∧ (∀ d rest, p.lu.owner ≠ .probe → p.lu.number = d :: rest → t.lu.line = .dialling ∧ t.lu.owner = p.lu.owner
        ∧ t.lu.sender = (if l.pulse = true then
            { phase := .breaking, symbol := d, breaks := (if d = 0 then 10 else d) - 1, rest
              timer := some { start := p.tick, limit := 60 } }
          else { phase := .tone, symbol := d, breaks := 0, rest, timer := some { start := p.tick, limit := 80 } }))
      ∧ (p.lu.owner = .probe → t.lu.line = .clearing ∧ t.lu.owner = .none
        ∧ t.lu.clearing = some { start := p.tick, limit := 1000 } ∧ t.lu.sender.phase = .idle) := by
  have hfound := dialToneFound_found step { p with lu.sweep := w }
  have hheard := toneHeard_heard step { p with lu.sweep := w }
  obtain ⟨hlu, -, hinactive, hsame⟩ := hheard
  have hown : (toneHeard step { p with lu.sweep := w }).lu.owner = p.lu.owner := by rw [hlu]
  have hsettings : (toneHeard step { p with lu.sweep := w }).lu.copy = p.lu.copy := by rw [hlu]
  refine ⟨?_, fun d rest howner hnumber => ?_, fun howner => ?_⟩
  · subst ht
    obtain ⟨h1, h2, h3, h4, h5, h6, h7, h8, h9⟩ := hfound
    exact ⟨h1, h2, h3, h4, h5, h6, h7.trans (clear_cru_congr (p := p) (by rfl) _), h8,
      ⟨h9.cc, h9.rtu, h9.cau, h9.rlu, h9.cu, h9.mem, h9.tick⟩⟩
  · rewrite [dialToneFound_dials (by exact howner) (by exact hnumber)] at ht
    subst ht
    refine ⟨?_, ?_, ?_⟩
    · rewrite [startDigit_frame]
      rfl
    · rewrite [startDigit_frame]
      exact hown
    · rewrite [startDigit_sender (l := l) (by exact hsettings.trans hcopy)]
      show (if l.pulse = true then Sender.mk _ _ _ _ (some (Timer.mk (toneHeard step _).tick 60))
        else Sender.mk _ _ _ _ (some (Timer.mk (toneHeard step _).tick 80))) = _
      rw [hsame.tick]
  · rewrite [dialToneFound_probe (by exact howner), probeEnded_inactive (by exact hinactive)] at ht
    subst ht
    refine ⟨rfl, rfl, ?_, rfl⟩
    show some (Timer.mk (toneHeard step _).tick 1000) = _
    rw [hsame.tick]

theorem twoCycles_iff : ∀ a b c d : Bool, (if c && d then (if a && b then 2 else 1) else 0) = 2
    ↔ a = true ∧ b = true ∧ c = true ∧ d = true := by decide

theorem isBusyLength_iff (n : Nat) : isBusyLength n = true ↔ 300 ≤ n ∧ n ≤ 600 := by
  simp [isBusyLength]

theorem isRingOn_iff (n : Nat) : isRingOn n = true ↔ 800 ≤ n ∧ n ≤ 2200 := by
  simp [isRingOn]

theorem isRingOff_iff (n : Nat) : isRingOff n = true ↔ 1500 ≤ n ∧ n ≤ 4500 := by
  simp [isRingOff]

/-- Settles O53, from the dwells, the sweeps and what ends a seize. -/
theorem lineSearched : Obligations.LineSearched := by
  unfold Obligations.LineSearched
  intro s
  refine ⟨?_, fun sense l hline hloop hcopy => ?_, fun hline hloop hloss => ?_, fun figure hline hloop => ?_,
    fun figure l hline hloop hspoiled hcopy hgain hfirst hmisses => ?_,
    fun figure l step f hline hloop hspoiled hcopy hbest hfigure hf hover => ?_,
    fun figure l hline hcopy => ?_, fun figure hline hloop hspoiled => ?_,
    fun figure l hline hloop hspoiled hcopy hfigure hnone => ?_, fun command detail hends => ?_,
    fun early a b c d now mid last hearly ha hb hc hd => ?_⟩
  · show onPart (senseLoop s.part.pins.loop) s = _
    rw [onPart, senseLoop_same]
  · show onPart (senseLoop (some sense)) s = _
    rewrite [onPart, senseLoop_seizing hline hloop, currentSeen_seized (by exact hcopy)]
    rfl
  · obtain ⟨sense, hsense⟩ := Option.ne_none_iff_exists'.1 hloop
    have hexec : exec (.loopCurrentChange none) s = .next { s with part := senseLoop none s.part } := rfl
    rw [senseLoop_lost hsense, followReversal_other, followClear_frame] at hexec
    · have hframe := followLoss_frame { s.part with pins.loop := none, lu.shown := some sense }
      have hlost := followLoss_lost (p := { s.part with pins.loop := none, lu.shown := some sense }) hline rfl hloss
      generalize followLoss { s.part with pins.loop := none, lu.shown := some sense } = q at hexec hframe hlost
      refine ⟨_, hexec, ?_, ?_, ?_, ?_, ?_, ?_, ?_, ?_⟩
      · rw [hframe]
      · rewrite [hframe]
        exact hline
      · rw [hlost]
      · rw [hlost]
      all_goals rw [hframe]
    · rewrite [followLoss_frame]
      show s.part.lu.line ≠ .awaitAnswer
      rewrite [hline]
      decide
  · rewrite [exec_searchDwell hline, searchDwell_left (.inr hloop), hloop]
    rfl
  · intro best
    obtain ⟨sweep, hsweep⟩ : ∃ w, judgeFigure s.part.lu.gain figure.toNat s.part.lu.sweep = w := ⟨_, rfl⟩
    have hjudged : sweep = if best then
        { second := false, best := some (s.part.lu.gain, figure.toNat), misses := 0 }
        else { s.part.lu.sweep with misses := s.part.lu.sweep.misses + 1 } := by
      rewrite [← hsweep, ← hfirst]
      exact judgeFigure_eq ..
    have hover : ¬ (15 ≤ s.part.lu.gain ∨ sweep.second = false ∧ lookBeyond s.part ≤ sweep.misses) := by
      rewrite [lookBeyond_of_copy hcopy, hjudged]
      split <;> simp <;> omega
    rw [exec_searchDwell hline, searchDwell_judged hspoiled hloop hsweep, if_neg hover, hjudged]
  · have hmiss := judgeFigure_miss (step := s.part.lu.gain) hbest hfigure
    have hends : 15 ≤ s.part.lu.gain ∨ s.part.lu.sweep.second = false ∧ lookBeyond s.part ≤ s.part.lu.sweep.misses + 1 := by
      rewrite [lookBeyond_of_copy hcopy]
      exact hover
    have hexec := exec_searchDwell hline figure
    rewrite [searchDwell_judged hspoiled hloop hmiss, if_pos hends,
      endSweep_found (by exact hbest) ((toneThreshold_of_copy (by exact hcopy)).trans_le hf)] at hexec
    generalize ht : dialToneFound step _ = t at hexec
    obtain ⟨⟨hgain, hlast, hfailed, hlimit, hprobe, hdue, hcru, hinactive, hsame⟩, hdials, hreleased⟩ :=
      searched_found hcopy ht
    exact ⟨_, hexec, hgain, hlast, hfailed, hlimit, hcru, hinactive, hprobe, hdue, hdials, hreleased, hsame.cc,
      hsame.rlu, hsame.cau, hsame.mem⟩
  · intro after
    have hexec := exec_progressDwell hline hcopy figure (after := after) rfl
    refine ⟨fun hfew => ?_, fun c hcycles hstands howner => ?_⟩
    · rw [hexec, if_neg (by omega)]
    · rewrite [if_pos hcycles] at hexec
      exact ⟨_, hexec, (lineOutcome_ends (o := .busy) (p := { s.part with lu.classifier := after }) hstands howner).1⟩
  · rw [exec_searchDwell hline, searchDwell_left (.inl hspoiled),
      Option.isNone_eq_false_iff.2 (Option.isSome_iff_ne_none.2 hloop)]
  · have hbelow := judgeFigure_below (step := s.part.lu.gain) hfigure hnone
    have hsecond := judgeFigure_second s.part.lu.gain figure.toNat s.part.lu.sweep
    have hexec := exec_searchDwell hline figure
    rewrite [searchDwell_judged hspoiled hloop rfl] at hexec
    have hmisses : ∀ step f, s.part.lu.sweep.best = some (step, f) → figure.toNat ≤ f →
        (judgeFigure s.part.lu.gain figure.toNat s.part.lu.sweep).misses = s.part.lu.sweep.misses + 1 :=
      fun step f hbest hfigure => by rw [judgeFigure_miss hbest hfigure]
    generalize judgeFigure s.part.lu.gain figure.toNat s.part.lu.sweep = w at *
    have hfailed := endSweep_failed (p := { s.part with lu.sweep := w }) (fun step f hbest =>
      (hbelow step f hbest).trans_eq (toneThreshold_of_copy (by exact hcopy)).symm)
    refine ⟨fun hfirst hover => ?_, fun hlater hgain => ?_⟩
    · have hends : 15 ≤ s.part.lu.gain ∨ w.second = false ∧ lookBeyond s.part ≤ w.misses := by
        rewrite [lookBeyond_of_copy hcopy]
        obtain h | ⟨step, f, hbest, hfigure, hdepth⟩ := hover
        · exact .inl h
        · exact .inr ⟨hsecond.trans hfirst, by rewrite [hmisses step f hbest hfigure]; exact hdepth⟩
      rw [hexec, if_pos hends, hfailed, if_neg (by rewrite [hsecond, hfirst]; decide)]
    · rewrite [if_pos (.inl hgain), hfailed, if_pos (hsecond.trans hlater)] at hexec
      refine ⟨fun c hstands howner => ⟨_, hexec, ?_, ?_⟩, fun howner => ⟨_, hexec, ?_⟩⟩
      · exact (lineOutcome_ends (o := .noDialtone) (p := { s.part with lu.sweep := w }) hstands howner).1
      · exact seizeFailed_congr (b := { s.part with lu.sweep := w }) rfl rfl rfl rfl rfl
          (lineOutcome_seizeFailed rfl hstands howner)
      · rewrite [lineOutcome_probe (by exact howner)]
        exact probeEnded_failed { s.part with lu.sweep := w }
  · obtain ⟨o, hdetail, houtcome, hexec⟩ := exec_seizeEnds hends
    rewrite [← houtcome]
    refine ⟨fun c hstands howner => ⟨_, hexec, (lineOutcome_ends hstands howner).1,
      lineOutcome_seizeFailed hdetail hstands howner⟩, fun howner => ⟨_, hexec, ?_⟩⟩
    rewrite [lineOutcome_probe howner]
    exact probeEnded_failed s.part
  · intro heard busy rings
    have heq : heard = _ := classifier_heard hearly ha hb hc hd
    rewrite [heq]
    refine ⟨(twoCycles_iff _ _ _ _).trans ?_, ?_, rfl, rfl⟩
    · simp only [isBusyLength_iff]
      exact Iff.rfl
    · simp only [Bool.or_eq_true, Bool.and_eq_true, isRingOn_iff, isRingOff_iff, and_assoc]
      exact Iff.rfl

end Sys2Proof.Machine
end

section
/-!
PROOFS. The answers to a charge request (R28, R101 to R103, R106): what CHARGED and SHORT change of the call, the money
and the low-credit flag.
-/

namespace Sys2Proof.Machine

/-! ## The examination of low credit (R106) -/

/-- The flag after an examination. -/
def lowExamined (p : Part) : Bool :=
  if p.rtu.timing.state = .idle then p.cc.low else decide (creditOnHand p < chargeStep p)

set_option Elab.async false in
theorem examineCredit_cc (p : Part) : (examineCredit p).cc = { p.cc with low := lowExamined p } := by
  unfold lowExamined
  by_cases hidle : p.rtu.timing.state = .idle
  · rw [examineCredit_idle hidle, if_pos hidle]
  · have hcharging : isCharging p = true := by simp [isCharging, hidle]
    unfold examineCredit
    rewrite [if_neg hidle, hcharging, Bool.not_true, if_neg (by decide)]
    by_cases hless : creditOnHand p < chargeStep p
    · rewrite [if_pos hless, decide_eq_true hless]
      split
      next h => exact cc_withLow h
      next => rfl
    · rewrite [if_neg hless, decide_eq_false hless]
      split
      next => rfl
      next h => exact cc_withLow (by simpa using h)

theorem examineCredit_cause (p : Part) : (examineCredit p).bpu.causes.getLsbD 2 =
    (p.bpu.causes.getLsbD 2 || ((examineCredit p).cc.low && !p.cc.low)) := by
  unfold examineCredit
  split
  · simp
  · split
    · split
      · simp
      next hlow =>
        have hset : (setCause .lowCredit (markS 1 { p with cc.low := true })).bpu.causes.getLsbD 2 = true :=
          setCause_getLsbD .lowCredit _
        rewrite [hset]
        simp [hlow]
    · split
      · simp
      · simp

/-- A set flag is examined and may be cleared; LOW_CREDIT is set by no such examination. -/
theorem reexamineCredit_cause (p : Part) :
    (reexamineCredit p).bpu.causes.getLsbD 2 = p.bpu.causes.getLsbD 2 := by
  unfold reexamineCredit
  split
  next hlow => rw [examineCredit_cause, hlow, Bool.not_true, Bool.and_false, Bool.or_false]
  next => rfl

theorem examineCredit_marks {p : Part} (h : (examineCredit p).cc.low ≠ p.cc.low) :
    Group.status 1 ∈ (examineCredit p).bpu.dirty := by
  revert h
  unfold examineCredit
  split
  · simp
  · split
    · split
      · simp
      · exact fun _ => (setCause_publishes .lowCredit _).marked
    · split
      · exact fun _ => mem_insertGroup_self _ _
      · simp

theorem creditFollows_cause (n : Nat) (p : Part) :
    (creditFollows n p).bpu.causes.getLsbD 2 = p.bpu.causes.getLsbD 2 := by
  unfold creditFollows
  dsimp only
  rewrite [reexamineCredit_cause]
  split <;> rfl

theorem railChange_cause (f : Part → Part) (p : Part) :
    (railChange f p).bpu.causes.getLsbD 2 = (f p).bpu.causes.getLsbD 2 :=
  (creditFollows_cause _ _).trans (setCause_lowCredit (by decide) _)

/-! ## CHARGED (R28, R101, R103) -/

/-- A charge has been deducted and answered CHARGED in TALKING or GRACE, before the CC reports the step paid. -/
structure ChargeTaken (a : Nat) (p q : Part) : Prop where
  rlu : q.rlu = { p.rlu with banked := p.rlu.banked - a, charge := none }
  money : q.cau.money = { p.cau.money with
    charged := p.cau.money.charged + BitVec.ofNat 32 a, banked := p.cau.money.banked - a }
  types : q.cau.types = p.cau.types
  cc : q.cc = { p.cc with
    call := .talking
    steps := p.cc.steps + 1, charged := p.cc.charged + a
    grace := if p.cc.call = .grace then none else p.cc.grace
    graceOver := p.cc.graceOver && p.cc.call != .grace
    noted := p.cc.noted && p.cc.call != .grace
    low := if p.rtu.timing.state = .idle then p.cc.low else decide (creditOnHand q < chargeStep q) }
  cause : q.bpu.causes.getLsbD 2 = (p.bpu.causes.getLsbD 2 || (q.cc.low && !p.cc.low))
  credit : Group.status 1 ∈ q.bpu.dirty
  call : Group.status 2 ∈ q.bpu.dirty
  rtu : q.rtu = p.rtu
  lu : q.lu = p.lu
  cru : q.cru = p.cru
  cu : q.cu = p.cu
  mem : q.mem = p.mem
  tick : q.tick = p.tick

/-- The charge as the RLU deducts it, and the step as the CC starts it, before the credit is examined. -/
def chargeBooked (a : Nat) (p : Part) : Part := stepStarted a { railChange (bookCharge a) p with rlu.charge := none }

theorem chargeBooked_booked (a : Nat) (p : Part) : ∃ low,
    (chargeBooked a p).rlu = { p.rlu with banked := p.rlu.banked - a, charge := none }
    ∧ (chargeBooked a p).cau.money = { p.cau.money with
        charged := p.cau.money.charged + BitVec.ofNat 32 a, banked := p.cau.money.banked - a }
    ∧ (chargeBooked a p).cau.types = p.cau.types
    ∧ (chargeBooked a p).cc = { p.cc with steps := p.cc.steps + 1, charged := p.cc.charged + a, low := low }
    ∧ low = (p.cc.low && (p.rtu.timing.state == .idle || decide (creditOnHand (chargeBooked a p) < chargeStep p)))
    ∧ (chargeBooked a p).bpu.causes.getLsbD 2 = p.bpu.causes.getLsbD 2
    ∧ Group.status 1 ∈ (chargeBooked a p).bpu.dirty ∧ Group.status 2 ∈ (chargeBooked a p).bpu.dirty
    ∧ (chargeBooked a p).rtu = p.rtu ∧ (chargeBooked a p).lu = p.lu ∧ (chargeBooked a p).cru = p.cru
    ∧ (chargeBooked a p).cu = p.cu ∧ (chargeBooked a p).mem = p.mem ∧ (chargeBooked a p).tick = p.tick := by
  have hbook : (bookCharge a p).cc = p.cc ∧ (bookCharge a p).rtu = p.rtu
      ∧ (bookCharge a p).bpu.causes.getLsbD 2 = p.bpu.causes.getLsbD 2 := by simp [bookCharge]
  obtain ⟨hcc, hrtu, hcause⟩ := hbook
  refine ⟨lowKept (bookCharge a p) (bookCharge a p), ?_, ?_, ?_, ?_, ?_, ?_, ?_, mem_insertGroup_self _ _, ?_, ?_, ?_, ?_,
    ?_, ?_⟩
  · simp [chargeBooked, stepStarted, bookCharge]
  · simp [chargeBooked, stepStarted, bookCharge, addTo]
  · simp [chargeBooked, stepStarted, bookCharge]
  · have hbooked := railChange_cc (bookCharge a) p
    rewrite [hcc] at hbooked
    unfold chargeBooked stepStarted
    generalize railChange (bookCharge a) p = q at hbooked
    show Cc.mk .. = _
    rw [hbooked]
  · have hstep : chargeStep (bookCharge a p) = chargeStep p := chargeStep_congr hrtu
    have hhand : creditOnHand (chargeBooked a p) = creditOnHand (bookCharge a p) := by
      simp [creditOnHand, owedCount, chargeBooked, stepStarted]
    rw [lowKept, hcc, hrtu, hstep, hhand]
  · show (railChange (bookCharge a) p).bpu.causes.getLsbD 2 = _
    rw [railChange_cause, hcause]
  · exact (markS_publishes 2 _).dirty _ (railChange_marks_S1 (bookCharge a) p)
  all_goals simp [chargeBooked, stepStarted, bookCharge]

/-- The examination that follows the change of credit: together they act like one. -/
theorem examined_twice {p b : Part} (hrtu : b.rtu = p.rtu)
    (hlow : b.cc.low = (p.cc.low && (p.rtu.timing.state == .idle || decide (creditOnHand b < chargeStep p))))
    (hcause : b.bpu.causes.getLsbD 2 = p.bpu.causes.getLsbD 2) :
    lowExamined b = (if p.rtu.timing.state = .idle then p.cc.low else decide (creditOnHand b < chargeStep b))
    ∧ (examineCredit b).bpu.causes.getLsbD 2 = (p.bpu.causes.getLsbD 2 || (lowExamined b && !p.cc.low)) := by
  have hexamined : lowExamined b =
      (if p.rtu.timing.state = .idle then p.cc.low else decide (creditOnHand b < chargeStep b)) := by
    unfold lowExamined
    rewrite [hrtu]
    split
    next hidle => rewrite [hlow, hidle]; exact Bool.and_true _
    next => rfl
  refine ⟨hexamined, ?_⟩
  rewrite [examineCredit_cause, examineCredit_cc, hexamined, hcause, hlow, chargeStep_congr hrtu]
  by_cases hidle : p.rtu.timing.state = .idle
  · simp [hidle]
  · have hother : (p.rtu.timing.state == .idle) = false := beq_false_of_ne hidle
    simp only [hidle, hother, if_false, Bool.false_or]
    cases p.cc.low <;> cases decide (creditOnHand b < chargeStep p) <;> rfl

/-- GRACE is left at CHARGED: its timer and its marks are empty (R103). -/
def graceLeft (p : Part) : Part :=
  if p.cc.call = .grace then { p with cc.grace := none, cc.graceOver := false, cc.noted := false } else p

theorem graceLeft_frame (p : Part) : graceLeft p = { p with
    cc.grace := if p.cc.call = .grace then none else p.cc.grace
    cc.graceOver := p.cc.graceOver && p.cc.call != .grace
    cc.noted := p.cc.noted && p.cc.call != .grace } := by
  unfold graceLeft
  by_cases h : p.cc.call = .grace
  · simp [h]
  · have hother : (p.cc.call != .grace) = true := bne_iff_ne.2 h
    rw [if_neg h, if_neg h, hother, Bool.and_true, Bool.and_true]

theorem deduct_eq {a : Nat} {p : Part} (hcall : p.cc.call = .talking ∨ p.cc.call = .grace) :
    deduct a p = reportPaid (setCall .talking (examineCredit (graceLeft (chargeBooked a p)))) := by
  have hkept : (chargeBooked a p).cc.call = p.cc.call := by
    obtain ⟨low, -, -, -, hcc, -⟩ := chargeBooked_booked a p
    rw [hcc]
  have hbooked : deduct a p = (match (chargeBooked a p).cc.call with
      | .ending => completeEnding (chargeBooked a p)
      | .talking => reportPaid (examineCredit (chargeBooked a p))
      | .grace => reportPaid (setCall .talking (examineCredit
          { chargeBooked a p with cc.grace := none, cc.graceOver := false, cc.noted := false }))
      | .idle => chargeBooked a p
      | .collecting => chargeBooked a p
      | .rating => chargeBooked a p
      | .placing => chargeBooked a p) := rfl
  rewrite [hbooked]
  generalize chargeBooked a p = b at *
  obtain hcall | hcall := hcall
  · have htalks : (examineCredit b).cc.call = .talking := by rw [examineCredit_cc, hkept, hcall]
    have hstays : setCall .talking (examineCredit b) = examineCredit b := if_pos htalks
    have hleft : graceLeft b = b := if_neg (by rewrite [hkept, hcall]; decide)
    rw [hleft, hstays, hkept, hcall]
  · have hleft : graceLeft b = { b with cc.grace := none, cc.graceOver := false, cc.noted := false } :=
      if_pos (hkept.trans hcall)
    rw [hleft, hkept, hcall]

/-- What the CC does with CHARGED before it reports the step paid. -/
theorem deduct_reports {a : Nat} {p : Part} (hcall : p.cc.call = .talking ∨ p.cc.call = .grace) :
    ∃ q, ChargeTaken a p q ∧ deduct a p = reportPaid q := by
  refine ⟨_, ?_, deduct_eq hcall⟩
  obtain ⟨low, hrlu, hmoney, htypes, hcc, hlow, hcause, hcredit, hfigures, hrtu, hlu, hcru, hcu, hmem, htick⟩ :=
    chargeBooked_booked a p
  generalize chargeBooked a p = b at *
  have hleft := graceLeft_frame b
  have hsame : (graceLeft b).rlu = b.rlu ∧ (graceLeft b).rtu = b.rtu ∧ (graceLeft b).bpu = b.bpu
      ∧ (graceLeft b).cau = b.cau ∧ (graceLeft b).lu = b.lu ∧ (graceLeft b).cru = b.cru ∧ (graceLeft b).cu = b.cu
      ∧ (graceLeft b).mem = b.mem ∧ (graceLeft b).tick = b.tick := by
    rewrite [hleft]
    exact ⟨rfl, rfl, rfl, rfl, rfl, rfl, rfl, rfl, rfl⟩
  have hlcc : (graceLeft b).cc = { b.cc with
      grace := if b.cc.call = .grace then none else b.cc.grace
      graceOver := b.cc.graceOver && b.cc.call != .grace, noted := b.cc.noted && b.cc.call != .grace } := by
    rw [hleft]
  clear hleft
  generalize graceLeft b = r at *
  obtain ⟨hrrlu, hrrtu, hrbpu, hrcau, hrlu', hrcru, hrcu, hrmem, hrtick⟩ := hsame
  obtain ⟨hexamined, hcause'⟩ := examined_twice (p := p) (b := r) (hrrtu.trans hrtu)
    (by rewrite [hlcc, hcc, creditOnHand_congr hrrlu]; exact hlow) (by rewrite [hrbpu]; exact hcause)
  have hpub := (setCall_publishes .talking (examineCredit r)).ofLast ((examineCredit_publishes r).ofLast (.of_bpu hrbpu))
  have hcc' := examineCredit_cc r
  have hset := setCall_frame .talking (examineCredit r)
  have hbit := (setCall_moneyKept .talking (examineCredit r)).low
  have hkept : (setCall .talking (examineCredit r)).rlu = r.rlu ∧ (setCall .talking (examineCredit r)).rtu = r.rtu
      ∧ (setCall .talking (examineCredit r)).cau = r.cau ∧ (setCall .talking (examineCredit r)).lu = r.lu
      ∧ (setCall .talking (examineCredit r)).cru = r.cru ∧ (setCall .talking (examineCredit r)).cu = r.cu
      ∧ (setCall .talking (examineCredit r)).mem = r.mem ∧ (setCall .talking (examineCredit r)).tick = r.tick := by
    rewrite [hset]
    simp
  have hqcc : (setCall .talking (examineCredit r)).cc = { (examineCredit r).cc with call := .talking } := by rw [hset]
  generalize setCall .talking (examineCredit r) = q at *
  obtain ⟨hqrlu, hqrtu, hqcau, hqlu, hqcru, hqcu, hqmem, hqtick⟩ := hkept
  constructor
  case cc =>
    rw [hqcc, hcc', hlcc, hcc, hexamined, creditOnHand_congr hqrlu, chargeStep_congr hqrtu]
  case cause => rw [hbit, hcause', hqcc, hcc']
  case credit => exact hpub.dirty _ hcredit
  case call => exact hpub.dirty _ hfigures
  case rlu => rw [hqrlu, hrrlu, hrlu]
  case money => rw [hqcau, hrcau, hmoney]
  case types => rw [hqcau, hrcau, htypes]
  case rtu => rw [hqrtu, hrrtu, hrtu]
  case lu => rw [hqlu, hrlu', hlu]
  case cru => rw [hqcru, hrcru, hcru]
  case cu => rw [hqcu, hrcu, hcu]
  case mem => rw [hqmem, hrmem, hmem]
  case tick => rw [hqtick, hrtick, htick]

/-! ## SHORT (R102) -/

/-- A charge has been answered SHORT in TALKING: the call is in GRACE, and the amount is owed. -/
structure GraceBegun (a : Nat) (p q : Part) : Prop where
  rlu : q.rlu = { p.rlu with charge := none }
  cc : q.cc = { p.cc with
    call := .grace, grace := some { start := p.tick, limit := graceTime p }, graceOver := false, owed := a, noted := false
    low := if p.rtu.timing.state = .idle then p.cc.low else decide (creditOnHand q < chargeStep q) }
  cause : q.bpu.causes.getLsbD 2 = (p.bpu.causes.getLsbD 2 || (q.cc.low && !p.cc.low))
  credit : q.cc.low ≠ p.cc.low → Group.status 1 ∈ q.bpu.dirty
  publishes : Publishes p q
  cau : q.cau = p.cau
  rtu : q.rtu = p.rtu
  lu : q.lu = p.lu
  cru : q.cru = p.cru
  cu : q.cu = p.cu
  mem : q.mem = p.mem
  tick : q.tick = p.tick

theorem answerShort_talking {a : Nat} {p : Part} (hcall : p.cc.call = .talking) : GraceBegun a p (answerShort a p) := by
  obtain ⟨r, hr⟩ : ∃ r, r = { p with rlu.charge := none } := ⟨_, rfl⟩
  have hanswer : answerShort a p = enterGrace a (examineCredit r) := by
    rewrite [hr]
    unfold answerShort
    dsimp only
    rw [hcall]
  have hcc := examineCredit_cc r
  have hcause := examineCredit_cause r
  have hmarks := examineCredit_marks (p := r)
  have hpub := examineCredit_publishes r
  have hlow : lowExamined r = if p.rtu.timing.state = .idle then p.cc.low
      else decide (creditOnHand r < chargeStep r) := by rewrite [hr]; rfl
  have hsame : (examineCredit r).rlu = { p.rlu with charge := none } ∧ (examineCredit r).rtu = p.rtu
      ∧ (examineCredit r).cau = p.cau ∧ (examineCredit r).lu = p.lu ∧ (examineCredit r).cru = p.cru
      ∧ (examineCredit r).cu = p.cu ∧ (examineCredit r).mem = p.mem ∧ (examineCredit r).tick = p.tick := by
    rewrite [hr]
    simp
  have hrcc : r.cc = p.cc := by rw [hr]
  have hrbpu : r.bpu = p.bpu := by rw [hr]
  have hrrlu : r.rlu = { p.rlu with charge := none } := by rw [hr]
  have hrrtu : r.rtu = p.rtu := by rw [hr]
  rewrite [hanswer]
  clear hr hanswer
  generalize examineCredit r = e at *
  obtain ⟨herlu, hertu, hecau, helu, hecru, hecu, hemem, hetick⟩ := hsame
  rewrite [hrcc] at hcc hmarks hcause
  rewrite [hrbpu] at hcause
  obtain ⟨g, hg⟩ : ∃ g, g = { e with
    cc.grace := some (newTimer (graceTime e) e), cc.graceOver := false, cc.owed := a, cc.noted := false } := ⟨_, rfl⟩
  have henters : enterGrace a e = setCall .grace g := by rewrite [hg]; rfl
  have hset := setCall_frame .grace g
  have hbit := (setCall_moneyKept .grace g).low
  have hpub' := setCall_publishes .grace g
  rewrite [henters]
  generalize setCall .grace g = q at *
  have hgpub : Publishes e g := .of_bpu (by rw [hg])
  have hqpub : Publishes e q := hgpub.trans hpub'
  have hqcc : q.cc = { p.cc with
      call := .grace, grace := some { start := p.tick, limit := graceTime p }, graceOver := false, owed := a
      noted := false, low := lowExamined r } := by
    have htime : graceTime e = graceTime p := by rw [graceTime, graceTime, hertu]
    rw [hset, hg, hcc, newTimer, hetick, htime]
  have hqrlu : q.rlu = e.rlu := by rw [hset, hg]
  have hqrtu : q.rtu = e.rtu := by rw [hset, hg]
  constructor
  case rlu => rw [hqrlu, herlu]
  case cc =>
    rw [hqcc, hlow, creditOnHand_congr (hqrlu.trans (herlu.trans hrrlu.symm)),
      chargeStep_congr (hqrtu.trans (hertu.trans hrrtu.symm))]
  case cause =>
    have hgcause : g.bpu.causes = e.bpu.causes := by rw [hg]
    rw [hbit, hgcause, hcause, hqcc, hcc]
  case credit =>
    intro h
    rewrite [hqcc] at h
    exact hqpub.dirty _ (hmarks (by rewrite [hcc]; exact h))
  case publishes => exact (Publishes.of_bpu hrbpu).trans (hpub.trans hqpub)
  case rtu => rw [hqrtu, hertu]
  case cau => rw [hset, hg, hecau]
  case lu => rw [hset, hg, helu]
  case cru => rw [hset, hg, hecru]
  case cu => rw [hset, hg, hecu]
  case mem => rw [hset, hg, hemem]
  case tick => rw [hset, hg, hetick]

/-! ## The steps (R96 to R100) -/

theorem stepDuration_bounds (s r e : Nat) : 500 ≤ (stepDuration s r e).1 ∧ (stepDuration s r e).1 ≤ 3600000 := by
  unfold stepDuration
  dsimp only
  split
  · decide
  · split
    · decide
    · dsimp only
      omega

/-- The duration and the remainder of a step that is due (R96, R98). -/
def dueDuration (band : Nat) (p : Part) : Nat × Nat :=
  stepDuration (chargeStep p) (rateOf band p) (if band = p.rtu.timing.band then p.rtu.timing.carry else 0)

/-- The timing as a due step begins. -/
def stepBegun (start : Tick) (band : Nat) (p : Part) : Timing :=
  { p.rtu.timing with
    state := .running, index := p.rtu.timing.index + 1, band, start
    finish := start + BitVec.ofNat 32 (dueDuration band p).1, carry := (dueDuration band p).2 }

/-- The timing behind the beginning of a due step whose end may have passed (R100). -/
def stepTaken (start : Tick) (band : Nat) (p : Part) : Timing :=
  if elapsed start p < (dueDuration band p).1 then stepBegun start band p
  else if rateOf (bandNow p) p = 0 then { stepBegun start band p with state := .waiting }
  else { stepBegun start band p with
    state := .held, heldStart := (stepBegun start band p).finish, heldBand := bandNow p }

/-- The part as a due step begins, its charge just sent. -/
def dueStepSent (start : Tick) (band : Nat) (p : Part) : Part :=
  markS 2 { p with
    rtu.timing := stepBegun start band p
    rlu.charge := some { amount := chargeStep p, collecting := false }
    cc.paid := false }

theorem beginDueStep_eq (start : Tick) (band : Nat) (p : Part) :
    beginDueStep start band p = takePassedEnd (dueStepSent start band p) := rfl

theorem stepIsOver_sent (start : Tick) (band : Nat) (p : Part) :
    stepIsOver (dueStepSent start band p) = !decide (elapsed start p < (dueDuration band p).1) := by
  have hbounds : (dueDuration band p).1 ≤ 3600000 := (stepDuration_bounds _ _ _).2
  have hlength : (start + BitVec.ofNat 32 (dueDuration band p).1 - start).toNat = (dueDuration band p).1 := by
    rewrite [BitVec.add_comm, BitVec.add_sub_cancel, BitVec.toNat_ofNat]
    exact Nat.mod_eq_of_lt (by omega)
  show decide ((start + BitVec.ofNat 32 (dueDuration band p).1 - start).toNat ≤ elapsed start p) = _
  rewrite [hlength, ← decide_not]
  exact decide_eq_decide.2 Nat.not_lt.symm

theorem beginDueStep_running {start : Tick} {band : Nat} {p : Part}
    (h : elapsed start p < (dueDuration band p).1) : beginDueStep start band p = dueStepSent start band p := by
  rw [beginDueStep_eq, takePassedEnd, if_neg]
  rewrite [stepIsOver_sent, decide_eq_true h]
  decide

/-- What the beginning of a due step changes. -/
theorem beginDueStep_frame (start : Tick) (band : Nat) (p : Part) : beginDueStep start band p = { p with
    rtu.timing := stepTaken start band p
    rlu.charge := some { amount := chargeStep p, collecting := false }
    cc.paid := false
    bpu.dirty := (beginDueStep start band p).bpu.dirty } := by
  by_cases h : elapsed start p < (dueDuration band p).1
  · rewrite [beginDueStep_running h, stepTaken, if_pos h]
    rfl
  · rewrite [beginDueStep_eq, takePassedEnd, if_pos (by rewrite [stepIsOver_sent, decide_eq_false h]; rfl), stepTaken, if_neg h]
    have hrate : rateOf (bandNow (dueStepSent start band p)) (dueStepSent start band p) = rateOf (bandNow p) p := rfl
    rewrite [hrate]
    split <;> rfl

theorem reportPaid_unheld {p : Part} (h : p.rtu.timing.state ≠ .held) : reportPaid p = { p with cc.paid := true } :=
  if_neg h

theorem reportPaid_held {p : Part} (h : p.rtu.timing.state = .held) :
    reportPaid p = beginDueStep p.rtu.timing.heldStart p.rtu.timing.heldBand { p with cc.paid := true } := if_pos h

end Sys2Proof.Machine
end

section
/-!
PROOFS. The cycles of the gate (R20 to R24, R29, R33, R53): a collect, a refund cycle, and a cycle without its confirm.
-/

namespace Sys2Proof.Machine

/-! ## What a raise makes of the conditions and of the line -/

/-- What a raise reads of a part and may change of the line: a report call may be granted. -/
def lineView (p : Part) := (p.cru, p.rtu.clock, p.lu, p.cc.off, p.tick, p.pins.loop)

set_option Elab.async false in
theorem lineView_iff {p q : Part} : lineView q = lineView p ↔ q.cru = p.cru ∧ q.rtu.clock = p.rtu.clock ∧ q.lu = p.lu
    ∧ q.cc.off = p.cc.off ∧ q.tick = p.tick ∧ q.pins.loop = p.pins.loop := by
  simp only [lineView, Prod.mk.injEq]

theorem grantSeize_lineView {p q : Part} (h : lineView q = lineView p) (owner : Owner) (number : List Nat) :
    lineView (grantSeize owner number q) = lineView (grantSeize owner number p) := by
  obtain ⟨hcru, hclock, hlu, hoff, htick, hloop⟩ := lineView_iff.1 h
  unfold grantSeize
  simp only [markS_pins, hloop]
  cases p.pins.loop <;> simp [lineView, currentSeen, newTimer, *]

theorem reportAsk_lineView {p q : Part} (h : lineView q = lineView p) :
    lineView (reportAsk q) = lineView (reportAsk p) := by
  obtain ⟨hcru, hclock, hlu, hoff, htick, hloop⟩ := lineView_iff.1 h
  have hready : reportReady q = reportReady p := by simp only [reportReady, lineFree, isActive, rowOf, hcru, hlu, hoff]
  unfold reportAsk
  rewrite [hcru, hready]
  split
  · split
    · exact grantSeize_lineView (by simp [lineView, *]) _ _
    · exact h
  · exact h

theorem joinRecord_lineView {p q : Part} (h : lineView q = lineView p) (k : ReportKind) (d s : Nat) :
    lineView (joinRecord k d s q) = lineView (joinRecord k d s p) := by
  obtain ⟨hcru, hclock, hlu, hoff, htick, hloop⟩ := lineView_iff.1 h
  unfold joinRecord cancelBackoff
  dsimp only
  apply reportAsk_lineView
  rewrite [lineView_iff]
  split
  · simp only [mark_cru, hcru]
    split <;> simp [*]
  · simp [*]

theorem newRecord_lineView {p q : Part} (h : lineView q = lineView p) (k : ReportKind) (d : Nat) :
    lineView (newRecord k d q) = lineView (newRecord k d p) := by
  have hcru := (lineView_iff.1 h).1
  have hdropped : ∀ {a b : Part}, lineView b = lineView a → lineView (countDropped b) = lineView (countDropped a) := by
    intro a b hab
    obtain ⟨hcru, hclock, hlu, hoff, htick, hloop⟩ := lineView_iff.1 hab
    simp [lineView, countDropped, *]
  unfold newRecord
  rewrite [hcru]
  split
  · exact joinRecord_lineView h _ _ _
  · split
    · split
      · refine joinRecord_lineView (hdropped ?_) _ _ _
        obtain ⟨-, hclock, hlu, hoff, htick, hloop⟩ := lineView_iff.1 h
        simp [lineView, *]
      · exact hdropped h
    · exact hdropped h

theorem raisedTable_lineView {p q : Part} (h : lineView q = lineView p) (k : Condition) (d : Nat) :
    lineView (raisedTable k d q) = lineView (raisedTable k d p) := by
  obtain ⟨hcru, hclock, hlu, hoff, htick, hloop⟩ := lineView_iff.1 h
  have hrow : rowOf k q = rowOf k p := by simp [rowOf, hcru]
  have hset : (setRow k (raisedRow q.rtu.clock d (rowOf k q)) q).cru =
      (setRow k (raisedRow p.rtu.clock d (rowOf k p)) p).cru := by simp [setRow, hcru, hclock, hrow]
  have hderived : derivedRestriction (setRow k (raisedRow q.rtu.clock d (rowOf k q)) q) =
      derivedRestriction (setRow k (raisedRow p.rtu.clock d (rowOf k p)) p) :=
    derivedRestriction_congr (by rw [hset]) (by rw [hset])
  rewrite [raisedTable_frame k d q, raisedTable_frame k d p, lineView_iff]
  have htable : (raisedTable k d q).cru = (raisedTable k d p).cru := by
    unfold raisedTable deriveRestriction
    rewrite [hderived, hset]
    split <;> simp [hset]
  exact ⟨by simp [htable, hcru], hclock, hlu, hoff, htick, hloop⟩

theorem enqueueRaise_lineView {p q : Part} (h : lineView q = lineView p) (k : Condition) (d : Nat) (first : Bool) :
    lineView (enqueueRaise k d first q) = lineView (enqueueRaise k d first p) := by
  obtain ⟨hcru, hclock, hlu, hoff, htick, hloop⟩ := lineView_iff.1 h
  unfold enqueueRaise
  rewrite [hcru]
  split
  · simp [lineView, changeRecord, *]
  · split
    · exact newRecord_lineView h _ _
    · exact h

theorem raise_lineView {p q : Part} (h : lineView q = lineView p) (k : Condition) (d : Nat) :
    lineView (raise k d q) = lineView (raise k d p) := by
  have hactive : isActive k q = isActive k p := isActive_congr (by rw [(lineView_iff.1 h).1]) _
  rewrite [raise_eq, raise_eq, hactive]
  split
  · exact raisedTable_lineView h k d
  · exact enqueueRaise_lineView (raisedTable_lineView h k d) _ _ _

theorem thresholdsRaised_lineView {p q : Part} (h : lineView q = lineView p) (near full : Bool) (n : Nat) :
    lineView (thresholdsRaised near full n q) = lineView (thresholdsRaised near full n p) := by
  have hrows : ∀ {a b : Part}, lineView b = lineView a → ∀ k, isActive k b = isActive k a := fun hab k =>
    isActive_congr (by rw [(lineView_iff.1 hab).1]) k
  have hnear : lineView (if near = true ∧ isActive .vaultNearFull q = false then raise .vaultNearFull n q else q) =
      lineView (if near = true ∧ isActive .vaultNearFull p = false then raise .vaultNearFull n p else p) := by
    rewrite [hrows h]
    split
    · exact raise_lineView h _ _
    · exact h
  unfold thresholdsRaised
  dsimp only
  rewrite [hrows h]
  split
  · exact raise_lineView hnear _ _
  · exact hnear

/-- A collect is judged by the thresholds that its vault count stands at (R53). -/
theorem judgeVault_eq (p : Part) : judgeVault p =
    thresholdsRaised (p.cau.capacity.any fun cap => decide (p.cau.money.vaultCount = cap * 9 / 10))
      (p.cau.capacity.any fun cap => decide (p.cau.money.vaultCount = cap - 8)) p.cau.money.vaultCount p := by
  unfold judgeVault thresholdsRaised
  cases hcapacity : p.cau.capacity with
  | none => simp
  | some c =>
    have hfull := isActive_raise_ne (j := .vaultFull) (k := .vaultNearFull) (by decide) p.cau.money.vaultCount p
    simp only [Bool.not_eq_true', decide_eq_true_eq, Option.any_some]
    split <;> simp only [hfull]

/-! ## The low-credit flag through several changes (R106) -/

/-- Two changes between which the credit on hand stays as it is keep the flag like one. -/
theorem lowKept_twice {p q r : Part} (hlow : q.cc.low = lowKept p q) (htiming : q.rtu.timing = p.rtu.timing)
    (hhand : creditOnHand r = creditOnHand q) (hstep : chargeStep r = chargeStep q) : lowKept q r = lowKept p r := by
  rw [lowKept, hlow, htiming, hhand, hstep, lowKept, lowKept, hhand, hstep, Bool.and_assoc, Bool.and_self]

/-! ## A collect (R22, R53) -/

/-- The head coin as the vault takes it: the rail, MONEY and TYPE COUNTS, and the coin in the call's figures. -/
def collectBooked (c : Coin) (p : Part) : Part :=
  let q := railChange (fun p => bookCollect c (endCycle .hold p)) p
  { q with cc.placed := q.cc.placed.map fun x => { x with collected := x.collected + 1 } }

/-- What a collect changes before the gate goes on. -/
structure CoinCollected (c : Coin) (rest : List Coin) (p q : Part) : Prop where
  rlu : q.rlu = { p.rlu with rail := rest, banked := p.rlu.banked + c.value, gate := .hold, cycle := none }
  money : q.cau.money = { p.cau.money with
    collected := p.cau.money.collected + BitVec.ofNat 32 c.value
    banked := p.cau.money.banked + c.value
    vaultValue := p.cau.money.vaultValue + BitVec.ofNat 32 c.value
    vaultCount := p.cau.money.vaultCount + 1
    railTypes := p.cau.money.railTypes.drop 1
    railCount := p.cau.money.railCount - 1 }
  types : q.cau.types = { p.cau.types with
    vault := p.cau.types.vault.set (c.type - 1) (min 65535 (p.cau.types.vault.getD (c.type - 1) 0 + 1)) }
  calls : q.cau.calls = p.cau.calls
  load : q.cau.load = p.cau.load
  cc : q.cc = { p.cc with
    low := lowKept p q, placed := p.cc.placed.map fun x => { x with collected := x.collected + 1 } }
  cause : q.bpu.causes.getLsbD 2 = p.bpu.causes.getLsbD 2
  credit : Group.status 1 ∈ q.bpu.dirty
  rtu : q.rtu = p.rtu
  cu : q.cu = p.cu
  mem : q.mem = p.mem
  tick : q.tick = p.tick
  result : q.bpu.result = p.bpu.result
  inFlight : q.bpu.inFlight = p.bpu.inFlight

/-- The bookings of a collect, before they are published. -/
structure CollectBooking (c : Coin) (rest : List Coin) (p q : Part) : Prop where
  rlu : q.rlu = { p.rlu with rail := rest, banked := p.rlu.banked + c.value, gate := .hold, cycle := none }
  money : q.cau.money = { p.cau.money with
    collected := p.cau.money.collected + BitVec.ofNat 32 c.value
    banked := p.cau.money.banked + c.value
    vaultValue := p.cau.money.vaultValue + BitVec.ofNat 32 c.value
    vaultCount := p.cau.money.vaultCount + 1
    railTypes := p.cau.money.railTypes.drop 1
    railCount := p.cau.money.railCount - 1 }
  types : q.cau.types = { p.cau.types with
    vault := p.cau.types.vault.set (c.type - 1) (min 65535 (p.cau.types.vault.getD (c.type - 1) 0 + 1)) }
  calls : q.cau.calls = p.cau.calls
  load : q.cau.load = p.cau.load
  capacity : q.cau.capacity = p.cau.capacity
  cc : q.cc = p.cc
  cause : q.bpu.causes.getLsbD 2 = p.bpu.causes.getLsbD 2
  rtu : q.rtu = p.rtu
  lu : q.lu = p.lu
  cru : q.cru = p.cru
  cu : q.cu = p.cu
  mem : q.mem = p.mem
  tick : q.tick = p.tick
  pins : q.pins = p.pins
  result : q.bpu.result = p.bpu.result
  inFlight : q.bpu.inFlight = p.bpu.inFlight

theorem bookCollect_booking {c : Coin} {rest : List Coin} {p : Part} (hrail : p.rlu.rail = c :: rest)
    (hwaits : p.rlu.clearWaits = false) : CollectBooking c rest p (bookCollect c (endCycle .hold p)) := by
  rewrite [endCycle_plain hwaits]
  constructor
  all_goals simp [bookCollect, dropHead, hrail, addTo, dropHeadType, countUp, satAdd]

theorem collectBooked_collected {c : Coin} {rest : List Coin} {p : Part} (hrail : p.rlu.rail = c :: rest)
    (hwaits : p.rlu.clearWaits = false) : CoinCollected c rest p (collectBooked c p)
      ∧ (collectBooked c p).cau.capacity = p.cau.capacity ∧ lineView (collectBooked c p) = lineView p := by
  have hbooking := bookCollect_booking hrail hwaits
  obtain ⟨f, hf⟩ : ∃ f : Part → Part, f = fun p => bookCollect c (endCycle .hold p) := ⟨_, rfl⟩
  have hbooked : collectBooked c p = { railChange f p with
      cc.placed := (railChange f p).cc.placed.map fun x => { x with collected := x.collected + 1 } } := by
    rewrite [hf]
    rfl
  have hfp : bookCollect c (endCycle .hold p) = f p := by rw [hf]
  rewrite [hfp] at hbooking
  rewrite [hbooked]
  clear hf hbooked hfp
  have hcc := railChange_cc f p
  have hcause := railChange_cause f p
  have hcredit := railChange_marks_S1 f p
  have hlow : lowKept (f p) (f p) = lowKept p (railChange f p) :=
    lowKept_congr (by rw [hbooking.cc]) (by rw [hbooking.rtu]) (railChange_rlu _ _).symm (railChange_rtu _ _).symm
  obtain ⟨hrlu, hmoney, htypes, hcalls, hload, hcapacity, hbcc, hbcause, hrtu, hlu, hcru, hcu, hmem, htick, hpins, hresult,
    hflight⟩ := hbooking
  refine ⟨?_, ?_, ?_⟩
  · constructor
    case cc =>
      show Cc.mk .. = _
      rewrite [hcc, hbcc, hlow]
      rfl
    case cause => exact hcause.trans hbcause
    case credit => exact hcredit
    all_goals simp [*]
  · simp [*]
  · rewrite [lineView_iff]
    refine ⟨?_, ?_, ?_, ?_, ?_, ?_⟩
    all_goals simp [*]

theorem CoinCollected.raised {c : Coin} {rest : List Coin} {p q : Part} (h : CoinCollected c rest p q) (k : Condition)
    (d : Nat) : CoinCollected c rest p (raise k d q) where
  rlu := (raise_rlu ..).trans h.rlu
  money := by rewrite [raise_cau]; exact h.money
  types := by rewrite [raise_cau]; exact h.types
  calls := by rewrite [raise_cau]; exact h.calls
  load := by rewrite [raise_cau]; exact h.load
  cc := by rw [raise_cc, h.cc, lowKept_congr rfl rfl (raise_rlu k d q) (raise_rtu k d q)]
  cause := (raise_kept k d q).low.trans h.cause
  credit := (raise_publishes k d q).dirty _ h.credit
  rtu := (raise_rtu ..).trans h.rtu
  cu := (raise_cu ..).trans h.cu
  mem := (raise_mem ..).trans h.mem
  tick := (raise_tick ..).trans h.tick
  result := (inner_result (raise_inner k d q)).trans h.result
  inFlight := (inner_inFlight (raise_inner k d q)).trans h.inFlight

theorem CoinCollected.thresholds {c : Coin} {rest : List Coin} {p q : Part} (h : CoinCollected c rest p q)
    (near full : Bool) (n : Nat) : CoinCollected c rest p (thresholdsRaised near full n q) := by
  have hnear : CoinCollected c rest p
      (if near = true ∧ isActive .vaultNearFull q = false then raise .vaultNearFull n q else q) := by
    split
    · exact h.raised _ _
    · exact h
  unfold thresholdsRaised
  dsimp only
  split
  · exact hnear.raised _ _
  · exact hnear

/-- The thresholds that a vault count stands at after a collect are raised as its condition table has them. -/
def vaultJudged (p : Part) : Part :=
  thresholdsRaised (p.cau.capacity.any fun cap => decide (p.cau.money.vaultCount + 1 = cap * 9 / 10))
    (p.cau.capacity.any fun cap => decide (p.cau.money.vaultCount + 1 = cap - 8)) (p.cau.money.vaultCount + 1) p

theorem vaultJudged_lineView {p q : Part} (h : lineView q = lineView p) (hcau : q.cau = p.cau) :
    lineView (vaultJudged q) = lineView (vaultJudged p) := by
  unfold vaultJudged
  rewrite [hcau]
  exact thresholdsRaised_lineView h _ _ _

theorem judgeVault_collected {c : Coin} {rest : List Coin} {p : Part} (hrail : p.rlu.rail = c :: rest)
    (hwaits : p.rlu.clearWaits = false) : CoinCollected c rest p (judgeVault (collectBooked c p))
      ∧ lineView (judgeVault (collectBooked c p)) = lineView (vaultJudged p) := by
  obtain ⟨hcollected, hcapacity, hview⟩ := collectBooked_collected hrail hwaits
  have hmoney := hcollected.money
  rewrite [judgeVault_eq]
  refine ⟨hcollected.thresholds _ _ _, ?_⟩
  rewrite [hcapacity, hmoney]
  exact thresholdsRaised_lineView hview _ _ _

theorem collectDone_eq {c : Coin} {rest : List Coin} {p : Part} (hrail : p.rlu.rail = c :: rest) :
    collectDone p = gateWork (judgeVault (collectBooked c p)) := by
  rewrite [collectDone, hrail]
  rfl

/-- A coin that the confirm's own sensor saw is the same coin without its readings. -/
theorem CoinCollected.sensed {c : Coin} {rest : List Coin} {p q : Part}
    (h : CoinCollected c rest (vaultInterrupted p) q) : CoinCollected c rest p q := by
  obtain ⟨h1, h2, h3, h4, h5, h6, h7, h8, h9, h10, h11, h12, h13, h14⟩ := h
  exact ⟨h1, h2, h3, h4, h5, h6, h7, h8, h9, h10, h11, h12, h13, h14⟩

/-- The confirm of a collect: the coin is the vault's, the thresholds are judged, and the gate's work goes on. -/
theorem exec_vaultConfirm {s : State} {c : Coin} {rest : List Coin} (hgate : s.part.rlu.gate = .vaulting)
    (hrail : s.part.rlu.rail = c :: rest) (hwaits : s.part.rlu.clearWaits = false) :
    ∃ q, exec .vaultConfirm s = .next { s with part := gateWork q } ∧ CoinCollected c rest s.part q
      ∧ lineView q = lineView (vaultJudged s.part) := by
  obtain ⟨hcollected, hview⟩ := judgeVault_collected (p := vaultInterrupted s.part) hrail hwaits
  refine ⟨_, ?_, hcollected.sensed, hview.trans (vaultJudged_lineView rfl rfl)⟩
  show onPart (fun p => vaultSensor (vaultInterrupted p)) s = _
  rw [onPart, vaultSensor, if_pos (by exact hgate), collectDone_eq (by exact hrail)]

/-! ## A coin off the rail (R23, R24) -/

/-- A change of the rail with its booking, published: the rail unit and MONEY stand as given, and the call is as it was
but for the low-credit flag. -/
structure RailTaken (r : Rlu) (m : Money) (p q : Part) : Prop where
  rlu : q.rlu = r
  money : q.cau.money = m
  types : q.cau.types = p.cau.types
  calls : q.cau.calls = p.cau.calls
  load : q.cau.load = p.cau.load
  cc : q.cc = { p.cc with low := lowKept p q }
  cause : q.bpu.causes.getLsbD 2 = p.bpu.causes.getLsbD 2
  credit : Group.status 1 ∈ q.bpu.dirty
  rtu : q.rtu = p.rtu
  lu : q.lu = p.lu
  cru : q.cru = p.cru
  cu : q.cu = p.cu
  mem : q.mem = p.mem
  tick : q.tick = p.tick
  result : q.bpu.result = p.bpu.result
  inFlight : q.bpu.inFlight = p.bpu.inFlight

/-- What the booking of a change touches: MONEY with its mark, and the rail. -/
structure Booking (r : Rlu) (m : Money) (p q : Part) : Prop where
  rlu : q.rlu = r
  money : q.cau.money = m
  types : q.cau.types = p.cau.types
  calls : q.cau.calls = p.cau.calls
  load : q.cau.load = p.cau.load
  cc : q.cc = p.cc
  cause : q.bpu.causes.getLsbD 2 = p.bpu.causes.getLsbD 2
  rtu : q.rtu = p.rtu
  lu : q.lu = p.lu
  cru : q.cru = p.cru
  cu : q.cu = p.cu
  mem : q.mem = p.mem
  tick : q.tick = p.tick
  result : q.bpu.result = p.bpu.result
  inFlight : q.bpu.inFlight = p.bpu.inFlight

theorem railChange_taken {f : Part → Part} {r : Rlu} {m : Money} {p : Part} (h : Booking r m p (f p)) :
    RailTaken r m p (railChange f p) := by
  have hcc := railChange_cc f p
  have hlow : lowKept (f p) (f p) = lowKept p (railChange f p) :=
    lowKept_congr (by rw [h.cc]) (by rw [h.rtu]) (railChange_rlu _ _).symm (railChange_rtu _ _).symm
  obtain ⟨hrlu, hmoney, htypes, hcalls, hload, hbcc, hbcause, hrtu, hlu, hcru, hcu, hmem, htick, hresult, hflight⟩ := h
  constructor
  case cc => rw [hcc, hbcc, hlow]
  case cause => exact (railChange_cause f p).trans hbcause
  case credit => exact railChange_marks_S1 f p
  all_goals simp [*]

theorem bookRefund_booking {c : Coin} {rest : List Coin} {n : Nat} {p : Part} (hrail : p.rlu.rail = c :: rest)
    (hwaits : p.rlu.clearWaits = false) (hrefund : p.rlu.refund = some (n + 1)) :
    Booking { p.rlu with rail := rest, gate := .hold, cycle := none, refund := some n }
      { p.cau.money with
        refunded := p.cau.money.refunded + BitVec.ofNat 32 c.value
        railTypes := p.cau.money.railTypes.drop 1
        railCount := p.cau.money.railCount - 1 }
      p (bookRefund c (endCycle .hold (oweFewer p))) := by
  rewrite [endCycle_plain (by exact hwaits)]
  constructor
  all_goals simp [bookRefund, oweFewer, dropHead, hrail, hrefund, addTo, dropHeadType]

theorem endCycle_fault (p : Part) : endCycle .fault p = { p with rlu.gate := .fault, rlu.cycle := none } := by
  unfold endCycle
  exact if_neg fun h => nomatch h.1

/-- The head coin lost from a cycle (R24). -/
theorem loseHead_booking {c : Coin} {rest : List Coin} {p : Part} (hrail : p.rlu.rail = c :: rest) :
    Booking { p.rlu with rail := rest, gate := .fault, cycle := none }
      { p.cau.money with
        suspense := p.cau.money.suspense + BitVec.ofNat 32 c.value
        railTypes := p.cau.money.railTypes.drop 1
        railCount := p.cau.money.railCount - 1 }
      p (loseHead p) := by
  unfold loseHead
  rewrite [hrail, endCycle_fault]
  dsimp only
  constructor
  all_goals simp [bookSuspense, dropHead, hrail, addTo, dropHeadType]

theorem loseHead_owed_booking {c : Coin} {rest : List Coin} {n : Nat} {p : Part} (hrail : p.rlu.rail = c :: rest)
    (hrefund : p.rlu.refund = some (n + 1)) :
    Booking { p.rlu with rail := rest, gate := .fault, cycle := none, refund := some n }
      { p.cau.money with
        suspense := p.cau.money.suspense + BitVec.ofNat 32 c.value
        railTypes := p.cau.money.railTypes.drop 1
        railCount := p.cau.money.railCount - 1 }
      p (loseHead (oweFewer p)) := by
  obtain ⟨h1, h2, h3, h4, h5, h6, h7, h8, h9, h10, h11, h12, h13, h14, h15⟩ :=
    loseHead_booking (p := oweFewer p) (by exact hrail)
  exact ⟨h1.trans (by simp [oweFewer, hrefund]), h2, h3, h4, h5, h6, h7, h8, h9, h10, h11, h12, h13, h14, h15⟩

theorem headType_cons {c : Coin} {rest : List Coin} {p : Part} (h : p.rlu.rail = c :: rest) : headType p = c.type := by
  rw [headType, h]

/-! ## The charge that collects (R29) -/

/-- At HOLD a charge that banked credit does not cover yet goes on to its next cycle. -/
theorem gateTurn_collectsOn {a : Nat} {p : Part} (hd : p.rlu.dump = .ended) (hg : p.rlu.gate = .hold)
    (hc : p.rlu.charge = some { amount := a, collecting := true }) (ha : p.rlu.banked < a) :
    gateTurn p = (beginCycle .vaulting p, false) := by
  unfold gateTurn
  rewrite [if_neg (not_not.2 hd), hg, hc]
  exact if_neg (by omega)

theorem gateWork_collectsOn {a : Nat} {p : Part} (hd : p.rlu.dump = .ended) (hg : p.rlu.gate = .hold)
    (hc : p.rlu.charge = some { amount := a, collecting := true }) (ha : p.rlu.banked < a) :
    gateWork p = beginCycle .vaulting p := gateTurns_last (gateTurn_collectsOn hd hg hc ha)

/-- The last coin that a refund owes ends it (R33). -/
theorem gateWork_refunded {p : Part} (hd : p.rlu.dump = .ended) (hg : p.rlu.gate = .hold) (hc : p.rlu.charge = none)
    (hr : p.rlu.refund = some 0) (hp : p.rlu.pendingRefund = false) :
    gateWork p = { p with rlu.refund := none } := by
  have hturn : gateTurn p = ({ p with rlu.refund := none }, true) := by
    unfold gateTurn
    rw [if_neg (not_not.2 hd), hg, hc, hr]
  rewrite [gateWork_turns, gateTurns_more hturn]
  exact gateTurns_last (gateTurn_still (.inl ⟨hc, rfl, hp⟩))

/-- A new cycle is a change of the gate alone. -/
theorem beginCycle_taken (g : GateState) (p : Part) : RailTaken
    { p.rlu with gate := g, cycle := some { start := p.tick, limit := 400 } } p.cau.money p (beginCycle g p) :=
  railChange_taken ⟨rfl, rfl, rfl, rfl, rfl, rfl, rfl, rfl, rfl, rfl, rfl, rfl, rfl, rfl, rfl⟩

/-- Changes that follow one another without touching the credit keep the flag as one change does. -/
theorem RailTaken.low_then {r r' : Rlu} {m m' : Money} {p q t : Part} (h : RailTaken r m p q)
    (k : RailTaken r' m' q t) (hhand : creditOnHand t = creditOnHand q) : t.cc = { p.cc with low := lowKept p t } := by
  have hlow : lowKept q t = lowKept p t :=
    lowKept_twice (by rw [h.cc]) (by rw [h.rtu]) hhand (chargeStep_congr k.rtu)
  rw [k.cc, hlow, h.cc]

theorem exec_returnConfirm {s : State} {head : Bool} {c : Coin} {rest : List Coin} {n : Nat}
    (hgate : s.part.rlu.gate = .refunding) (hdump : s.part.rlu.dump = .ended) (hrail : s.part.rlu.rail = c :: rest)
    (hrefund : s.part.rlu.refund = some (n + 1)) (hwaits : s.part.rlu.clearWaits = false) :
    ∃ q, exec (.returnConfirm head) s = .next { s with part := gateWork q }
      ∧ RailTaken { s.part.rlu with rail := rest, gate := .hold, cycle := none, refund := some n }
          { s.part.cau.money with
            refunded := s.part.cau.money.refunded + BitVec.ofNat 32 c.value
            railTypes := s.part.cau.money.railTypes.drop 1
            railCount := s.part.cau.money.railCount - 1 }
          s.part q := by
  let p : Part := { returnInterrupted s.part with pins.headOccupied := head }
  have hbooked := railChange_taken (p := p) (f := fun p => bookRefund c (endCycle .hold (oweFewer p)))
    (bookRefund_booking (n := n) (by exact hrail) (by exact hwaits) (by exact hrefund))
  refine ⟨railChange (fun p => bookRefund c (endCycle .hold (oweFewer p))) p, ?_, ?_⟩
  · have hdone : refundDone head p = gateWork (railChange (fun p => bookRefund c (endCycle .hold (oweFewer p))) p) := by
      have hd : p.rlu.dump = .ended := hdump
      have hr : p.rlu.rail = c :: rest := hrail
      have hsame : railChange (fun p => let p := oweFewer p
          match p.rlu.rail with
          | c :: _ => bookRefund c (endCycle .hold p)
          | [] => endCycle .hold p) p = railChange (fun p => bookRefund c (endCycle .hold (oweFewer p))) p := by
        have hfp : (oweFewer p).rlu.rail = c :: rest := hr
        unfold railChange
        dsimp only
        rw [hfp]
      unfold refundDone
      rewrite [hd]
      exact congrArg gateWork hsame
    show onPart (fun p => returnSensor head { returnInterrupted p with pins.headOccupied := head }) s = _
    rewrite [onPart, returnSensor, if_pos (by exact hgate)]
    exact congrArg (fun q => Host.Outcome.next { s with part := q }) hdone
  · obtain ⟨h1, h2, h3, h4, h5, h6, h7, h8, h9, h10, h11, h12, h13, h14, h15, h16⟩ := hbooked
    exact ⟨h1, h2, h3, h4, h5, h6, h7, h8, h9, h10, h11, h12, h13, h14, h15, h16⟩

theorem confirmMissing_refunding {c : Coin} {rest : List Coin} {p : Part} (hgate : p.rlu.gate = .refunding)
    (hdump : p.rlu.dump = .ended) (hrail : p.rlu.rail = c :: rest) : confirmMissing p =
      gateWork (raise .coinJam (20 + c.type) (railChange (fun p => loseHead (oweFewer p)) p)) := by
  unfold confirmMissing
  rw [hgate, hdump, headType_cons hrail]

/-- Settles O48, from the bookings of the cycles and the gate's turns. -/
theorem gateCyclesEnd : Obligations.GateCyclesEnd := by
  unfold Obligations.GateCyclesEnd
  intro s
  refine ⟨?_, fun hgate => ?_, fun head hgate => ?_, fun c rest a hgate hdump hrail hcharge hshort hwaits => ?_,
    fun c rest n head hgate hdump hrail hrefund hcharge hpending hwaits => ?_,
    fun c rest n hdue hgate hdump hrail hrefund hcharge => ?_, fun hdue => ?_⟩
  · unfold gatePosition positionIn
    cases s.part.rlu.gate <;> rfl
  · show onPart (fun p => vaultSensor (vaultInterrupted p)) s = _
    rw [onPart, vaultSensor, if_neg (by exact hgate)]
  · show onPart (fun p => returnSensor head { returnInterrupted p with pins.headOccupied := head }) s = _
    rw [onPart, returnSensor, if_neg (by exact hgate)]
  · intro n judged
    obtain ⟨q, hexec, hcollected, hview⟩ := exec_vaultConfirm hgate hrail hwaits
    rewrite [gateWork_collectsOn (a := a) (by rw [hcollected.rlu, hdump]) (by rw [hcollected.rlu])
      (by rw [hcollected.rlu, hcharge]) (by rewrite [hcollected.rlu]; exact hshort)] at hexec
    have htaken := beginCycle_taken .vaulting q
    generalize beginCycle .vaulting q = t at hexec htaken
    obtain ⟨hcru, -, hlu, -⟩ := lineView_iff.1 hview
    have hlow : lowKept q t = lowKept s.part t :=
      lowKept_twice (by rw [hcollected.cc]) (by rw [hcollected.rtu]) (by rewrite [creditOnHand, htaken.rlu]; rfl)
        (chargeStep_congr htaken.rtu)
    refine ⟨_, hexec, ?_, ?_, ?_, ?_, htaken.credit, ?_, ?_, ?_, ?_, ?_⟩
    · rw [htaken.rlu, hcollected.rlu, hcollected.tick]
    · exact htaken.money.trans hcollected.money
    · exact htaken.types.trans hcollected.types
    · rw [htaken.cc, hlow, hcollected.cc]
    · exact htaken.cru.trans hcru
    · exact htaken.lu.trans hlu
    · exact htaken.rtu.trans hcollected.rtu
    · exact htaken.cu.trans hcollected.cu
    · exact htaken.mem.trans hcollected.mem
  · obtain ⟨q, hexec, htaken⟩ := exec_returnConfirm (head := head) hgate hdump hrail hrefund hwaits
    cases n with
    | zero =>
      rewrite [gateWork_refunded (by rw [htaken.rlu, hdump]) (by rw [htaken.rlu]) (by rw [htaken.rlu, hcharge])
        (by rw [htaken.rlu]) (by rw [htaken.rlu, hpending])] at hexec
      have hhand : creditOnHand { q with rlu.refund := none } = creditOnHand q := by
        have hnone : q.rlu.refund = some 0 := by rw [htaken.rlu]
        simp [creditOnHand, owedCount, hnone]
      refine ⟨_, hexec, ?_, htaken.money, htaken.types, ?_, htaken.cru, htaken.lu, htaken.rtu, htaken.cu, htaken.mem⟩
      · rw [if_pos rfl, htaken.rlu]
      · have hlow : lowKept s.part { q with rlu.refund := none } = lowKept s.part q := by
          rewrite [lowKept, lowKept, hhand]
          rfl
        rewrite [hlow]
        exact htaken.cc
    | succ n =>
      rewrite [gateWork_refund (n := n) (by rw [htaken.rlu, hdump]) (by rw [htaken.rlu]) (by rw [htaken.rlu, hcharge])
        (by rw [htaken.rlu])] at hexec
      have hcycle := beginCycle_taken .refunding q
      generalize beginCycle .refunding q = t at hexec hcycle
      refine ⟨_, hexec, ?_, hcycle.money.trans htaken.money, hcycle.types.trans htaken.types,
        htaken.low_then hcycle (by rewrite [creditOnHand, hcycle.rlu]; rfl), hcycle.cru.trans htaken.cru,
        hcycle.lu.trans htaken.lu, hcycle.rtu.trans htaken.rtu, hcycle.cu.trans htaken.cu, hcycle.mem.trans htaken.mem⟩
      rw [hcycle.rlu, htaken.rlu, htaken.tick, if_neg (by omega)]
  · have hlost := railChange_taken (f := fun p => loseHead (oweFewer p)) (loseHead_owed_booking hrail hrefund)
    have hexec : exec .confirmLimitExpiry s = .next { s with part := confirmMissing s.part } := by
      show onPart (fun p => onExpiry p.rlu.cycle confirmMissing p) s = _
      rw [onPart, onExpiry_due hdue]
    rewrite [confirmMissing_refunding hgate hdump hrail] at hexec
    generalize railChange (fun p => loseHead (oweFewer p)) s.part = q at hexec hlost
    have hrlu := (raise_rlu .coinJam (20 + c.type) q).trans hlost.rlu
    rewrite [gateWork_still (.inr (.inr (.inr ⟨by rw [hrlu], by rw [hrlu, hcharge]⟩)))] at hexec
    refine ⟨_, hexec, hrlu, ?_, ?_, ?_, (raise_rtu ..).trans hlost.rtu, (raise_cu ..).trans hlost.cu,
      (raise_mem ..).trans hlost.mem⟩
    · rewrite [raise_cau]
      exact hlost.money
    · exact raise_rows_congr hlost.cru (by rw [hlost.rtu]) _ _
    · rw [raise_cc, hlost.cc, lowKept_congr rfl rfl (raise_rlu .coinJam (20 + c.type) q) (raise_rtu ..)]
  · show onPart (fun p => onExpiry p.cu.flap (fun p => { p with cu.flap := none }) p) s = _
    rw [onPart, onExpiry_due hdue]

end Sys2Proof.Machine
end

section
/-!
PROOFS. The steps of a call's timing (R94, R98 to R101, R106): the end of a step, a band judged anew, and the report of
payment in HELD.
-/

namespace Sys2Proof.Machine

/-! ## A charge that waits at HOLD (R28, R31) -/

/-- The gate rests at HOLD behind the dump, with no refund before a charge. -/
structure GateOpen (p : Part) : Prop where
  dump : p.rlu.dump = .ended
  gate : p.rlu.gate = .hold
  refund : p.rlu.refund = none
  pending : p.rlu.pendingRefund = false

set_option Elab.async false in
theorem GateOpen.congr {p q : Part} (h : GateOpen p) (hdump : q.rlu.dump = p.rlu.dump) (hgate : q.rlu.gate = p.rlu.gate)
    (hrefund : q.rlu.refund = p.rlu.refund) (hpending : q.rlu.pendingRefund = p.rlu.pendingRefund) : GateOpen q :=
  ⟨hdump.trans h.dump, hgate.trans h.gate, hrefund.trans h.refund, hpending.trans h.pending⟩

theorem gateTurn_takesUp {a : Nat} {p : Part} (h : GateOpen p)
    (hc : p.rlu.charge = some { amount := a, collecting := false }) : gateTurn p = (takeUpCharge a p, true) := by
  unfold gateTurn
  rewrite [if_neg (not_not.2 h.dump), h.gate, hc, h.refund]
  dsimp only
  rw [if_neg (by simp [h.pending])]

theorem gateTurn_covers {a : Nat} {p : Part} (hd : p.rlu.dump = .ended) (hg : p.rlu.gate = .hold)
    (hc : p.rlu.charge = some { amount := a, collecting := true }) (ha : a ≤ p.rlu.banked) :
    gateTurn p = (deduct a p, true) := by
  unfold gateTurn
  rewrite [if_neg (not_not.2 hd), hg, hc]
  exact if_pos ha

theorem takeUpCharge_covered {a : Nat} {p : Part} (h : a ≤ p.rlu.banked) : takeUpCharge a p = deduct a p := if_pos h

theorem takeUpCharge_short {a : Nat} {p : Part} (h : p.rlu.banked + railValue p < a) :
    takeUpCharge a p = answerShort a p := by
  rw [takeUpCharge, if_neg (by omega), if_pos h]

theorem takeUpCharge_collects {a : Nat} {p : Part} (hlow : p.rlu.banked < a) (h : a ≤ p.rlu.banked + railValue p) :
    takeUpCharge a p = { p with rlu.charge := some { amount := a, collecting := true } } := by
  rw [takeUpCharge, if_neg (by omega), if_neg (by omega)]

/-- A waiting charge that banked credit covers is answered, and the gate has no more work. -/
theorem gateTurns_charged {a : Nat} {p : Part} (n : Nat) (h : GateOpen p)
    (hc : p.rlu.charge = some { amount := a, collecting := false }) (ha : a ≤ p.rlu.banked)
    (hcall : p.cc.call = .talking ∨ p.cc.call = .grace) (hheld : p.rtu.timing.state ≠ .held) :
    ∃ q, ChargeTaken a p q ∧ gateTurns (n + 2) p = { q with cc.paid := true } := by
  obtain ⟨q, htaken, hdeduct⟩ := deduct_reports (a := a) hcall
  refine ⟨q, htaken, ?_⟩
  rewrite [reportPaid_unheld (by rewrite [htaken.rtu]; exact hheld)] at hdeduct
  rewrite [gateTurns_more (gateTurn_takesUp h hc), takeUpCharge_covered ha, hdeduct]
  refine gateTurns_last (gateTurn_still (.inl ⟨?_, ?_, ?_⟩))
  · show q.rlu.charge = none
    rw [htaken.rlu]
  · show q.rlu.refund = none
    rewrite [htaken.rlu]
    exact h.refund
  · show q.rlu.pendingRefund = false
    rewrite [htaken.rlu]
    exact h.pending

/-- A waiting charge that credit and rail do not cover is answered SHORT in TALKING. -/
theorem gateTurns_short {a : Nat} {p : Part} (n : Nat) (h : GateOpen p)
    (hc : p.rlu.charge = some { amount := a, collecting := false }) (ha : p.rlu.banked + railValue p < a)
    (hcall : p.cc.call = .talking) : GraceBegun a p (gateTurns (n + 2) p) := by
  have hshort := answerShort_talking (a := a) hcall
  have hwork : gateTurns (n + 2) p = answerShort a p := by
    rewrite [gateTurns_more (gateTurn_takesUp h hc), takeUpCharge_short ha]
    refine gateTurns_last (gateTurn_still (.inl ?_))
    rewrite [gateRests, hshort.rlu]
    exact ⟨rfl, h.refund, h.pending⟩
  rewrite [hwork]
  exact hshort

/-- The figures of a step rest on the steps in force, the call's entry and the cache. -/
theorem rateOf_congr {p q : Part} (hentry : q.cc.placed.bind (·.entry) = p.cc.placed.bind (·.entry))
    (hrtu : q.rtu.cache = p.rtu.cache) (band : Nat) : rateOf band q = rateOf band p := by
  rw [rateOf, rateOf, callCopy, callCopy, hentry, hrtu]

theorem ChargeTaken.low {a : Nat} {p q : Part} (h : ChargeTaken a p q) (hstate : p.rtu.timing.state ≠ .idle) :
    q.cc.low = decide (creditOnHand q < chargeStep q) := by
  rewrite [h.cc]
  exact if_neg hstate

theorem GraceBegun.low {a : Nat} {p q : Part} (h : GraceBegun a p q) (hstate : p.rtu.timing.state ≠ .idle) :
    q.cc.low = decide (creditOnHand q < chargeStep q) := by
  rewrite [h.cc]
  exact if_neg hstate

/-- After CHARGED the credit has been examined (R106). -/
theorem ChargeTaken.examined {a : Nat} {p q t : Part} (h : ChargeTaken a p q) (hstate : p.rtu.timing.state ≠ .idle)
    {before : Bool} (hbefore : p.cc.low = before) (hcause : p.bpu.causes.getLsbD 2 = t.bpu.causes.getLsbD 2) :
    creditExamined before t { q with cc.paid := true } := by
  refine ⟨h.low hstate, fun _ => h.credit, ?_⟩
  show q.bpu.causes.getLsbD 2 = _
  rw [h.cause, hcause, hbefore]

/-! ## The end of a step (R98) -/

theorem exec_stepEnd {s : State} (hstate : s.part.rtu.timing.state = .running)
    (htick : s.part.tick = s.part.rtu.timing.finish) :
    exec .stepEnd s = .next { s with part := gateWork (endStep s.part) } := by
  have hdue : due (stepTimer s.part) s.part := by
    refine ⟨_, if_pos hstate, ?_⟩
    rewrite [expired, elapsed, htick]
    exact decide_eq_true (le_refl _)
  show onPart (fun p => onExpiry (stepTimer p) (fun p => gateWork (endStep p)) p) s = _
  rw [onPart, onExpiry_due hdue]

theorem elapsed_zero {t : Tick} {p : Part} (h : p.tick = t) (d : Nat × Nat) (hd : 500 ≤ d.1) : elapsed t p < d.1 := by
  have hzero : elapsed t p = 0 := by rewrite [elapsed, h, BitVec.sub_self]; rfl
  omega

/-- A due step that is paid for from banked credit at once. -/
theorem dueStep_paid {start : Tick} {band : Nat} {p : Part} (hopen : GateOpen p) (hcall : p.cc.call = .talking)
    (hcredit : chargeStep p ≤ p.rlu.banked) :
    ∃ q, ChargeTaken (chargeStep p) (dueStepSent start band p) q
      ∧ gateWork (dueStepSent start band p) = { q with cc.paid := true } :=
  gateTurns_charged (p := dueStepSent start band p) _ (hopen.congr rfl rfl rfl rfl) rfl hcredit (.inl hcall)
    (by exact nofun)

/-- The end of a step whose call has paid begins the next step and its charge. -/
theorem stepEnd_paid {s : State} (hstate : s.part.rtu.timing.state = .running)
    (htick : s.part.tick = s.part.rtu.timing.finish) (hrate : rateOf (bandNow s.part) s.part ≠ 0)
    (hpaid : s.part.cc.paid = true) :
    exec .stepEnd s = .next { s with
      part := gateWork (dueStepSent s.part.rtu.timing.finish (bandNow s.part) s.part) } := by
  have hrun := beginDueStep_running (start := s.part.rtu.timing.finish) (band := bandNow s.part) (p := s.part)
    (elapsed_zero htick _ (stepDuration_bounds _ _ _).1)
  rw [exec_stepEnd hstate htick, endStep, if_neg hrate, stepDue, if_pos hpaid, hrun]

/-! ## A band judged anew (R94, R99) -/

theorem judgeBand_changed {p : Part} (h : bandNow p ≠ p.rtu.band)
    (hstate : p.rtu.timing.state = .running ∨ p.rtu.timing.state = .held
      ∨ p.rtu.timing.state = .waiting ∧ rateOf (bandNow p) p = 0) :
    judgeBand p = { p with rtu.band := bandNow p } := by
  have hrate : rateOf (bandNow { p with rtu.band := bandNow p }) { p with rtu.band := bandNow p } = rateOf (bandNow p) p :=
    rfl
  unfold judgeBand
  rewrite [if_neg h]
  dsimp only
  rewrite [hrate]
  obtain hs | hs | ⟨hs, hzero⟩ := hstate
  · rw [hs]
  · rw [hs]
  · rw [hs, if_pos hzero]

theorem judgeBand_pays {p : Part} (h : bandNow p ≠ p.rtu.band) (hstate : p.rtu.timing.state = .waiting)
    (hrate : rateOf (bandNow p) p ≠ 0) : judgeBand p =
      stepDue p.tick (bandNow p) { p with rtu.band := bandNow p, rtu.timing.carry := 0 } := by
  unfold judgeBand
  rewrite [if_neg h]
  dsimp only
  rewrite [hstate]
  exact if_neg hrate

/-- A paying band begins the step due now with no remainder (R99). -/
theorem judgeBand_begins {p : Part} (h : bandNow p ≠ p.rtu.band) (hstate : p.rtu.timing.state = .waiting)
    (hrate : rateOf (bandNow p) p ≠ 0) (hpaid : p.cc.paid = true) : judgeBand p =
      dueStepSent p.tick (bandNow p) { p with rtu.band := bandNow p, rtu.timing.carry := 0 } := by
  rewrite [judgeBand_pays h hstate hrate, stepDue, if_pos hpaid]
  exact beginDueStep_running (elapsed_zero rfl _ (stepDuration_bounds _ _ _).1)

/-- Without a charge the gate has no work behind a band that is judged anew. -/
theorem judgeBand_rests {p : Part} (hrests : gateRests p) (hstate : p.rtu.timing.state = .waiting)
    (h : p.cc.paid = false ∨ bandNow p = p.rtu.band ∨ rateOf (bandNow p) p = 0) : gateRests (judgeBand p) := by
  by_cases hband : bandNow p = p.rtu.band
  · rewrite [judgeBand, if_pos hband]
    exact hrests
  · by_cases hrate : rateOf (bandNow p) p = 0
    · rewrite [judgeBand_changed hband (.inr (.inr ⟨hstate, hrate⟩))]
      exact hrests
    · rw [judgeBand_pays hband hstate hrate, stepDue, if_neg]
      · exact hrests
      · obtain hpaid | hsame | hzero := h
        · simp [hpaid]
        · exact absurd hsame hband
        · exact absurd hzero hrate

theorem exec_clockSecond {s : State} (hdue : due (some (phaseTimer s.part)) s.part) :
    exec .clockSecond s = .next { s with part := gateWork (judgeBand (markS 6 { s.part with
      rtu.clock := nextSecond s.part.rtu.clock, rtu.second := s.part.rtu.second + 1000 })) } := by
  show onPart (fun p => onExpiry (some (phaseTimer p)) secondPasses p) s = _
  rewrite [onPart, onExpiry_due hdue]
  rfl

/-! ## The report of payment in HELD (R100) -/

/-- CHARGED in HELD: the due step begins with its charge, which the gate takes up next. -/
theorem deduct_held {a : Nat} {p : Part} (hcall : p.cc.call = .talking ∨ p.cc.call = .grace)
    (hheld : p.rtu.timing.state = .held) : ∃ q, ChargeTaken a p q ∧ deduct a p =
      beginDueStep p.rtu.timing.heldStart p.rtu.timing.heldBand { q with cc.paid := true } := by
  obtain ⟨q, htaken, hdeduct⟩ := deduct_reports (a := a) hcall
  refine ⟨q, htaken, ?_⟩
  rw [hdeduct, reportPaid_held (by rewrite [htaken.rtu]; exact hheld), htaken.rtu]

/-- What the beginning of a due step from HELD leaves, its charge waiting at HOLD. -/
structure HeldBegun (a : Nat) (p b : Part) : Prop where
  gate : GateOpen b
  rlu : b.rlu = { p.rlu with
    banked := p.rlu.banked - a, charge := some { amount := chargeStep p, collecting := false } }
  rtu : b.rtu = { p.rtu with timing := stepTaken p.rtu.timing.heldStart p.rtu.timing.heldBand p }
  call : b.cc.call = .talking
  steps : b.cc.steps = p.cc.steps + 1
  charged : b.cc.charged = p.cc.charged + a
  paid : b.cc.paid = false
  mem : b.mem = p.mem
  tick : b.tick = p.tick

theorem stepTaken_congr {p q : Part} (hentry : q.cc.placed.bind (·.entry) = p.cc.placed.bind (·.entry)) (hrtu : q.rtu = p.rtu)
    (htick : q.tick = p.tick) (start : Tick) (band : Nat) : stepTaken start band q = stepTaken start band p := by
  have hrate : ∀ b, rateOf b q = rateOf b p := rateOf_congr hentry (by rw [hrtu])
  have hdue : dueDuration band q = dueDuration band p := by
    rw [dueDuration, dueDuration, hrate, chargeStep_congr hrtu, hrtu]
  have hbegun : stepBegun start band q = stepBegun start band p := by rw [stepBegun, stepBegun, hdue, hrtu]
  have hnow : bandNow q = bandNow p := by rw [bandNow, bandNow, hrtu]
  rw [stepTaken, stepTaken, hbegun, hdue, hnow, hrate, elapsed, elapsed, htick]

/-- A collect that covers the charge in HELD: the due step begins, and its own charge is next. -/
theorem gateTurn_held {a : Nat} {p : Part} (h : GateOpen p)
    (hc : p.rlu.charge = some { amount := a, collecting := true }) (ha : a ≤ p.rlu.banked)
    (hcall : p.cc.call = .talking ∨ p.cc.call = .grace) (hheld : p.rtu.timing.state = .held) :
    ∃ b, gateTurn p = (b, true) ∧ HeldBegun a p b := by
  obtain ⟨q, htaken, hdeduct⟩ := deduct_held (a := a) hcall hheld
  have hframe := beginDueStep_frame p.rtu.timing.heldStart p.rtu.timing.heldBand { q with cc.paid := true }
  rewrite [gateTurn_covers h.dump h.gate hc ha, hdeduct]
  generalize beginDueStep p.rtu.timing.heldStart p.rtu.timing.heldBand { q with cc.paid := true } = b at hframe ⊢
  refine ⟨b, rfl, ?_⟩
  have hstep : stepTaken p.rtu.timing.heldStart p.rtu.timing.heldBand { q with cc.paid := true } =
      stepTaken p.rtu.timing.heldStart p.rtu.timing.heldBand p :=
    stepTaken_congr (by rw [htaken.cc]) htaken.rtu htaken.tick _ _
  have hcharge : chargeStep { q with cc.paid := true } = chargeStep p := chargeStep_congr (by exact htaken.rtu)
  rewrite [hstep, hcharge] at hframe
  have hrlu : b.rlu = { p.rlu with
      banked := p.rlu.banked - a, charge := some { amount := chargeStep p, collecting := false } } := by
    rewrite [hframe]
    dsimp only
    rw [htaken.rlu]
  have hcc : b.cc = { q.cc with paid := false } := by rw [hframe]
  constructor
  case gate => exact h.congr (by rw [hrlu]) (by rw [hrlu]) (by rw [hrlu]) (by rw [hrlu])
  case rlu => exact hrlu
  case rtu =>
    rewrite [hframe]
    dsimp only
    rw [htaken.rtu]
  case call => rw [hcc, htaken.cc]
  case steps => rw [hcc, htaken.cc]
  case charged => rw [hcc, htaken.cc]
  case paid => rw [hcc]
  case mem =>
    rewrite [hframe]
    exact htaken.mem
  case tick =>
    rewrite [hframe]
    exact htaken.tick

/-- Settles O50, from the beginning of a due step and the answers to its charge. -/
theorem stepEnds : Obligations.StepEnds := by
  unfold Obligations.StepEnds
  refine ⟨fun s hstate htick => ?_, fun p hband => ?_, fun s hdue hstate hrests => ?_,
    fun s a coin rest hheld hcharge hgate hrail hdump hrefund hpending hwaits ha hcall => ?_⟩
  · intro t band
    refine ⟨fun hrate hstill => ?_, fun hrate hpaid hstill => ?_,
      fun hrate hpaid hrests hdump hgate hcall hcredit => ?_⟩
    · rewrite [exec_stepEnd hstate htick, endStep, if_pos hrate, gateWork_still (by exact hstill)]
      rfl
    · rewrite [exec_stepEnd hstate htick, endStep, if_neg hrate, stepDue, if_neg (by simp [hpaid]),
        gateWork_still (by exact hstill)]
      rfl
    · intro d
      have hexec := stepEnd_paid hstate htick hrate hpaid
      obtain ⟨q, htaken, hwork⟩ := dueStep_paid (start := s.part.rtu.timing.finish) (band := bandNow s.part)
        ⟨hdump, hgate, hrests.2.1, hrests.2.2⟩ hcall hcredit
      rewrite [hwork] at hexec
      have hcc := htaken.cc
      refine ⟨_, hexec, ?_, htaken.rlu.trans (by rewrite [← hrests.1]; rfl), htaken.money, ?_, ?_, rfl, ?_, ?_,
        htaken.examined (by exact nofun) rfl rfl, htaken.call, htaken.lu, htaken.cru, htaken.cu, htaken.mem⟩
      · have hrunning : t = { t with state := .running } := by rw [← hstate]
        rewrite [hrunning]
        exact htaken.rtu
      · show q.cc.steps = _
        rewrite [hcc]
        rfl
      · show q.cc.charged = _
        rewrite [hcc]
        rfl
      · show q.cc.call = _
        rw [hcc]
      · show q.cc.placed = _
        rewrite [hcc]
        rfl
  · intro t band d
    refine ⟨fun hs => judgeBand_changed hband hs, fun hs hrate hpaid => ?_, fun hs hrate hpaid => ?_⟩
    · rewrite [judgeBand_pays hband hs hrate, stepDue, if_neg (by simp [hpaid])]
      rfl
    · have hdue : dueDuration band { p with rtu.band := band, rtu.timing.carry := 0 } = d := by
        unfold dueDuration
        rewrite [ite_self]
        rfl
      rewrite [judgeBand_begins hband hs hrate hpaid]
      unfold dueStepSent stepBegun
      rewrite [hdue]
      rfl
  · intro q
    have hexec := exec_clockSecond hdue
    refine ⟨fun h => ?_, fun hpaid hband hrate hdump hgate hcall hcredit => ?_⟩
    · rw [hexec, gateWork_rest (judgeBand_rests (by exact hrests) (by exact hstate) h)]
    · obtain ⟨u, htaken, hwork⟩ := dueStep_paid (start := q.tick) (band := bandNow q)
        (p := { q with rtu.band := bandNow q, rtu.timing.carry := 0 }) ⟨hdump, hgate, hrests.2.1, hrests.2.2⟩ hcall
        hcredit
      rewrite [judgeBand_begins (by exact hband) (by exact hstate) (by exact hrate) (by exact hpaid)] at hexec ⊢
      have hcc := htaken.cc
      rewrite [hwork] at hexec
      refine ⟨_, hexec, htaken.rtu, ⟨rfl, ?_, ?_⟩, htaken.examined (by exact nofun) rfl rfl,
        htaken.rlu.trans (by rewrite [← hrests.1]; rfl), ?_, htaken.lu, htaken.mem⟩
      · show u.cc.steps = _
        rewrite [hcc]
        rfl
      · show u.cc.charged = _
        rewrite [hcc]
        rfl
      · show u.cc.call = _
        rw [hcc]
  · intro t left d begun rlu
    obtain ⟨q, hexec, hcollected, -⟩ := exec_vaultConfirm hgate hrail hwaits
    have hopen : GateOpen q := by
      constructor <;> rw [hcollected.rlu]
      · exact hdump
      · exact hrefund
      · exact hpending
    obtain ⟨b, hturn, hbegun⟩ := gateTurn_held (a := a) hopen (by rewrite [hcollected.rlu]; exact hcharge)
      (by rewrite [hcollected.rlu]; exact ha) (by rewrite [hcollected.cc]; exact hcall) (by rewrite [hcollected.rtu]; exact hheld)
    rewrite [gateWork_turns, gateTurns_more hturn] at hexec
    have hstep : chargeStep q = chargeStep s.part := chargeStep_congr hcollected.rtu
    have hentry : q.cc.placed.bind (·.entry) = s.part.cc.placed.bind (·.entry) := by
      rewrite [hcollected.cc]
      cases s.part.cc.placed <;> rfl
    have htaken : stepTaken t.heldStart t.heldBand q = stepTaken t.heldStart t.heldBand s.part :=
      stepTaken_congr hentry hcollected.rtu hcollected.tick _ _
    have hrtu : b.rtu = { s.part.rtu with timing := stepTaken t.heldStart t.heldBand s.part } := by
      rw [hbegun.rtu, hcollected.rtu, ← htaken]
    have hrlu : b.rlu = { rlu with
        banked := left, charge := some { amount := chargeStep s.part, collecting := false } } := by
      rw [hbegun.rlu, hcollected.rlu, hstep]
    have hcharge' : b.rlu.charge = some { amount := chargeStep s.part, collecting := false } := by rw [hrlu]
    refine ⟨fun hwithin hcredit => ?_, fun hshort => ?_⟩
    · have hrunning : stepTaken t.heldStart t.heldBand s.part = begun := if_pos hwithin
      obtain ⟨u, hcharged, hwork⟩ := gateTurns_charged (2 * q.rlu.banked + 17) hbegun.gate hcharge'
        (by rewrite [hrlu]; exact hcredit) (.inl hbegun.call) (by rewrite [hrtu, hrunning]; exact nofun)
      rewrite [hwork] at hexec
      have hcc := hcharged.cc
      have hrtu' : u.rtu = { s.part.rtu with timing := begun } := hcharged.rtu.trans (by rw [hrtu, hrunning])
      have hsteps : chargeStep u = chargeStep s.part := by
        rw [chargeStep, chargeStep, hrtu']
      refine ⟨_, hexec, hrtu', hcharged.rlu.trans (by rw [hrlu]), ?_, rfl, ?_, ?_, ?_,
        hcharged.mem.trans (hbegun.mem.trans hcollected.mem)⟩
      · show u.cc.call = _
        rw [hcc]
      · show u.cc.steps = _
        rw [hcc, hbegun.steps, hcollected.cc]
      · show u.cc.charged = _
        rw [hcc, hbegun.charged, hcollected.cc]
      · show u.cc.low = decide (creditOnHand u < chargeStep s.part)
        rw [hcharged.low (by rewrite [hrtu, hrunning]; exact nofun), hsteps]
    · have hgrace := gateTurns_short (2 * q.rlu.banked + 17) hbegun.gate hcharge'
        (by rewrite [railValue, hrlu]; exact hshort) hbegun.call
      generalize gateTurns (2 * q.rlu.banked + 17 + 2) b = u at hexec hgrace
      have hcc := hgrace.cc
      have hrtu' := hgrace.rtu.trans hrtu
      have hsteps : chargeStep u = chargeStep s.part := by rw [chargeStep, chargeStep, hrtu']
      have htime : graceTime b = graceTime s.part := by rw [graceTime, graceTime, hrtu]
      have hcharging : (stepTaken t.heldStart t.heldBand s.part).state ≠ .idle := by
        unfold stepTaken
        split
        · exact nofun
        · split <;> exact nofun
      refine ⟨_, hexec, hgrace.rlu.trans (by rw [hrlu]), hrtu', ?_, ?_, ?_, ?_, ?_, ?_, ?_,
        hgrace.mem.trans (hbegun.mem.trans hcollected.mem)⟩
      · rw [hcc]
      · rewrite [hcc]
        exact hbegun.paid
      · rw [hcc]
      · rw [hcc, htime, hbegun.tick, hcollected.tick]
      · rewrite [hcc]
        exact hbegun.steps.trans (by rw [hcollected.cc])
      · rewrite [hcc]
        exact hbegun.charged.trans (by rw [hcollected.cc])
      · rw [hgrace.low (by rewrite [hrtu]; exact hcharging), hsteps]

end Sys2Proof.Machine
end

section
/-!
PROOFS. The events that end a customer's call (R104, R105, R113, R117, R122, R126, R127, R141, R142, R179): at once, or
in ENDING while a charge is in flight.
-/

namespace Sys2Proof.Machine

/-! ## RELEASE (R179) -/

set_option Elab.async false in
theorem isAnswered_placed {c : PlacedCall} {p : Part} (h : p.cc.placed = some c) : isAnswered p = c.answer.isSome := by
  rewrite [isAnswered, h]
  rfl

theorem exec_release {b : Bases} {s : State} (hready : HostReady b s.part) (hfree : s.part.bpu.inFlight = none) :
    exec .release s = .next { s with part := releaseCall (mailboxTaken b 2 s.part) } :=
  onPart_commandWrite hready hfree 2

theorem releaseCall_placed {c : PlacedCall} {p : Part} (h : callHeld c p) :
    releaseCall p = gateWork (endCall (if c.answer.isSome then .released else .abandoned) p) := by
  rw [releaseCall, if_pos (isPlaced_of_callHeld h), isAnswered_placed h.1]

theorem releaseCall_refused {p : Part} (h : p.cc.call = .idle ∨ p.cc.call = .collecting ∨ p.cc.call = .rating
    ∨ p.cc.call = .ending) : releaseCall p = resulted .notAllowed p := by
  have hunplaced : isPlaced p = false := by
    unfold isPlaced
    rcases h with h | h | h | h <;> rw [h] <;> rfl
  rewrite [releaseCall, if_neg (by rewrite [hunplaced]; decide)]
  rfl

theorem callsEnd_release (s : State) (c : PlacedCall) (b : Bases) (hready : HostReady b s.part)
    (hfree : s.part.bpu.inFlight = none) :
    (callStands c s.part → ∃ t, exec .release s = .next t ∧ t.part.bpu.result = .done
      ∧ callEnded (if c.answer.isSome then .released else .abandoned) c (mailboxTaken b 2 s.part) t.part)
    ∧ (callHeld c s.part → chargeInFlight s.part → ∃ t, exec .release s = .next t
      ∧ callEnding (if c.answer.isSome then .released else .abandoned) c (mailboxTaken b 2 s.part) t.part
      ∧ t.part.bpu.result = .pending ∧ t.part.bpu.inFlight = some 2 ∧ t.part.lu = s.part.lu
      ∧ t.part.rlu = s.part.rlu)
    ∧ (s.part.cc.call = .idle ∨ s.part.cc.call = .collecting ∨ s.part.cc.call = .rating
        ∨ s.part.cc.call = .ending →
      exec .release s = .next { s with part := resulted .notAllowed (mailboxTaken b 2 s.part) }) := by
  rewrite [exec_release hready hfree]
  refine ⟨fun hstands => ?_, fun hheld hflight => ?_, fun hcall => ?_⟩
  · rewrite [releaseCall_placed (c := c) (by exact hstands.1)]
    obtain ⟨hended, halone⟩ := endCall_atOnce (o := if c.answer.isSome then .released else .abandoned)
      (p := mailboxTaken b 2 s.part) (by exact hstands)
    exact ⟨_, rfl, halone.released rfl rfl, hended⟩
  · rewrite [releaseCall_placed (c := c) (by exact hheld), gateWork_ending (c := c) (by exact hheld) (by exact hflight)]
    obtain ⟨hending, hrlu, hlu, hresult, hinFlight⟩ := endCall_inFlight
      (o := if c.answer.isSome then .released else .abandoned) (p := mailboxTaken b 2 s.part) (by exact hheld) hflight.1
    exact ⟨_, rfl, hending, hresult, hinFlight, hlu, hrlu⟩
  · rw [releaseCall_refused (by exact hcall)]

/-! ## The grace timer (R104) -/

/-- An ending event empties the grace timer itself. -/
theorem endCall_graceless (o : CallOutcome) (p : Part) : endCall o { p with cc.grace := none } = endCall o p := rfl

theorem exec_graceExpiry {s : State} (hdue : due s.part.cc.grace s.part) (hcall : s.part.cc.call = .grace) :
    exec .graceExpiry s = .next { s with part :=
      (if s.part.rlu.charge.isSome then { s.part with cc.grace := none, cc.graceOver := true }
      else gateWork (endCall .creditExhausted s.part)) } := by
  show onPart (fun p => onExpiry p.cc.grace endGrace p) s = _
  rw [onPart, onExpiry_due hdue, endGrace, if_neg (by exact not_not.2 hcall), endCall_graceless]

theorem callsEnd_grace (s : State) (c : PlacedCall) (hdue : due s.part.cc.grace s.part)
    (hcall : s.part.cc.call = .grace) :
    (callStands c s.part → ∃ t, exec .graceExpiry s = .next t ∧ callEnded .creditExhausted c s.part t.part)
    ∧ (s.part.rlu.charge.isSome = true → exec .graceExpiry s = .next { s with part := { s.part with
        cc.grace := none, cc.graceOver := true } }) := by
  rewrite [exec_graceExpiry hdue hcall]
  refine ⟨fun hstands => ⟨_, rfl, ?_⟩, fun hcharge => ?_⟩
  · rewrite [if_neg (by simp [hstands.2.1])]
    exact (endCall_atOnce hstands).1
  · rw [if_pos hcharge]

/-! ## The line's own endings -/

theorem exec_lateOutcomes (s : State) :
    (due s.part.lu.answerLimit s.part → exec .answerTimeout s = .next { s with part := lineOutcome .noAnswer s.part })
    ∧ (due s.part.lu.clearHold s.part → exec .clearHoldEnd s = .next { s with part := lineOutcome .farClear s.part })
    ∧ (due (lossTimer s.part) s.part → exec .lossTimerExpiry s =
        .next { s with part := lineOutcome .lineLost s.part }) := by
  refine ⟨fun hdue => ?_, fun hdue => ?_, fun hdue => ?_⟩
  · show onPart (fun p => onExpiry p.lu.answerLimit (lineOutcome .noAnswer) p) s = _
    rw [onPart, onExpiry_due hdue]
  · show onPart (fun p => onExpiry p.lu.clearHold (lineOutcome .farClear) p) s = _
    rw [onPart, onExpiry_due hdue]
  · show onPart (fun p => onExpiry (lossTimer p) (lineOutcome .lineLost) p) s = _
    rw [onPart, onExpiry_due hdue]

theorem callsEnd_line (s : State) (c : PlacedCall) (hstands : callStands c s.part)
    (howner : s.part.lu.owner = .customer) :
    (due s.part.lu.loopLimit s.part → ∃ t, exec .loopLimitExpiry s = .next t ∧ callEnded .noLoop c s.part t.part)
    ∧ (due s.part.lu.searchLimit s.part → ∃ t, exec .searchLimitExpiry s = .next t
      ∧ callEnded .noDialtone c s.part t.part)
    ∧ (due s.part.lu.answerLimit s.part → ∃ t, exec .answerTimeout s = .next t ∧ callEnded .noAnswer c s.part t.part)
    ∧ (due s.part.lu.clearHold s.part → ∃ t, exec .clearHoldEnd s = .next t ∧ callEnded .farClear c s.part t.part)
    ∧ (due (lossTimer s.part) s.part → ∃ t, exec .lossTimerExpiry s = .next t
      ∧ callEnded .lineLost c s.part t.part) := by
  have hends (o : LineOutcome) : callEnded (outcomeOf o) c s.part (lineOutcome o s.part) :=
    (lineOutcome_ends hstands howner).1
  obtain ⟨hanswer, hclear, hloss⟩ := exec_lateOutcomes s
  refine ⟨fun hdue => ?_, fun hdue => ?_, fun hdue => ⟨_, hanswer hdue, hends .noAnswer⟩,
    fun hdue => ⟨_, hclear hdue, hends .farClear⟩, fun hdue => ⟨_, hloss hdue, hends .lineLost⟩⟩
  · obtain ⟨o, -, houtcome, hexec⟩ := exec_seizeEnds (s := s) (.inl ⟨rfl, rfl, hdue⟩)
    have hended := hends o
    rewrite [houtcome] at hended
    exact ⟨_, hexec, hended⟩
  · obtain ⟨o, -, houtcome, hexec⟩ := exec_seizeEnds (s := s) (.inr ⟨rfl, rfl, hdue⟩)
    have hended := hends o
    rewrite [houtcome] at hended
    exact ⟨_, hexec, hended⟩

/-- An end of the line after the answer is no failed seize. -/
theorem lineOutcome_late {o : LineOutcome} {p : Part} (h : lateOutcome o = true) (howner : p.lu.owner = .customer) :
    lineOutcome o p = takeLineOutcome o (enterClearing p) := by
  have hnone : failedSeizeDetail o = none := by
    cases o with
    | lineLost => rfl
    | farClear => rfl
    | _ => exact nomatch h
  unfold lineOutcome handOutcome seizeFailure
  rewrite [howner, hnone]
  rfl

/-- With the charge in flight the LU clears the line, and the call is in ENDING (R105, R141). -/
theorem lineOutcome_inFlight {o : LineOutcome} {c : PlacedCall} {p : Part} (h : lateOutcome o = true)
    (hheld : callHeld c p) (hflight : chargeInFlight p) (howner : p.lu.owner = .customer) :
    callEnding (outcomeOf o) c p (lineOutcome o p) ∧ lineCleared p (lineOutcome o p)
    ∧ (lineOutcome o p).rlu = p.rlu := by
  have hcleared : callHeld c (enterClearing p) ∧ chargeInFlight (enterClearing p) := ⟨hheld, hflight⟩
  have hlu := enterClearing_lu p
  rewrite [lineOutcome_late h howner, takeLineOutcome, if_pos (isPlaced_of_callHeld hcleared.1),
    gateWork_ending hcleared.1 hcleared.2]
  obtain ⟨hending, hrlu, hlu', -⟩ := endCall_inFlight (o := outcomeOf o) hcleared.1 hcleared.2.1
  generalize endCall (outcomeOf o) (enterClearing p) = q at *
  refine ⟨hending, ?_, hrlu⟩
  rewrite [lineCleared, hlu', hlu]
  exact ⟨rfl, rfl, rfl, rfl, rfl, rfl⟩

theorem callsEnd_lineInFlight (s : State) (c : PlacedCall) (hheld : callHeld c s.part)
    (hflight : chargeInFlight s.part) (howner : s.part.lu.owner = .customer) :
    (due s.part.lu.clearHold s.part → ∃ t, exec .clearHoldEnd s = .next t
      ∧ callEnding .farClear c s.part t.part ∧ lineCleared s.part t.part ∧ t.part.rlu = s.part.rlu)
    ∧ (due (lossTimer s.part) s.part → ∃ t, exec .lossTimerExpiry s = .next t
      ∧ callEnding .lineLost c s.part t.part ∧ lineCleared s.part t.part ∧ t.part.rlu = s.part.rlu) := by
  obtain ⟨-, hclear, hloss⟩ := exec_lateOutcomes s
  exact ⟨fun hdue => ⟨_, hclear hdue, lineOutcome_inFlight (o := .farClear) rfl hheld hflight howner⟩,
    fun hdue => ⟨_, hloss hdue, lineOutcome_inFlight (o := .lineLost) rfl hheld hflight howner⟩⟩

end Sys2Proof.Machine
end

section
/-!
PROOFS. The answer of a call that is charged (R97, R101, R102): step 1 begins, and its charge is taken from banked
credit, collected, or short.
-/

namespace Sys2Proof.Machine

/-! ## Step 1 -/

/-- The timing as step 1 begins at the answer (R97, R99). -/
def answerTiming (p : Part) : Timing :=
  if rateOf (bandNow p) p = 0 then
    { p.rtu.timing with state := .waiting, index := 1, band := bandNow p, start := p.tick, finish := p.tick, carry := 0 }
  else
    { p.rtu.timing with
      state := .running, index := 1, band := bandNow p, start := p.tick
      finish := p.tick + BitVec.ofNat 32 (stepDuration (chargeStep p) (rateOf (bandNow p) p) 0).1
      carry := (stepDuration (chargeStep p) (rateOf (bandNow p) p) 0).2 }

set_option Elab.async false in
theorem beginAnswerStep_frame (p : Part) : beginAnswerStep p = { p with
    rtu.timing := answerTiming p
    rlu.charge := some { amount := connectionCharge p + chargeStep p, collecting := false }
    cc.paid := false
    bpu.dirty := insertGroup (.status 2) p.bpu.dirty } := by
  unfold beginAnswerStep answerTiming
  dsimp only
  split <;> rfl

theorem answerTiming_charging (p : Part) : (answerTiming p).state ≠ .idle ∧ (answerTiming p).state ≠ .held := by
  unfold answerTiming
  split <;> exact ⟨nofun, nofun⟩

theorem takeAnswered_charged {p : Part} {c : PlacedCall} (hplaced : p.cc.placed = some c) (hcharged : c.cls ≠ .freeClass) :
    takeAnswered p = gateWork (beginAnswerStep (setCall .talking { p with
      cc.placed := some { c with answer := some { tick := p.tick, band := bandNow p } } })) := by
  unfold takeAnswered
  rewrite [hplaced]
  exact if_neg hcharged

/-- The charge from the answer, over step 1 (R101). -/
def answerCharge (p : Part) : Nat := connectionCharge p + chargeStep p

/-- Step 1 has begun at the answer, and its charge waits at HOLD. -/
structure AnswerBegun (c : PlacedCall) (p b : Part) : Prop where
  rlu : b.rlu = { p.rlu with charge := some { amount := answerCharge p, collecting := false } }
  rtu : b.rtu = { p.rtu with timing := answerTiming p }
  cc : b.cc = { p.cc with
    call := .talking, paid := false
    placed := some { c with answer := some { tick := p.tick, band := bandNow p } } }
  line : b.lu.line = .connected
  cau : b.cau = p.cau
  cause : b.bpu.causes.getLsbD 2 = p.bpu.causes.getLsbD 2
  tick : b.tick = p.tick

theorem answerCall_begun {p : Part} {c : PlacedCall} (hplaced : p.cc.placed = some c) (hcharged : c.cls ≠ .freeClass)
    (howner : p.lu.owner = .customer) : ∃ b, answerCall p = gateWork b ∧ AnswerBegun c p b := by
  obtain ⟨r, hr⟩ : ∃ r, r = { lineAnswered p with
    cc.placed := some { c with answer := some { tick := p.tick, band := bandNow p } } } := ⟨_, rfl⟩
  refine ⟨beginAnswerStep (setCall .talking r), ?_, ?_⟩
  · rewrite [hr, answerCall_customer howner, takeAnswered_charged (p := lineAnswered p) (by exact hplaced) hcharged]
    rfl
  have hset := setCall_frame .talking r
  have hbit := (setCall_moneyKept .talking r).low
  have hrcc : r.cc = { p.cc with
      placed := some { c with answer := some { tick := p.tick, band := bandNow p } } } := by rewrite [hr]; rfl
  have hrest : r.rlu = p.rlu ∧ r.rtu = p.rtu ∧ r.cau = p.cau ∧ r.tick = p.tick ∧ r.lu.line = .connected
      ∧ r.bpu.causes = p.bpu.causes := by
    rewrite [hr]
    exact ⟨rfl, rfl, rfl, rfl, rfl, rfl⟩
  clear hr
  obtain ⟨hrlu, hrtu, hcau, htick, hline, hcauses⟩ := hrest
  have hq : (setCall .talking r).cc = { p.cc with
        call := .talking, placed := some { c with answer := some { tick := p.tick, band := bandNow p } } }
      ∧ (setCall .talking r).rlu = p.rlu ∧ (setCall .talking r).rtu = p.rtu ∧ (setCall .talking r).cau = p.cau
      ∧ (setCall .talking r).tick = p.tick ∧ (setCall .talking r).lu.line = .connected := by
    rewrite [hset]
    exact ⟨by rw [hrcc], hrlu, hrtu, hcau, htick, hline⟩
  rewrite [hcauses] at hbit
  clear hset hrcc hrlu hrtu hcau htick hline hcauses
  generalize setCall .talking r = q at *
  obtain ⟨hcc, hrlu, hrtu, hcau, htick, hline⟩ := hq
  have hentry : q.cc.placed.bind (·.entry) = p.cc.placed.bind (·.entry) := by rewrite [hcc, hplaced]; rfl
  have hcopy : callCopy q = callCopy p := by rw [callCopy, callCopy, hentry, hrtu]
  have hband : bandNow q = bandNow p := by rw [bandNow, bandNow, hrtu]
  have hstep : chargeStep q = chargeStep p := chargeStep_congr hrtu
  have hrate : rateOf (bandNow p) q = rateOf (bandNow p) p := by rw [rateOf, rateOf, hcopy]
  have htiming : answerTiming q = answerTiming p := by
    rw [answerTiming, answerTiming, hband, hrate, hstep, hrtu, htick]
  have hamount : connectionCharge q + chargeStep q = answerCharge p := by
    rw [answerCharge, connectionCharge, connectionCharge, hcopy, hstep]
  rewrite [beginAnswerStep_frame, hamount, htiming]
  constructor
  case rlu =>
    dsimp only
    rw [hrlu]
  case rtu =>
    dsimp only
    rw [hrtu]
  case cc =>
    dsimp only
    rw [hcc]
  case line => exact hline
  case cau => exact hcau
  case cause => exact hbit
  case tick => exact htick

theorem AnswerBegun.open {c : PlacedCall} {p b : Part} (h : AnswerBegun c p b) (hopen : GateOpen p) : GateOpen b :=
  hopen.congr (by rw [h.rlu]) (by rw [h.rlu]) (by rw [h.rlu]) (by rw [h.rlu])

/-! ## The three answers to the first charge (R28, R102) -/

theorem gateTurns_collects {a : Nat} {p : Part} (n : Nat) (h : GateOpen p)
    (hc : p.rlu.charge = some { amount := a, collecting := false }) (hbanked : p.rlu.banked < a)
    (ha : a ≤ p.rlu.banked + railValue p) : gateTurns (n + 2) p =
      beginCycle .vaulting { p with rlu.charge := some { amount := a, collecting := true } } := by
  rewrite [gateTurns_more (gateTurn_takesUp h hc), takeUpCharge_collects hbanked ha]
  exact gateTurns_last (gateTurn_collectsOn (by exact h.dump) (by exact h.gate) rfl (by exact hbanked))

theorem answer_paid {c : PlacedCall} {p b : Part} (h : AnswerBegun c p b) (hopen : GateOpen p)
    (ha : answerCharge p ≤ p.rlu.banked) : ∃ q, ChargeTaken (answerCharge p) b q
      ∧ gateWork b = { q with cc.paid := true } := by
  obtain ⟨hidle, hheld⟩ := answerTiming_charging p
  exact gateTurns_charged _ (h.open hopen) (by rw [h.rlu]) (by rewrite [h.rlu]; exact ha) (.inl (by rw [h.cc]))
    (by rewrite [h.rtu]; exact hheld)

theorem answer_short {c : PlacedCall} {p b : Part} (h : AnswerBegun c p b) (hopen : GateOpen p)
    (ha : p.rlu.banked + railValue p < answerCharge p) : GraceBegun (answerCharge p) b (gateWork b) :=
  gateTurns_short _ (h.open hopen) (by rw [h.rlu]) (by rewrite [railValue, h.rlu]; exact ha) (by rw [h.cc])

theorem answer_collects {c : PlacedCall} {p b : Part} (h : AnswerBegun c p b) (hopen : GateOpen p)
    (hbanked : p.rlu.banked < answerCharge p) (ha : answerCharge p ≤ p.rlu.banked + railValue p) :
    gateWork b =
      beginCycle .vaulting { b with rlu.charge := some { amount := answerCharge p, collecting := true } } :=
  gateTurns_collects _ (h.open hopen) (by rw [h.rlu]) (by rewrite [h.rlu]; exact hbanked)
    (by rewrite [railValue, h.rlu]; exact ha)

theorem callsEnd_answered (s : State) (c : PlacedCall) (hplaced : s.part.cc.placed = some c)
    (hdump : s.part.rlu.dump = .ended) (hrefund : s.part.rlu.refund = none)
    (hpending : s.part.rlu.pendingRefund = false) (hcharge : s.part.rlu.charge = none)
    (hgate : s.part.rlu.gate = .hold) (howner : s.part.lu.owner = .customer) (hcharged : c.cls ≠ .freeClass) :
    let band := bandNow s.part
    let rate := rateOf band s.part
    let a := connectionCharge s.part + chargeStep s.part
    let d := stepDuration (chargeStep s.part) rate 0
    ∃ t, (due s.part.lu.reversalHold s.part → exec .reversalHoldEnd s = .next t)
      ∧ (due (timedSilence s.part) s.part → exec .timedAnswerExpiry s = .next t)
      ∧ t.part.lu.line = .connected
      ∧ t.part.cc.placed = some { c with answer := some { tick := s.part.tick, band } }
      ∧ t.part.rtu.timing = (if rate = 0 then
          { s.part.rtu.timing with state := .waiting, index := 1, band, start := s.part.tick
                                   finish := s.part.tick, carry := 0 }
        else
          { s.part.rtu.timing with state := .running, index := 1, band, start := s.part.tick
                                   finish := s.part.tick + BitVec.ofNat 32 d.1, carry := d.2 })
      ∧ (a ≤ s.part.rlu.banked → t.part.cc.call = .talking
        ∧ stepPaid a s.part t.part ∧ creditExamined s.part.cc.low s.part t.part
        ∧ t.part.rlu = { s.part.rlu with banked := s.part.rlu.banked - a }
        ∧ t.part.cau.money = { s.part.cau.money with
            charged := s.part.cau.money.charged + BitVec.ofNat 32 a
            banked := s.part.cau.money.banked - a })
      ∧ (s.part.rlu.banked + railValue s.part < a → graceEntered a s.part t.part ∧ t.part.cc.paid = false
        ∧ creditExamined s.part.cc.low s.part t.part ∧ t.part.rlu = s.part.rlu ∧ t.part.cau = s.part.cau)
      ∧ (s.part.rlu.banked < a → a ≤ s.part.rlu.banked + railValue s.part → t.part.cc.call = .talking
        ∧ t.part.cc.paid = false ∧ t.part.cau = s.part.cau ∧ t.part.rlu = { s.part.rlu with
            charge := some { amount := a, collecting := true }, gate := .vaulting
            cycle := some { start := s.part.tick, limit := 400 } }) := by
  intro band rate a d
  obtain ⟨b, hanswer, hbegun⟩ := answerCall_begun hplaced hcharged howner
  have hopen : GateOpen s.part := ⟨hdump, hgate, hrefund, hpending⟩
  have hidle := (answerTiming_charging s.part).1
  obtain ⟨hreversal, htimed⟩ := exec_answers hanswer
  have hnone : s.part.rlu = { s.part.rlu with charge := none } := by rw [← hcharge]
  by_cases hcovered : answerCharge s.part ≤ s.part.rlu.banked
  · obtain ⟨q, htaken, hwork⟩ := answer_paid hbegun hopen hcovered
    rewrite [hwork] at hreversal htimed
    refine ⟨_, hreversal, htimed, ?_, ?_, ?_, fun _ => ⟨?_, ⟨rfl, ?_, ?_⟩, ?_, ?_, ?_⟩, fun hshort => ?_, fun hless _ => ?_⟩
    · show q.lu.line = _
      rw [htaken.lu, hbegun.line]
    · show q.cc.placed = _
      rw [htaken.cc, hbegun.cc]
    · show q.rtu.timing = _
      rewrite [htaken.rtu, hbegun.rtu]
      rfl
    · show q.cc.call = _
      rw [htaken.cc]
    · show q.cc.steps = _
      rw [htaken.cc, hbegun.cc]
    · show q.cc.charged = _
      rewrite [htaken.cc, hbegun.cc]
      rfl
    · exact htaken.examined (by rewrite [hbegun.rtu]; exact hidle) (by rw [hbegun.cc]) hbegun.cause
    · show q.rlu = _
      rewrite [htaken.rlu, hbegun.rlu]
      exact congrArg (fun x : Rlu => { x with banked := s.part.rlu.banked - a }) hnone.symm
    · show q.cau.money = _
      rewrite [htaken.money, hbegun.cau]
      rfl
    · exact absurd hshort (not_lt.2 (hcovered.trans (Nat.le_add_right _ _)))
    · exact absurd hless (not_lt.2 hcovered)
  · by_cases hshort : s.part.rlu.banked + railValue s.part < answerCharge s.part
    · have hgrace := answer_short hbegun hopen hshort
      generalize gateWork b = q at *
      refine ⟨_, hreversal, htimed, ?_, ?_, ?_, fun h => absurd h hcovered,
        fun _ => ⟨⟨?_, ?_, ?_, ?_, ?_, ?_, ?_⟩, ?_, ⟨hgrace.low ?_, fun hne => hgrace.credit ?_, ?_⟩, ?_, ?_⟩,
        fun _ hless => absurd hshort (not_lt.2 hless)⟩
      · show q.lu.line = _
        rw [hgrace.lu, hbegun.line]
      · show q.cc.placed = _
        rw [hgrace.cc, hbegun.cc]
      · show q.rtu.timing = _
        rewrite [hgrace.rtu, hbegun.rtu]
        rfl
      · show q.cc.call = _
        rw [hgrace.cc]
      · show q.cc.grace = _
        rewrite [hgrace.cc, hbegun.tick, graceTime, hbegun.rtu]
        rfl
      · show q.cc.owed = _
        rewrite [hgrace.cc]
        rfl
      · show q.cc.graceOver = _
        rw [hgrace.cc]
      · show q.cc.noted = _
        rw [hgrace.cc]
      · show q.cc.steps = _
        rw [hgrace.cc, hbegun.cc]
      · show q.cc.charged = _
        rw [hgrace.cc, hbegun.cc]
      · show q.cc.paid = _
        rw [hgrace.cc, hbegun.cc]
      · rewrite [hbegun.rtu]
        exact hidle
      · rewrite [hbegun.cc]
        exact hne
      · rw [hgrace.cause, hbegun.cause, hbegun.cc]
      · rewrite [hgrace.rlu, hbegun.rlu]
        exact hnone.symm
      · rw [hgrace.cau, hbegun.cau]
    · have hcollects := answer_collects hbegun hopen (not_le.1 hcovered) (not_lt.1 hshort)
      obtain ⟨r, hr⟩ : ∃ r, r = { b with rlu.charge := some { amount := answerCharge s.part, collecting := true } } :=
        ⟨_, rfl⟩
      rewrite [← hr] at hcollects
      have hcycle := beginCycle_taken .vaulting r
      have hcau : (beginCycle .vaulting r).cau = r.cau := railChange_cau _ _
      rewrite [hcollects] at hreversal htimed
      have hrcc : r.cc = b.cc := by rw [hr]
      have hrlu : r.rlu = { b.rlu with charge := some { amount := answerCharge s.part, collecting := true } } := by rw [hr]
      have hrest : r.rtu = b.rtu ∧ r.lu = b.lu ∧ r.cau = b.cau ∧ r.tick = b.tick := by
        rewrite [hr]
        exact ⟨rfl, rfl, rfl, rfl⟩
      clear hr
      obtain ⟨hrtu, hlu, hrcau, htick⟩ := hrest
      generalize beginCycle .vaulting r = q at *
      refine ⟨_, hreversal, htimed, ?_, ?_, ?_, fun h => absurd h hcovered, fun h => absurd h hshort,
        fun _ _ => ⟨?_, ?_, ?_, ?_⟩⟩
      · show q.lu.line = _
        rw [hcycle.lu, hlu, hbegun.line]
      · show q.cc.placed = _
        rw [hcycle.cc, hrcc, hbegun.cc]
      · show q.rtu.timing = _
        rewrite [hcycle.rtu, hrtu, hbegun.rtu]
        rfl
      · show q.cc.call = _
        rw [hcycle.cc, hrcc, hbegun.cc]
      · show q.cc.paid = _
        rw [hcycle.cc, hrcc, hbegun.cc]
      · rw [hcau, hrcau, hbegun.cau]
      · rewrite [hcycle.rlu, hrlu, hbegun.rlu, htick, hbegun.tick]
        rfl

end Sys2Proof.Machine
end

section
/-!
PROOFS. The answers that a collect gives to the charge of a standing call (R24, R29, R30, R103, R104, R106): the coin
that covers it, and the coin that is lost.
-/

namespace Sys2Proof.Machine

/-! ## The coin that covers the charge -/

set_option Elab.async false in
/-- The credit on hand is banked credit and the rail where no refund is owed. -/
theorem creditOnHand_unowed {p : Part} (hdump : p.rlu.dump = .ended) (hrefund : p.rlu.refund = none)
    (hpending : p.rlu.pendingRefund = false) : creditOnHand p = p.rlu.banked + railValue p := by
  rewrite [creditOnHand, owedCount, if_pos hdump, if_neg (by simp [hpending]), hrefund]
  rfl

theorem railValue_cons {p : Part} {c : Coin} {rest : List Coin} (h : p.rlu.rail = c :: rest) :
    railValue p = c.value + sumValues rest := by
  rewrite [railValue, h]
  rfl

/-- A collect moves value from the rail to banked credit: the credit on hand stays. -/
theorem CoinCollected.creditOnHand_eq {c : Coin} {rest : List Coin} {p q : Part} (h : CoinCollected c rest p q)
    (hdump : p.rlu.dump = .ended) (hrefund : p.rlu.refund = none) (hpending : p.rlu.pendingRefund = false)
    (hrail : p.rlu.rail = c :: rest) : creditOnHand q = p.rlu.banked + railValue p := by
  have hvalue : railValue q = sumValues rest := by rw [railValue, h.rlu]
  rw [creditOnHand_unowed (by rw [h.rlu, hdump]) (by rw [h.rlu, hrefund]) (by rw [h.rlu, hpending]), hvalue,
    railValue_cons hrail, h.rlu, Nat.add_assoc]

theorem callsEnd_collected (s : State) (hdump : s.part.rlu.dump = .ended) (hrefund : s.part.rlu.refund = none)
    (hpending : s.part.rlu.pendingRefund = false) (hwaits : s.part.rlu.clearWaits = false) (a : Nat) (coin : Coin)
    (rest : List Coin) (hcharge : s.part.rlu.charge = some { amount := a, collecting := true })
    (hgate : s.part.rlu.gate = .vaulting) (hrail : s.part.rlu.rail = coin :: rest)
    (ha : a ≤ s.part.rlu.banked + coin.value) (hcall : s.part.cc.call = .talking ∨ s.part.cc.call = .grace)
    (hheld : s.part.rtu.timing.state ≠ .held) :
    ∃ t, exec .vaultConfirm s = .next t ∧ t.part.cc.call = .talking
      ∧ t.part.cc.grace = (if s.part.cc.call = .grace then none else s.part.cc.grace)
      ∧ stepPaid a s.part t.part ∧ t.part.rtu = s.part.rtu
      ∧ (s.part.rtu.timing.state ≠ .idle → creditExamined (s.part.cc.low
          && decide (s.part.rlu.banked + railValue s.part < chargeStep s.part)) s.part t.part)
      ∧ (s.part.rtu.timing.state = .idle → t.part.cc.low = s.part.cc.low)
      ∧ t.part.rlu = { s.part.rlu with
          rail := rest, banked := s.part.rlu.banked + coin.value - a, charge := none, gate := .hold
          cycle := none }
      ∧ t.part.cau.money = { s.part.cau.money with
          collected := s.part.cau.money.collected + BitVec.ofNat 32 coin.value
          charged := s.part.cau.money.charged + BitVec.ofNat 32 a
          banked := s.part.cau.money.banked + coin.value - a
          vaultValue := s.part.cau.money.vaultValue + BitVec.ofNat 32 coin.value
          vaultCount := s.part.cau.money.vaultCount + 1
          railTypes := s.part.cau.money.railTypes.drop 1
          railCount := s.part.cau.money.railCount - 1 } := by
  obtain ⟨q, hexec, hcollected, -⟩ := exec_vaultConfirm hgate hrail hwaits
  have hhand := hcollected.creditOnHand_eq hdump hrefund hpending hrail
  have hlow : q.cc.low = (s.part.cc.low && (s.part.rtu.timing.state == .idle
      || decide (s.part.rlu.banked + railValue s.part < chargeStep s.part))) := by
    rewrite [hcollected.cc]
    show lowKept s.part q = _
    rw [lowKept, hhand, chargeStep_congr hcollected.rtu]
  have hcall' : q.cc.call = s.part.cc.call := by rw [hcollected.cc]
  obtain ⟨u, htaken, hdeduct⟩ := deduct_reports (a := a) (p := q) (by rewrite [hcall']; exact hcall)
  rewrite [reportPaid_unheld (by rewrite [htaken.rtu, hcollected.rtu]; exact hheld)] at hdeduct
  have hturn := gateTurn_covers (a := a) (p := q) (by rw [hcollected.rlu, hdump]) (by rw [hcollected.rlu])
    (by rw [hcollected.rlu, hcharge]) (by rewrite [hcollected.rlu]; exact ha)
  have hrlu := htaken.rlu
  rewrite [hcollected.rlu] at hrlu
  have hrests : gateRests u := by
    rewrite [gateRests, hrlu]
    exact ⟨rfl, hrefund, hpending⟩
  rewrite [gateWork_turns, gateTurns_more hturn, hdeduct, gateTurns_last (gateTurn_still (.inl (by exact hrests)))] at hexec
  refine ⟨_, hexec, ?_, ?_, ⟨rfl, ?_, ?_⟩, htaken.rtu.trans hcollected.rtu, fun hstate => ?_, fun hidle => ?_, hrlu, ?_⟩
  · show u.cc.call = _
    rw [htaken.cc]
  · show u.cc.grace = _
    rw [htaken.cc, hcollected.cc]
  · show u.cc.steps = _
    rw [htaken.cc, hcollected.cc]
  · show u.cc.charged = _
    rw [htaken.cc, hcollected.cc]
  · refine htaken.examined (by rewrite [hcollected.rtu]; exact hstate) ?_ hcollected.cause
    rw [hlow, beq_false_of_ne hstate, Bool.false_or]
  · show u.cc.low = _
    rewrite [htaken.cc]
    show (if q.rtu.timing.state = .idle then q.cc.low else _) = _
    rewrite [hcollected.rtu, if_pos hidle, hlow, hidle]
    exact Bool.and_true _
  · show u.cau.money = _
    rw [htaken.money, hcollected.money]

/-! ## The coin that is lost (R24) -/

/-- The head coin of a collect is lost: the gate is in FAULT, the value is suspense, and COIN_JAM stands. -/
structure CoinLost (c : Coin) (rest : List Coin) (p q : Part) : Prop where
  rlu : q.rlu = { p.rlu with rail := rest, gate := .fault, cycle := none }
  money : q.cau.money = { p.cau.money with
    suspense := p.cau.money.suspense + BitVec.ofNat 32 c.value
    railTypes := p.cau.money.railTypes.drop 1
    railCount := p.cau.money.railCount - 1 }
  calls : q.cau.calls = p.cau.calls
  load : q.cau.load = p.cau.load
  cc : q.cc = { p.cc with low := lowKept p q }
  cause : q.bpu.causes.getLsbD 2 = p.bpu.causes.getLsbD 2
  credit : Group.status 1 ∈ q.bpu.dirty
  rtu : q.rtu = p.rtu
  lu : p.lu.line ≠ .idle → q.lu = p.lu
  owner : p.lu.owner = .customer → p.lu.line ≠ .idle → q.lu.owner = .customer
  rows : q.cru.rows = (raise .coinJam (10 + c.type) p).cru.rows
  mem : q.mem = p.mem
  tick : q.tick = p.tick
  result : q.bpu.result = p.bpu.result
  inFlight : q.bpu.inFlight = p.bpu.inFlight

theorem coinJam_lost {c : Coin} {rest : List Coin} {p : Part} (hrail : p.rlu.rail = c :: rest) :
    CoinLost c rest p (raise .coinJam (10 + c.type) (railChange loseHead p)) := by
  have htaken := railChange_taken (loseHead_booking hrail)
  generalize railChange loseHead p = q at *
  have hkept := raise_kept .coinJam (10 + c.type) q
  have hlu : p.lu.line ≠ .idle → (raise .coinJam (10 + c.type) q).lu = p.lu := fun hline =>
    (hkept.lu (by rewrite [htaken.lu]; exact hline)).trans htaken.lu
  constructor
  case rlu => exact (raise_rlu ..).trans htaken.rlu
  case money => rewrite [raise_cau]; exact htaken.money
  case calls => rewrite [raise_cau]; exact htaken.calls
  case load => rewrite [raise_cau]; exact htaken.load
  case cc => rw [raise_cc, htaken.cc, lowKept_congr rfl rfl (raise_rlu .coinJam (10 + c.type) q) (raise_rtu ..)]
  case cause => exact hkept.low.trans htaken.cause
  case credit => exact (raise_publishes ..).dirty _ htaken.credit
  case rtu => exact (raise_rtu ..).trans htaken.rtu
  case lu => exact hlu
  case owner => exact fun howner hline => by rw [hlu hline, howner]
  case rows => exact raise_rows_congr htaken.cru (by rw [htaken.rtu]) _ _
  case mem => exact (raise_mem ..).trans htaken.mem
  case tick => exact (raise_tick ..).trans htaken.tick
  case result => exact (inner_result (raise_inner ..)).trans htaken.result
  case inFlight => exact (inner_inFlight (raise_inner ..)).trans htaken.inFlight

/-- In FAULT a charge that banked credit does not cover is answered SHORT (R30). -/
theorem gateTurn_faultShort {a : Nat} {b : Bool} {p : Part} (hd : p.rlu.dump = .ended) (hg : p.rlu.gate = .fault)
    (hc : p.rlu.charge = some { amount := a, collecting := b }) (ha : p.rlu.banked < a) :
    gateTurn p = (answerShort a p, true) := by
  unfold gateTurn
  rewrite [if_neg (not_not.2 hd), hg, hc]
  dsimp only
  rw [if_neg (by omega)]

/-- The limit of a collect without its confirm: the coin is lost, and the charge is answered SHORT. -/
theorem exec_confirmLimit_short {s : State} {a : Nat} {c : Coin} {rest : List Coin} (hdue : due s.part.rlu.cycle s.part)
    (hdump : s.part.rlu.dump = .ended) (hgate : s.part.rlu.gate = .vaulting) (hrail : s.part.rlu.rail = c :: rest)
    (hcharge : s.part.rlu.charge = some { amount := a, collecting := true }) (ha : s.part.rlu.banked < a) :
    ∃ q, CoinLost c rest s.part q
      ∧ exec .confirmLimitExpiry s =
        .next { s with part := gateTurns (2 * q.rlu.banked + 17 + 2) (answerShort a q) } := by
  have hlost := coinJam_lost hrail
  have hexec : exec .confirmLimitExpiry s =
      .next { s with part := gateWork (raise .coinJam (10 + c.type) (railChange loseHead s.part)) } := by
    show onPart (fun p => onExpiry p.rlu.cycle confirmMissing p) s = _
    rw [onPart, onExpiry_due hdue, confirmMissing, hgate, headType_cons hrail]
  generalize raise .coinJam (10 + c.type) (railChange loseHead s.part) = q at *
  refine ⟨q, hlost, ?_⟩
  rw [hexec, gateWork_turns, gateTurns_more (gateTurn_faultShort (by rw [hlost.rlu, hdump]) (by rw [hlost.rlu])
    (by rw [hlost.rlu, hcharge]) (by rewrite [hlost.rlu]; exact ha))]

/-- The flag that a loss may clear is judged again at the answer: together they judge once. -/
theorem shortExamined_cause {low now idle : Bool} (hidle : idle = false) :
    (now && !(low && (idle || now))) = (now && !low) := by
  subst hidle
  cases low <;> cases now <;> rfl

/-- A flag that a change may have cleared is examined at the answer to it (R106). -/
theorem creditExamined_after {p q t : Part} (hkept : q.cc.low = lowKept p q)
    (hqcause : q.bpu.causes.getLsbD 2 = p.bpu.causes.getLsbD 2) (hcredit : Group.status 1 ∈ q.bpu.dirty)
    (hstate : p.rtu.timing.state ≠ .idle) (hlow : t.cc.low = decide (creditOnHand t < chargeStep t))
    (hrlu : creditOnHand t = creditOnHand q) (hrtu : t.rtu = q.rtu)
    (hcause : t.bpu.causes.getLsbD 2 = (q.bpu.causes.getLsbD 2 || (t.cc.low && !q.cc.low)))
    (hpublishes : Publishes q t) : creditExamined p.cc.low p t := by
  refine ⟨hlow, fun _ => hpublishes.dirty _ hcredit, ?_⟩
  rewrite [lowKept, ← hrlu, ← chargeStep_congr hrtu, ← hlow] at hkept
  rw [hcause, hqcause, hkept, shortExamined_cause (beq_false_of_ne hstate)]

/-! ## SHORT in GRACE (R103, R104) -/

/-- SHORT in GRACE answers the charge and examines the credit. -/
def shortTaken (p : Part) : Part := examineCredit { p with rlu.charge := none }

theorem shortTaken_cc (p : Part) : (shortTaken p).cc = { p.cc with low := lowExamined { p with rlu.charge := none } } :=
  examineCredit_cc _

theorem shortTaken_cause (p : Part) : (shortTaken p).bpu.causes.getLsbD 2 =
    (p.bpu.causes.getLsbD 2 || ((shortTaken p).cc.low && !p.cc.low)) :=
  examineCredit_cause _

theorem shortTaken_kept (p : Part) : (shortTaken p).rlu = { p.rlu with charge := none } ∧ (shortTaken p).rtu = p.rtu
    ∧ (shortTaken p).cau = p.cau ∧ (shortTaken p).cru = p.cru ∧ (shortTaken p).mem = p.mem
    ∧ (shortTaken p).tick = p.tick := by
  simp [shortTaken]

theorem shortTaken_publishes (p : Part) : Publishes p (shortTaken p) :=
  (examineCredit_publishes { p with rlu.charge := none }).after rfl

theorem answerShort_grace {a : Nat} {p : Part} (hcall : p.cc.call = .grace) (hnoted : p.cc.noted = false) :
    answerShort a p =
      if p.cc.graceOver = true then endCall .creditExhausted (shortTaken p) else shortTaken p := by
  have hcc := shortTaken_cc p
  have hover : (shortTaken p).cc.graceOver = p.cc.graceOver := by rw [hcc]
  have hnoted' : (shortTaken p).cc.noted = false := by rewrite [hcc]; exact hnoted
  have hanswer : answerShort a p = if (shortTaken p).cc.graceOver then endCall .creditExhausted (shortTaken p)
      else if (shortTaken p).cc.noted then
        sendCharge (shortTaken p).cc.owed { shortTaken p with cc.noted := false }
      else shortTaken p := by
    unfold answerShort shortTaken
    dsimp only
    rw [hcall]
  rw [hanswer, hover, hnoted', if_neg (c := false = true) (by decide)]

/-- The gate and the money, which an ending that settles nothing leaves alone. -/
def purseView (p : Part) := (p.rlu, p.cau.money)

theorem setCall_purse (c : CallState) (p : Part) : purseView (setCall c p) = purseView p := by
  rewrite [setCall_frame]
  rfl

theorem recordCall_purse (c : PlacedCall) (e : EndingMark) (n : Nat) (p : Part) :
    purseView (recordCall c e n p) = purseView p := by
  unfold recordCall
  have happend : purseView (appendRecord (.call (callRecord c e n p)) p) = purseView p := by
    unfold appendRecord
    split <;> rfl
  rewrite [← happend]
  generalize appendRecord (.call (callRecord c e n p)) p = q
  unfold countEvent
  split
  · rewrite [markRecord_frame]
    rfl
  · rfl

theorem leaveCall_purse (p : Part) : purseView (leaveCall p) = purseView p := by
  unfold leaveCall enterCollecting clearDigits
  dsimp only
  split
  · rewrite [setCall_purse]
    split <;> rfl
  · exact setCall_purse _ _

theorem completeEnding_purse {p : Part} (hdue : p.rlu.settlementDue = false) :
    purseView (completeEnding p) = purseView p := by
  unfold completeEnding
  cases p.cc.placed with
  | none => rfl
  | some c =>
    dsimp only
    have hrelease : purseView (releaseLine .customer p) = purseView p := by
      rewrite [releaseLine_frame]
      rfl
    have hrlu : (releaseLine .customer p).rlu.settlementDue = false :=
      (congrArg (fun v => v.1.settlementDue) hrelease).trans hdue
    rewrite [← hrelease]
    generalize releaseLine .customer p = q at *
    rewrite [settleIfDue_undue hrlu, completeIf_frame]
    show purseView (leaveCall _) = _
    rewrite [leaveCall_purse, recordCall_purse, unlockFor_frame]
    rfl

theorem endCall_purse {o : CallOutcome} {p : Part} (hdue : p.rlu.settlementDue = false) :
    purseView (endCall o p) = purseView p := by
  have hbegun (q : Part) : purseView (setCall .ending (stopCharging q)) = purseView q := by
    rewrite [setCall_purse, stopCharging_eq]
    rfl
  have hcomplete (q : Part) (hq : q.rlu.settlementDue = false) :
      purseView (completeEnding (setCall .ending (stopCharging q))) = purseView q := by
    rw [completeEnding_purse ((congrArg (fun v => v.1.settlementDue) (hbegun q)).trans hq), hbegun]
  unfold endCall
  dsimp only
  split
  · exact hbegun _
  · exact hcomplete _ hdue

theorem callsEnd_lost (s : State) (c : PlacedCall) (hplaced : s.part.cc.placed = some c)
    (hdump : s.part.rlu.dump = .ended) (a : Nat) (coin : Coin) (rest : List Coin)
    (hcharge : s.part.rlu.charge = some { amount := a, collecting := true }) (hgate : s.part.rlu.gate = .vaulting)
    (hrail : s.part.rlu.rail = coin :: rest) (hdue : due s.part.rlu.cycle s.part) (ha : s.part.rlu.banked < a)
    (hcall : s.part.cc.call = .talking ∨ s.part.cc.call = .grace) (hnoted : s.part.cc.noted = false)
    (hsettles : s.part.rlu.settlementDue = false) :
    ∃ t, exec .confirmLimitExpiry s = .next t
      ∧ t.part.rlu = { s.part.rlu with rail := rest, charge := none, gate := .fault, cycle := none }
      ∧ t.part.cau.money = { s.part.cau.money with
          suspense := s.part.cau.money.suspense + BitVec.ofNat 32 coin.value
          railTypes := s.part.cau.money.railTypes.drop 1
          railCount := s.part.cau.money.railCount - 1 }
      ∧ t.part.cru.rows = (raise .coinJam (10 + coin.type) s.part).cru.rows
      ∧ (s.part.cc.call = .talking → graceEntered a s.part t.part)
      ∧ (s.part.rtu.timing.state ≠ .idle → (s.part.cc.call = .talking ∨ s.part.cc.graceOver = false) →
        creditExamined s.part.cc.low s.part t.part)
      ∧ (s.part.cc.call = .grace → s.part.cc.graceOver = false →
        t.part.cc.call = .grace ∧ t.part.cc.grace = s.part.cc.grace ∧ t.part.cc.owed = s.part.cc.owed)
      ∧ (s.part.cc.call = .grace → s.part.cc.graceOver = true → s.part.cau.load = .ended →
          s.part.cc.heldCount < 64 →
        t.part.cc.call = (if s.part.cc.off then .collecting else .idle) ∧ t.part.cc.placed = none
        ∧ (s.part.cc.producer, RingRecord.call (recordNow .creditExhausted c s.part)) ∈ t.part.cc.records
        ∧ t.part.cau.calls.cut = s.part.cau.calls.cut + 1 ∧ t.part.rtu.timing.state = .idle
        ∧ (s.part.rtu.timing.state ≠ .idle → t.part.cc.low = false)
        ∧ cacheUnlocked c s.part t.part) := by
  obtain ⟨q, hlost, hexec⟩ := exec_confirmLimit_short hdue hdump hgate hrail hcharge ha
  have hqcall : q.cc.call = s.part.cc.call := by rw [hlost.cc]
  have hrlu : { q.rlu with charge := none } =
      { s.part.rlu with rail := rest, charge := none, gate := .fault, cycle := none } := by rw [hlost.rlu]
  obtain htalks | hgrace := hcall
  · have hshort := answerShort_talking (a := a) (hqcall.trans htalks)
    generalize answerShort a q = t at *
    have htrlu := hshort.rlu.trans hrlu
    rewrite [gateTurns_last (gateTurn_still (.inr (.inr (.inr ⟨by rw [htrlu], by rw [htrlu]⟩))))] at hexec
    refine ⟨_, hexec, htrlu, ?_, ?_, fun _ => ⟨?_, ?_, ?_, ?_, ?_, ?_, ?_⟩, fun hstate _ => ?_,
      fun h => absurd (htalks.symm.trans h) nofun, fun h => absurd (htalks.symm.trans h) nofun⟩
    · rw [hshort.cau, hlost.money]
    · rw [hshort.cru, hlost.rows]
    · rw [hshort.cc]
    · rewrite [hshort.cc, hlost.tick, graceTime, hlost.rtu]
      rfl
    · rw [hshort.cc]
    · rw [hshort.cc]
    · rw [hshort.cc]
    · rw [hshort.cc, hlost.cc]
    · rw [hshort.cc, hlost.cc]
    · exact creditExamined_after (by rw [hlost.cc]) hlost.cause hlost.credit hstate
        (hshort.low (by rewrite [hlost.rtu]; exact hstate))
        (by rewrite [creditOnHand, hshort.rlu]; rfl) hshort.rtu hshort.cause hshort.publishes
  · rewrite [answerShort_grace (hqcall.trans hgrace) (by rewrite [hlost.cc]; exact hnoted)] at hexec
    have hqover : q.cc.graceOver = s.part.cc.graceOver := by rw [hlost.cc]
    have hecc := shortTaken_cc q
    have hecause := shortTaken_cause q
    have hepublishes := shortTaken_publishes q
    obtain ⟨herlu, hertu, hecau, hecru, hemem, hetick⟩ := shortTaken_kept q
    have hlow : lowExamined { q with rlu.charge := none } = (if q.rtu.timing.state = .idle then q.cc.low
        else decide (creditOnHand (shortTaken q) < chargeStep (shortTaken q))) := by
      rewrite [creditOnHand, herlu, chargeStep_congr hertu]
      rfl
    generalize lowExamined { q with rlu.charge := none } = low at *
    generalize shortTaken q = e at *
    have herlu' := herlu.trans hrlu
    rewrite [hqover] at hexec
    cases hover : s.part.cc.graceOver with
    | false =>
      rewrite [hover, if_neg (by decide),
        gateTurns_last (gateTurn_still (.inr (.inr (.inr ⟨by rw [herlu'], by rw [herlu']⟩))))] at hexec
      refine ⟨_, hexec, herlu', ?_, ?_, fun h => absurd (hgrace.symm.trans h) nofun, fun hstate _ => ?_, fun _ _ => ?_,
        fun _ h => absurd h nofun⟩
      · rw [hecau, hlost.money]
      · rw [hecru, hlost.rows]
      · refine creditExamined_after (by rw [hlost.cc]) hlost.cause hlost.credit hstate ?_
          (by rewrite [creditOnHand, herlu]; rfl) hertu hecause hepublishes
        rewrite [hecc]
        exact hlow.trans (if_neg (by rewrite [hlost.rtu]; exact hstate))
      · rewrite [hecc, hlost.cc]
        exact ⟨hgrace, rfl, rfl⟩
    | true =>
      have hpurse := endCall_purse (o := .creditExhausted) (p := e) (by rewrite [herlu']; exact hsettles)
      have hcru : (endCall .creditExhausted e).cru = e.cru := congrArg (fun v => v.2.1) (endCall_steady .creditExhausted e)
      have htrlu : (endCall .creditExhausted e).rlu = _ := (congrArg Prod.fst hpurse).trans herlu'
      have hmoney : (endCall .creditExhausted e).cau.money = e.cau.money := congrArg Prod.snd hpurse
      have hstill : gateStill (endCall .creditExhausted e) :=
        .inr (.inr (.inr ⟨by rw [htrlu], by rw [htrlu]⟩))
      rewrite [hover, if_pos rfl, gateTurns_last (gateTurn_still hstill)] at hexec
      refine ⟨_, hexec, htrlu, ?_, ?_, fun h => absurd (hgrace.symm.trans h) nofun,
        fun _ h => absurd h (by rewrite [hgrace]; exact nofun), fun _ h => absurd h nofun, fun _ _ hload hroom => ?_⟩
      · rw [hmoney, hecau, hlost.money]
      · rw [hcru, hecru, hlost.rows]
      · have hstands : callStands c e := by
          refine ⟨⟨?_, .inr (.inr ?_)⟩, ?_, .inr (.inr (.inr ⟨?_, ?_⟩)), ?_, ?_⟩
          · rewrite [hecc, hlost.cc]
            exact hplaced
          · rewrite [hecc, hlost.cc]
            exact hgrace
          · rw [herlu']
          · rw [herlu']
          · rw [herlu']
          · rewrite [herlu']
            exact hsettles
          · rw [hecau, hlost.load, hload]
        have hended := (endCall_atOnce (o := .creditExhausted) hstands).1
        rewrite [gateWork_still hstill] at hended
        generalize endCall .creditExhausted e = t at *
        obtain ⟨⟨hcall, hplaced', -, hidle, hrecord, -, hcounts, hunlocked, -⟩, -, -, hcharging, -⟩ := hended
        have hcc : e.cc = { s.part.cc with low := low } := by rw [hecc, hlost.cc]
        have hnow : recordNow .creditExhausted c e = recordNow .creditExhausted c s.part := by
          rw [recordNow, recordNow, hcc, hetick, hlost.tick]
        rewrite [hcc] at hcall hrecord
        rewrite [hnow] at hrecord
        refine ⟨hcall, hplaced', (hrecord hroom).1, ?_, hidle, fun hstate => ?_, ?_⟩
        · rewrite [hcounts, hecau, hlost.calls]
          rfl
        · exact (hcharging (by rewrite [hertu, hlost.rtu]; exact hstate)).1
        · exact cacheUnlocked_congr rfl (by rw [hertu, hlost.rtu]) hunlocked

end Sys2Proof.Machine
end

section
/-!
PROOFS. The answers that complete an ending (R33, R105, R142): the call's record, its settlement, and the gate's work
behind it.
-/

namespace Sys2Proof.Machine

/-! ## A settlement's refund at HOLD (R31, R33) -/

/-- The rail as a pending refund of every coin begins, or ends at once with none. -/
def refundTaken (p : Part) : Rlu :=
  if p.rlu.pendingRefund = true ∧ p.rlu.rail ≠ [] then
    { p.rlu with
      pendingRefund := false, refund := some p.rlu.rail.length, gate := .refunding
      cycle := some { start := p.tick, limit := 400 } }
  else { p.rlu with pendingRefund := false }

/-- The gate's work at HOLD with no charge and no refund: the rail has taken up its pending refund, and the call is as
it was but for the low-credit flag. -/
structure RefundTaken (p q : Part) : Prop where
  rlu : q.rlu = refundTaken p
  cc : ∃ low, q.cc = { p.cc with low := low } ∧ (p.rtu.timing.state = .idle → low = p.cc.low)
  cause : q.bpu.causes.getLsbD 2 = p.bpu.causes.getLsbD 2
  alone : RailAlone p q
  waiting : q.bpu.waiting = p.bpu.waiting

set_option Elab.async false in
theorem creditFollows_waiting (n : Nat) (p : Part) : (creditFollows n p).bpu.waiting = p.bpu.waiting := by
  unfold creditFollows reexamineCredit examineCredit
  dsimp only
  repeat' split
  all_goals rfl

theorem beginCycle_waiting (g : GateState) (p : Part) : (beginCycle g p).bpu.waiting = p.bpu.waiting :=
  creditFollows_waiting _ _

theorem lowKept_idle {p q : Part} (h : p.rtu.timing.state = .idle) : lowKept p q = p.cc.low := by
  rewrite [lowKept, h]
  exact Bool.and_true _

theorem RefundTaken.undue {p : Part} (h : p.rlu.pendingRefund = false) : RefundTaken p p := by
  refine ⟨?_, ⟨p.cc.low, rfl, fun _ => rfl⟩, rfl, .refl p, rfl⟩
  rw [refundTaken, if_neg (by simp [h]), ← h]

theorem gateTurns_settles {p : Part} (n : Nat) (hd : p.rlu.dump = .ended) (hg : p.rlu.gate = .hold)
    (hc : p.rlu.charge = none) (hr : p.rlu.refund = none) : RefundTaken p (gateTurns (n + 3) p) := by
  cases hpending : p.rlu.pendingRefund with
  | false =>
    rewrite [gateTurns_last (gateTurn_still (.inl ⟨hc, hr, hpending⟩))]
    exact .undue hpending
  | true =>
    rewrite [gateTurns_more (gateTurn_pending hd hg hc hr hpending)]
    cases hrail : p.rlu.rail with
    | nil =>
      have hturn : gateTurn (beginRefund p) = ({ beginRefund p with rlu.refund := none }, true) := by
        unfold gateTurn beginRefund
        rewrite [if_neg (not_not.2 (by exact hd))]
        dsimp only
        rewrite [hg, hc, hrail]
        rfl
      rewrite [gateTurns_more hturn,
        gateTurns_last (p := { beginRefund p with rlu.refund := none }) (gateTurn_still (.inl ⟨hc, rfl, rfl⟩))]
      refine ⟨?_, ⟨p.cc.low, rfl, fun _ => rfl⟩, rfl, .of_rlu rfl, rfl⟩
      rewrite [refundTaken, if_neg (by simp [hrail]), ← hr]
      rfl
    | cons c rest =>
      have hlen : (beginRefund p).rlu.refund = some (rest.length + 1) := by
        show some p.rlu.rail.length = _
        rewrite [hrail]
        rfl
      rewrite [gateTurns_last (gateTurn_refund (p := beginRefund p) hd hg hc hlen)]
      have htaken := beginCycle_taken .refunding (beginRefund p)
      have halone := (RailAlone.of_rlu (p := p) (q := beginRefund p) rfl).trans (beginCycle_alone .refunding _)
      have hwaiting : (beginCycle .refunding (beginRefund p)).bpu.waiting = p.bpu.waiting := beginCycle_waiting _ _
      generalize beginCycle .refunding (beginRefund p) = q at *
      refine ⟨?_, ⟨_, htaken.cc, fun hidle => lowKept_idle hidle⟩, htaken.cause, halone, hwaiting⟩
      rewrite [htaken.rlu, refundTaken, if_pos ⟨hpending, by simp [hrail]⟩]
      rfl

/-- What has closed is as closed behind the gate's work. -/
theorem callClosed_alone {r : CallRecord} {c : PlacedCall} {p q t : Part} (h : callClosed r c p q)
    (hcc : ∃ low, t.cc = { q.cc with low := low }) (halone : RailAlone q t) : callClosed r c p t := by
  obtain ⟨low, hcc⟩ := hcc
  unfold callClosed cacheUnlocked at h ⊢
  rewrite [hcc, halone.rtu, halone.cau, halone.lu, halone.mem, halone.tick]
  exact h

/-! ## CHARGED in ENDING (R28, R105) -/

theorem deduct_ending {a : Nat} {p : Part} (hcall : p.cc.call = .ending) :
    deduct a p = completeEnding (chargeBooked a p) := by
  have hkept : (chargeBooked a p).cc.call = p.cc.call := by
    obtain ⟨low, -, -, -, hcc, -⟩ := chargeBooked_booked a p
    rw [hcc]
  have hbooked : deduct a p = (match (chargeBooked a p).cc.call with
      | .ending => completeEnding (chargeBooked a p)
      | .talking => reportPaid (examineCredit (chargeBooked a p))
      | .grace => reportPaid (setCall .talking (examineCredit
          { chargeBooked a p with cc.grace := none, cc.graceOver := false, cc.noted := false }))
      | .idle => chargeBooked a p
      | .collecting => chargeBooked a p
      | .rating => chargeBooked a p
      | .placing => chargeBooked a p) := rfl
  rewrite [hbooked]
  generalize chargeBooked a p = b at *
  rw [hkept, hcall]

theorem answerShort_ending {a : Nat} {p : Part} (hcall : p.cc.call = .ending) :
    answerShort a p = completeEnding { p with rlu.charge := none } := by
  unfold answerShort
  dsimp only
  rw [hcall]

/-- What a deduction leaves of the account beside MONEY, and of the command in flight. -/
theorem chargeBooked_beside (a : Nat) (p : Part) : (chargeBooked a p).cau.load = p.cau.load
    ∧ (chargeBooked a p).cau.calls = p.cau.calls ∧ (chargeBooked a p).bpu.result = p.bpu.result
    ∧ (chargeBooked a p).bpu.inFlight = p.bpu.inFlight := by
  simp [chargeBooked, stepStarted, bookCharge]

/-- An ending whose charge has been answered, ready to complete: of the call only the coins collected and the figures of
the answer have moved since. -/
structure EndingReady (d : PlacedCall) (p b : Part) : Prop where
  cc : b.cc = { p.cc with placed := some d, steps := b.cc.steps, charged := b.cc.charged }
  cause : b.bpu.causes.getLsbD 2 = p.bpu.causes.getLsbD 2
  result : b.bpu.result = p.bpu.result
  inFlight : b.bpu.inFlight = p.bpu.inFlight
  rtu : b.rtu = p.rtu
  calls : b.cau.calls = p.cau.calls
  load : b.cau.load = p.cau.load
  lu : p.lu.line ≠ .idle → b.lu = p.lu
  mem : b.mem = p.mem
  tick : b.tick = p.tick

/-- What completes an ending beside the call's own closing: the flag and LOW_CREDIT stay, RELEASE is DONE, and the line
is cleared. -/
structure EndingDone (p q : Part) : Prop where
  low : q.cc.low = p.cc.low
  cause : q.bpu.causes.getLsbD 2 = p.bpu.causes.getLsbD 2
  released : p.bpu.inFlight = some 2 → p.bpu.result = .pending → q.bpu.result = .done
  line : p.lu.owner = .customer → p.lu.line ≠ .idle → q.lu.line = .clearing ∧ q.lu.owner = .none

theorem EndingDone.alone {p q t : Part} (h : EndingDone p q) (hlow : t.cc.low = q.cc.low)
    (hcause : t.bpu.causes.getLsbD 2 = q.bpu.causes.getLsbD 2) (halone : RailAlone q t) : EndingDone p t where
  low := hlow.trans h.low
  cause := hcause.trans h.cause
  released := fun hflight hresult => halone.result.trans (h.released hflight hresult)
  line := fun howner hline => by rewrite [halone.lu]; exact h.line howner hline

/-- The completion of a ready ending: it closes the call with the figures of its answer, and makes a settlement that
waits (R33, R142). -/
theorem EndingReady.completed {c d : PlacedCall} {e : EndingMark} {p b : Part} (h : EndingReady d p b)
    (hd : d = { c with collected := d.collected }) (he : c.ending = some e) (hcall : p.cc.call = .ending)
    (hidle : p.rtu.timing.state = .idle) (hload : p.cau.load = .ended) :
    callClosed { recordKept e c p with
        steps := b.cc.steps, charged := b.cc.charged, collected := d.collected, toRefund := coinsToRefund b }
      c p (completeEnding b)
    ∧ EndingDone p (completeEnding b)
    ∧ (completeEnding b).cc.steps = b.cc.steps ∧ (completeEnding b).cc.charged = b.cc.charged
    ∧ (completeEnding b).cru = b.cru
    ∧ (completeEnding b).rlu = (if b.rlu.settlementDue then
        { b.rlu with banked := 0, pendingRefund := true, settlementDue := false } else b.rlu)
    ∧ (completeEnding b).cau.money = { b.cau.money with
        forfeited := b.cau.money.forfeited + BitVec.ofNat 32 (if b.rlu.settlementDue then b.rlu.banked else 0)
        banked := b.cau.money.banked - (if b.rlu.settlementDue then b.rlu.banked else 0) } := by
  have hcc := h.cc
  have hclosed := completeEnding_closed (c := d) (e := e) (p := b) (by rw [hcc]) (by rewrite [hd]; exact he)
    (by rewrite [hcc]; exact hcall) (by rewrite [h.rtu]; exact hidle) (by rewrite [h.load]; exact hload)
  have hrecord : recordKept e d b = { recordKept e c p with
      steps := b.cc.steps, charged := b.cc.charged, collected := d.collected } := by
    rewrite [hd]
    rfl
  generalize completeEnding b = q at *
  dsimp only at hclosed
  rewrite [hrecord] at hclosed
  obtain ⟨hclosed, hlow, hsteps, hcharged, hcru, hcause, hdone, hline, hrlu, hmoney⟩ := hclosed
  refine ⟨callClosed_congr (by rw [hd]) (by rw [hd]) (by rw [hd]) (by rw [hcc]) ?_ h.calls (by rw [h.rtu]) h.mem h.tick
    hclosed, ⟨?_, hcause.trans h.cause, ?_, fun howner hstands => ?_⟩, hsteps, hcharged, hcru, hrlu, hmoney⟩
  · rewrite [hcc]
    exact ⟨rfl, rfl, rfl, rfl⟩
  · rw [hlow, hcc]
  · rewrite [← h.inFlight, ← h.result]
    exact hdone
  · exact hline (by rewrite [h.lu hstands]; exact howner)

theorem vaultJudged_lu {p : Part} (h : p.lu.line ≠ .idle) : (vaultJudged p).lu = p.lu := by
  have hraise (k : Condition) (d : Nat) {q : Part} (hq : q.lu = p.lu) : (raise k d q).lu = p.lu :=
    ((raise_kept k d q).lu (by rewrite [hq]; exact h)).trans hq
  have hmaybe (b : Prop) [Decidable b] (k : Condition) (d : Nat) {q : Part} (hq : q.lu = p.lu) :
      (if b then raise k d q else q).lu = p.lu := by
    split
    · exact hraise k d hq
    · exact hq
  exact hmaybe _ _ _ (hmaybe _ _ _ rfl)

/-- The collect that covers the charge of an ending leaves it ready. -/
theorem CoinCollected.ready {c : PlacedCall} {coin : Coin} {rest : List Coin} {p q : Part}
    (h : CoinCollected coin rest p q) (hlu : p.lu.line ≠ .idle → q.lu = p.lu) (hplaced : p.cc.placed = some c)
    (hidle : p.rtu.timing.state = .idle) (a : Nat) :
    EndingReady { c with collected := c.collected + 1 } p (chargeBooked a q) := by
  obtain ⟨low, -, -, -, hcc, hlow, hcause, -, -, hrtu, hblu, -, -, hmem, htick⟩ := chargeBooked_booked a q
  obtain ⟨hload, hcalls, hresult, hflight⟩ := chargeBooked_beside a q
  generalize chargeBooked a q = b at *
  have hqlow : q.cc.low = p.cc.low := by
    rewrite [h.cc]
    exact lowKept_idle hidle
  have hstays : low = p.cc.low := by
    rewrite [hlow, hqlow, h.rtu, hidle]
    exact Bool.and_true _
  constructor
  case cc =>
    rewrite [hcc, hstays, h.cc, hplaced]
    rfl
  case cause => exact hcause.trans h.cause
  case result => exact hresult.trans h.result
  case inFlight => exact hflight.trans h.inFlight
  case rtu => exact hrtu.trans h.rtu
  case calls => exact hcalls.trans h.calls
  case load => exact hload.trans h.load
  case lu => exact fun hline => hblu.trans (hlu hline)
  case mem => exact hmem.trans h.mem
  case tick => exact htick.trans h.tick

/-- The rail unit behind a completion, in one record for both outcomes. -/
theorem settled_rlu {r : Rlu} (h : r.pendingRefund = false) :
    (if r.settlementDue then { r with banked := 0, pendingRefund := true, settlementDue := false } else r) =
      { r with
        banked := if r.settlementDue then 0 else r.banked
        pendingRefund := r.settlementDue
        settlementDue := false } := by
  cases hs : r.settlementDue with
  | false =>
    obtain ⟨rail, gate, cycle, banked, charge, refund, pending, due, dump, waits⟩ := r
    cases h
    cases hs
    rfl
  | true => rfl

/-- The coins that the settlement of an ending owes. -/
theorem coinsToRefund_unowed {p : Part} (hd : p.rlu.dump = .ended) (hr : p.rlu.refund = none) :
    coinsToRefund p = if p.rlu.settlementDue then p.rlu.rail.length else 0 := by
  rewrite [coinsToRefund, if_pos hd, hr]
  rfl

theorem callsEnd_endingCharged (s : State) (c : PlacedCall) (hplaced : s.part.cc.placed = some c)
    (hdump : s.part.rlu.dump = .ended) (hrefund : s.part.rlu.refund = none)
    (hpending : s.part.rlu.pendingRefund = false) (hwaits : s.part.rlu.clearWaits = false) (a : Nat) (coin : Coin)
    (rest : List Coin) (hcharge : s.part.rlu.charge = some { amount := a, collecting := true })
    (hgate : s.part.rlu.gate = .vaulting) (hrail : s.part.rlu.rail = coin :: rest) (e : EndingMark)
    (hcall : s.part.cc.call = .ending) (he : c.ending = some e) (hidle : s.part.rtu.timing.state = .idle)
    (hload : s.part.cau.load = .ended) (ha : a ≤ s.part.rlu.banked + coin.value) :
    let settles := s.part.rlu.settlementDue
    let left := s.part.rlu.banked + coin.value - a
    let kept := recordKept e c s.part
    let toRefund := if settles then rest.length else 0
    ∃ t, exec .vaultConfirm s = .next t ∧ EndingDone s.part t.part
      ∧ callClosed { kept with steps := kept.steps + 1, charged := kept.charged + a
                               collected := kept.collected + 1, toRefund } c s.part t.part
      ∧ t.part.cc.steps = s.part.cc.steps + 1 ∧ t.part.cc.charged = s.part.cc.charged + a
      ∧ t.part.rlu = (if settles ∧ rest ≠ [] then
          { s.part.rlu with rail := rest, banked := 0, charge := none, settlementDue := false
                            refund := some rest.length, cycle := some { start := s.part.tick, limit := 400 }
                            gate := .refunding }
        else { s.part.rlu with rail := rest, banked := if settles then 0 else left, charge := none
                               settlementDue := false, cycle := none, gate := .hold })
      ∧ t.part.cau.money = { s.part.cau.money with
          collected := s.part.cau.money.collected + BitVec.ofNat 32 coin.value
          charged := s.part.cau.money.charged + BitVec.ofNat 32 a
          forfeited := s.part.cau.money.forfeited + BitVec.ofNat 32 (if settles then left else 0)
          banked := s.part.cau.money.banked + coin.value - a - (if settles then left else 0)
          vaultValue := s.part.cau.money.vaultValue + BitVec.ofNat 32 coin.value
          vaultCount := s.part.cau.money.vaultCount + 1
          railTypes := s.part.cau.money.railTypes.drop 1
          railCount := s.part.cau.money.railCount - 1 } := by
  intro settles left kept toRefund
  obtain ⟨q, hexec, hcollected, hview⟩ := exec_vaultConfirm hgate hrail hwaits
  have hlu (hline : s.part.lu.line ≠ .idle) : q.lu = s.part.lu :=
    (lineView_iff.1 hview).2.2.1.trans (vaultJudged_lu hline)
  have hready := hcollected.ready hlu hplaced hidle a
  have hturn := gateTurn_covers (a := a) (p := q) (by rw [hcollected.rlu, hdump]) (by rw [hcollected.rlu])
    (by rw [hcollected.rlu, hcharge]) (by rewrite [hcollected.rlu]; exact ha)
  rewrite [gateWork_turns, gateTurns_more hturn, deduct_ending (by rewrite [hcollected.cc]; exact hcall)] at hexec
  obtain ⟨low, hrlu, hmoney, -, hcc, -⟩ := chargeBooked_booked a q
  generalize chargeBooked a q = b at *
  have hsteps : b.cc.steps = s.part.cc.steps + 1 := by rw [hcc, hcollected.cc]
  have hcharged : b.cc.charged = s.part.cc.charged + a := by rw [hcc, hcollected.cc]
  rewrite [hcollected.rlu] at hrlu
  rewrite [hcollected.money] at hmoney
  have hcoins : coinsToRefund b = toRefund := by
    rw [coinsToRefund_unowed (by rw [hrlu, hdump]) (by rw [hrlu, hrefund]), hrlu]
  have hcompleted := hready.completed rfl he hcall hidle hload
  generalize completeEnding b = t at *
  obtain ⟨hclosed, hdone, hsteps', hcharged', -, htrlu, htmoney⟩ := hcompleted
  rewrite [hcoins, hsteps, hcharged] at hclosed
  have htrlu' : t.rlu = { s.part.rlu with
      rail := rest, banked := if settles then 0 else left, charge := none, pendingRefund := settles
      settlementDue := false, cycle := none, gate := .hold } := by
    rw [htrlu, settled_rlu (by rw [hrlu, hpending]), hrlu]
  have htaken := gateTurns_settles (2 * q.rlu.banked + 16) (p := t) (by rw [htrlu', hdump]) (by rw [htrlu'])
    (by rw [htrlu']) (by rw [htrlu', hrefund])
  have hstate : t.rtu.timing.state = .idle := hclosed.2.2.2.1
  generalize gateTurns (2 * q.rlu.banked + 16 + 3) t = u at *
  obtain ⟨hurlu, ⟨ulow, hucc, hulow⟩, hucause, halone, -⟩ := htaken
  refine ⟨_, hexec, hdone.alone (by rewrite [hucc]; exact hulow hstate) hucause halone, callClosed_alone hclosed ⟨ulow, hucc⟩ halone,
    ?_, ?_, ?_, ?_⟩
  · rw [hucc, ← hsteps, ← hsteps']
  · rw [hucc, ← hcharged, ← hcharged']
  · have htick : t.tick = s.part.tick := hclosed.2.2.2.2.2.2.2.2.2.2
    rewrite [hurlu, refundTaken, htrlu', htick]
    cases hs : s.part.rlu.settlementDue with
    | false => simp [settles, hs, hpending]
    | true => simp [settles, hs, hpending]
  · rw [halone.cau, htmoney, hmoney, hrlu]

end Sys2Proof.Machine
end

section
/-!
PROOFS. The lost coin of a collect that completes an ending (R24, R30, R142), the coin that joins in GRACE (R14, R104),
and O51.
-/

namespace Sys2Proof.Machine

/-! ## SHORT in ENDING -/

set_option Elab.async false in
/-- The loss of a collect's coin leaves the ending ready. -/
theorem CoinLost.ready {c : PlacedCall} {coin : Coin} {rest : List Coin} {p q : Part} (h : CoinLost coin rest p q)
    (hplaced : p.cc.placed = some c) (hidle : p.rtu.timing.state = .idle) :
    EndingReady c p { q with rlu.charge := none } where
  cc := by
    show q.cc = _
    rw [h.cc, lowKept_idle hidle, ← hplaced]
  cause := h.cause
  result := h.result
  inFlight := h.inFlight
  rtu := h.rtu
  calls := h.calls
  load := h.load
  lu := h.lu
  mem := h.mem
  tick := h.tick

theorem callsEnd_endingShort (s : State) (c : PlacedCall) (hplaced : s.part.cc.placed = some c)
    (hdump : s.part.rlu.dump = .ended) (hrefund : s.part.rlu.refund = none)
    (hpending : s.part.rlu.pendingRefund = false) (a : Nat) (coin : Coin) (rest : List Coin)
    (hcharge : s.part.rlu.charge = some { amount := a, collecting := true }) (hgate : s.part.rlu.gate = .vaulting)
    (hrail : s.part.rlu.rail = coin :: rest) (e : EndingMark) (hcall : s.part.cc.call = .ending)
    (he : c.ending = some e) (hidle : s.part.rtu.timing.state = .idle) (hload : s.part.cau.load = .ended)
    (hdue : due s.part.rlu.cycle s.part) (ha : s.part.rlu.banked < a) :
    let settles := s.part.rlu.settlementDue
    let kept := recordKept e c s.part
    let toRefund := if settles then rest.length else 0
    ∃ t, exec .confirmLimitExpiry s = .next t ∧ EndingDone s.part t.part
      ∧ callClosed { kept with toRefund } c s.part t.part
      ∧ t.part.cc.steps = s.part.cc.steps ∧ t.part.cc.charged = s.part.cc.charged
      ∧ t.part.cru.rows = (raise .coinJam (10 + coin.type) s.part).cru.rows
      ∧ t.part.rlu = { s.part.rlu with
          rail := rest, banked := if settles then 0 else s.part.rlu.banked, charge := none, pendingRefund := settles
          settlementDue := false, cycle := none, gate := .fault }
      ∧ t.part.cau.money = { s.part.cau.money with
          suspense := s.part.cau.money.suspense + BitVec.ofNat 32 coin.value
          forfeited := s.part.cau.money.forfeited + BitVec.ofNat 32 (if settles then s.part.rlu.banked else 0)
          banked := s.part.cau.money.banked - (if settles then s.part.rlu.banked else 0)
          railTypes := s.part.cau.money.railTypes.drop 1
          railCount := s.part.cau.money.railCount - 1 } := by
  intro settles kept toRefund
  obtain ⟨q, hlost, hexec⟩ := exec_confirmLimit_short hdue hdump hgate hrail hcharge ha
  rewrite [answerShort_ending (by rewrite [hlost.cc]; exact hcall)] at hexec
  have hready := hlost.ready hplaced hidle
  obtain ⟨b, hb⟩ : ∃ b, b = { q with rlu.charge := none } := ⟨_, rfl⟩
  rewrite [← hb] at hexec hready
  have hrlu : b.rlu = { s.part.rlu with rail := rest, charge := none, gate := .fault, cycle := none } := by
    rewrite [hb]
    dsimp only
    rw [hlost.rlu]
  have hmoney : b.cau.money = q.cau.money := by rw [hb]
  have hcru : b.cru = q.cru := by rw [hb]
  have hcc : b.cc = q.cc := by rw [hb]
  clear hb
  have hsteps : b.cc.steps = s.part.cc.steps := by rw [hcc, hlost.cc]
  have hcharged : b.cc.charged = s.part.cc.charged := by rw [hcc, hlost.cc]
  have hcoins : coinsToRefund b = toRefund := by
    rw [coinsToRefund_unowed (by rw [hrlu, hdump]) (by rw [hrlu, hrefund]), hrlu]
  have hcompleted := hready.completed rfl he hcall hidle hload
  generalize completeEnding b = t at *
  obtain ⟨hclosed, hdone, hsteps', hcharged', hcru', htrlu, htmoney⟩ := hcompleted
  rewrite [hcoins, hsteps, hcharged] at hclosed
  rewrite [settled_rlu (by rw [hrlu, hpending]), hrlu] at htrlu
  rewrite [gateTurns_last (gateTurn_still (.inr (.inr (.inr ⟨by rw [htrlu], by rw [htrlu]⟩))))] at hexec
  refine ⟨_, hexec, hdone, hclosed, hsteps'.trans hsteps, hcharged'.trans hcharged, ?_, htrlu, ?_⟩
  · rw [hcru', hcru, hlost.rows]
  · rw [htmoney, hmoney, hlost.money, hrlu]

/-! ## A coin in GRACE (R14, R104) -/

/-- The coin as it joins, before the CC takes it up. -/
def coinRailed (k v : Nat) (m : Measurement) (p : Part) : Part := railChange (coinBooked k v) (coinAdmitted k m p)

/-- What a joining coin leaves of the call and the gate. -/
structure CoinRailed (k v : Nat) (p q : Part) : Prop where
  rlu : q.rlu = { p.rlu with rail := p.rlu.rail ++ [{ type := k, value := v }] }
  cc : q.cc = { p.cc with low := lowKept p q }
  cause : q.bpu.causes.getLsbD 2 = p.bpu.causes.getLsbD 2
  credit : Group.status 1 ∈ q.bpu.dirty
  rtu : q.rtu = p.rtu
  tick : q.tick = p.tick

theorem coinRailed_railed (k v : Nat) (m : Measurement) (p : Part) : CoinRailed k v p (coinRailed k v m p) := by
  have hcc := railChange_cc (coinBooked k v) (coinAdmitted k m p)
  have hcause := railChange_cause (coinBooked k v) (coinAdmitted k m p)
  have hbooked : (coinBooked k v (coinAdmitted k m p)).cc = p.cc ∧ (coinBooked k v (coinAdmitted k m p)).rtu = p.rtu
      ∧ (coinBooked k v (coinAdmitted k m p)).rlu = { p.rlu with rail := p.rlu.rail ++ [{ type := k, value := v }] }
      ∧ (coinBooked k v (coinAdmitted k m p)).bpu.causes.getLsbD 2 = p.bpu.causes.getLsbD 2
      ∧ (coinBooked k v (coinAdmitted k m p)).tick = p.tick := by
    simp [coinBooked, coinAdmitted]
  obtain ⟨hbcc, hbrtu, hbrlu, hbcause, hbtick⟩ := hbooked
  have hrlu := (railChange_rlu (coinBooked k v) (coinAdmitted k m p)).trans hbrlu
  have hrtu := (railChange_rtu (coinBooked k v) (coinAdmitted k m p)).trans hbrtu
  constructor
  case rlu => exact hrlu
  case cc =>
    rw [coinRailed, hcc, hbcc, lowKept_congr (p := p) (q := railChange (coinBooked k v) (coinAdmitted k m p))
      (by rw [hbcc]) (by rw [hbrtu]) (hbrlu.trans hrlu.symm) (hbrtu.trans hrtu.symm)]
  case cause => exact hcause.trans hbcause
  case credit => exact railChange_marks_S1 _ _
  case rtu => exact hrtu
  case tick => exact (railChange_tick _ _).trans hbtick

theorem sumValues_append_one (l : List Coin) (k v : Nat) : sumValues (l ++ [{ type := k, value := v }]) = sumValues l + v := by
  rewrite [sumValues_append]
  rfl

/-- The routing of an admitted coin in GRACE publishes it and judges the window: the call and the gate stay. -/
theorem takeMeasurement_grace {p : Part} {table : CoinTable} {m : Measurement} {k v : Nat} (hload : p.bpu.load ≠ some .start)
    (hdump : p.rlu.dump = .ended) (ht : p.cu.table = some table) (hclass : classifyCoin table m = .valid k v)
    (hnone : firstFailing v p = .none) : takeMeasurement m p =
      gateWork (takeOutcome .notRejected (publishCoin k v .none m (retryOnCoin (coinRailed k v m p)))) := by
  rewrite [takeMeasurement_ready m hload hdump ht, hclass]
  show gateWork (takeOutcome .notRejected (publishCoin k v (routeReason v p) m
    (if routeReason v p = .none then joinRail k v m p else returnCoin (routeReason v p) p))) = _
  rewrite [routeReason_eq, hnone, if_pos rfl, joinRail_eq]
  rfl

theorem clear_cause (k : Condition) (p : Part) :
    (clear k p).bpu.causes.getLsbD 2 = p.bpu.causes.getLsbD 2 := by
  unfold clear
  split
  · exact (setCause_lowCredit (by decide) _).trans (deriveRestriction_raiseKept _).low
  · rfl

theorem burstJudged_cause (w : List Measured) (p : Part) :
    (burstJudged w p).bpu.causes.getLsbD 2 = p.bpu.causes.getLsbD 2 := by
  unfold burstJudged
  dsimp only
  split
  · exact (raise_kept ..).low
  · split
    · exact clear_cause _ _
    · rfl

theorem burstJudged_publishes (w : List Measured) (p : Part) : Publishes p (burstJudged w p) := by
  unfold burstJudged
  dsimp only
  split
  · exact raise_publishes ..
  · split
    · exact clear_publishes ..
    · exact .refl p

/-- What publishing an outcome leaves alone of the call, the gate and the flag's cause. -/
structure OutcomeKept (p q : Part) : Prop where
  rlu : q.rlu = p.rlu
  cc : q.cc = p.cc
  rtu : q.rtu = p.rtu
  tick : q.tick = p.tick
  cause : q.bpu.causes.getLsbD 2 = p.bpu.causes.getLsbD 2
  publishes : Publishes p q

theorem outcome_kept (e : Measured) (k v : Nat) (r : Reason) (m : Measurement) (p : Part) :
    OutcomeKept p (takeOutcome e (publishCoin k v r m p)) := by
  have hcause : (publishCoin k v r m p).bpu.causes.getLsbD 2 = p.bpu.causes.getLsbD 2 :=
    setCause_lowCredit (by decide) _
  have hpublishes := publishCoin_publishes k v r m p
  have hsame : (publishCoin k v r m p).rlu = p.rlu ∧ (publishCoin k v r m p).cc = p.cc
      ∧ (publishCoin k v r m p).rtu = p.rtu ∧ (publishCoin k v r m p).tick = p.tick := ⟨rfl, rfl, rfl, rfl⟩
  generalize publishCoin k v r m p = q at *
  obtain ⟨hrlu, hcc, hrtu, htick⟩ := hsame
  rewrite [takeOutcome_eq]
  have hinner := burstJudged_inner (joinWindow e q.cu.window) { q with cu.window := joinWindow e q.cu.window }
  have houter := burstJudged_outer (joinWindow e q.cu.window) { q with cu.window := joinWindow e q.cu.window }
  exact ⟨(inner_rlu hinner).trans hrlu, (inner_cc hinner).trans hcc, (inner_rtu hinner).trans hrtu,
    (outer_tick houter).trans htick, (burstJudged_cause _ _).trans hcause,
    hpublishes.trans ((burstJudged_publishes _ _).after (p := q) rfl)⟩

/-! ## The retry that a coin sends (R103, R104) -/

/-- SHORT in GRACE at a retry: the charge is gone, and the credit has been examined. -/
structure RetryShort (p q : Part) : Prop where
  rlu : q.rlu = { p.rlu with charge := none }
  cc : q.cc = { p.cc with
    noted := q.cc.noted
    low := if p.rtu.timing.state = .idle then p.cc.low else decide (creditOnHand q < chargeStep q) }
  cause : q.bpu.causes.getLsbD 2 = (p.bpu.causes.getLsbD 2 || (q.cc.low && !p.cc.low))
  rtu : q.rtu = p.rtu
  publishes : Publishes p q

theorem shortTaken_short (p : Part) : RetryShort p (shortTaken p) := by
  obtain ⟨hrlu, hrtu, -⟩ := shortTaken_kept p
  refine ⟨hrlu, ?_, shortTaken_cause p, hrtu, shortTaken_publishes p⟩
  have hlow : lowExamined { p with rlu.charge := none } = (if p.rtu.timing.state = .idle then p.cc.low
      else decide (creditOnHand (shortTaken p) < chargeStep (shortTaken p))) := by
    rewrite [creditOnHand, hrlu, chargeStep_congr hrtu]
    rfl
  rw [shortTaken_cc, hlow]

/-- A noted coin sends the amount owed once more. -/
theorem answerShort_noted {a : Nat} {p : Part} (hcall : p.cc.call = .grace) (hover : p.cc.graceOver = false)
    (hnoted : p.cc.noted = true) :
    answerShort a p = sendCharge p.cc.owed { shortTaken p with cc.noted := false } := by
  have hcc := shortTaken_cc p
  have hover' : (shortTaken p).cc.graceOver = false := by rewrite [hcc]; exact hover
  have hnoted' : (shortTaken p).cc.noted = true := by rewrite [hcc]; exact hnoted
  have howed : (shortTaken p).cc.owed = p.cc.owed := by rw [hcc]
  have hanswer : answerShort a p = if (shortTaken p).cc.graceOver then endCall .creditExhausted (shortTaken p)
      else if (shortTaken p).cc.noted then
        sendCharge (shortTaken p).cc.owed { shortTaken p with cc.noted := false }
      else shortTaken p := by
    unfold answerShort shortTaken
    dsimp only
    rw [hcall]
  rw [hanswer, hover', hnoted', howed, if_neg (by decide), if_pos rfl]

/-- The amount owed sent once more and short again: the two examinations of one credit are one. -/
theorem RetryShort.again {a : Nat} {p q r : Part} (h : RetryShort p q)
    (k : RetryShort (sendCharge a { q with cc.noted := false }) r) : RetryShort p r := by
  have hrlu : r.rlu = { q.rlu with charge := none } := k.rlu
  have hrtu : r.rtu = q.rtu := k.rtu
  have hhand : creditOnHand r = creditOnHand q := by rewrite [creditOnHand, hrlu]; rfl
  have hlow : (if q.rtu.timing.state = .idle then q.cc.low else decide (creditOnHand r < chargeStep r)) = q.cc.low := by
    split
    next => rfl
    next hstate =>
      rewrite [h.rtu] at hstate
      rewrite [hhand, chargeStep_congr hrtu, h.cc]
      exact (if_neg hstate).symm
  have hcc : r.cc = { q.cc with
      noted := r.cc.noted
      low := if q.rtu.timing.state = .idle then q.cc.low else decide (creditOnHand r < chargeStep r) } := k.cc
  have hcause : r.bpu.causes.getLsbD 2 = (q.bpu.causes.getLsbD 2 || (r.cc.low && !q.cc.low)) := k.cause
  have hrlow : r.cc.low = q.cc.low := (congrArg Cc.low hcc).trans hlow
  constructor
  case rlu => rw [hrlu, h.rlu]
  case cc =>
    rewrite [hlow, h.cc] at hcc
    rewrite [hhand, chargeStep_congr hrtu]
    exact hcc
  case cause =>
    rewrite [hcause, h.cause, hrlow]
    cases q.cc.low <;> simp
  case rtu => exact hrtu.trans h.rtu
  case publishes => exact h.publishes.trans (k.publishes.after (p := q) rfl)

theorem answerShort_unnoted {a : Nat} {p : Part} (hcall : p.cc.call = .grace) (hover : p.cc.graceOver = false)
    (hnoted : p.cc.noted = false) : answerShort a p = shortTaken p := by
  rw [answerShort_grace hcall hnoted, hover, if_neg (by decide)]

/-- A retry that credit and rail do not cover is answered SHORT; a noted coin has it sent once more. -/
theorem gateTurns_retryShort {p : Part} (n : Nat) (h : GateOpen p)
    (hc : p.rlu.charge = some { amount := p.cc.owed, collecting := false })
    (ha : p.rlu.banked + railValue p < p.cc.owed) (hcall : p.cc.call = .grace) (hover : p.cc.graceOver = false) :
    RetryShort p (gateTurns (n + 3) p) := by
  have hshort := shortTaken_short p
  cases hnoted : p.cc.noted with
  | false =>
    have hrests : gateRests (shortTaken p) := by
      rewrite [gateRests, hshort.rlu]
      exact ⟨rfl, h.refund, h.pending⟩
    rewrite [gateTurns_more (gateTurn_takesUp h hc), takeUpCharge_short ha, answerShort_unnoted hcall hover hnoted,
      gateTurns_last (gateTurn_still (.inl hrests))]
    exact hshort
  | true =>
    rewrite [gateTurns_more (gateTurn_takesUp h hc), takeUpCharge_short ha, answerShort_noted hcall hover hnoted]
    generalize shortTaken p = q at *
    obtain ⟨y, hy⟩ : ∃ y, y = sendCharge p.cc.owed { q with cc.noted := false } := ⟨_, rfl⟩
    have hagain := shortTaken_short y
    have hyrlu : y.rlu = { p.rlu with charge := some { amount := p.cc.owed, collecting := false } } := by
      rewrite [hy]
      show Rlu.mk .. = _
      rw [hshort.rlu]
    have hycall : y.cc.call = .grace := by
      rewrite [hy]
      show q.cc.call = _
      rewrite [hshort.cc]
      exact hcall
    have hyover : y.cc.graceOver = false := by
      rewrite [hy]
      show q.cc.graceOver = _
      rewrite [hshort.cc]
      exact hover
    have hynoted : y.cc.noted = false := by rewrite [hy]; rfl
    have hopen : GateOpen y := h.congr (by rw [hyrlu]) (by rw [hyrlu]) (by rw [hyrlu]) (by rw [hyrlu])
    have hrests : gateRests (shortTaken y) := by
      rewrite [gateRests, hagain.rlu, hyrlu]
      exact ⟨rfl, h.refund, h.pending⟩
    rewrite [← hy, gateTurns_more (gateTurn_takesUp hopen (by rw [hyrlu])),
      takeUpCharge_short (by rewrite [railValue, hyrlu]; exact ha), answerShort_unnoted hycall hyover hynoted,
      gateTurns_last (gateTurn_still (.inl hrests))]
    rewrite [hy] at hagain ⊢
    exact hshort.again hagain

/-! ## The coin's outcome -/

theorem retryOnCoin_noted {p : Part} (hcall : p.cc.call = .grace) (hcharge : p.rlu.charge.isSome = true) :
    retryOnCoin p = { p with cc.noted := true } := by
  rw [retryOnCoin, if_pos hcall, if_pos hcharge]

theorem retryOnCoin_sends {p : Part} (hcall : p.cc.call = .grace) (hcharge : p.rlu.charge = none) :
    retryOnCoin p = sendCharge p.cc.owed p := by
  rw [retryOnCoin, if_pos hcall, if_neg (by simp [hcharge])]

theorem callsEnd_coinNoted (s : State) (hdump : s.part.rlu.dump = .ended) (table : CoinTable) (m : Measurement)
    (k v : Nat) (hcall : s.part.cc.call = .grace) (hload : s.part.bpu.load ≠ some .start)
    (ht : s.part.cu.table = some table) (hclass : classifyCoin table m = .valid k v)
    (hnone : firstFailing v s.part = .none) (hcharge : s.part.rlu.charge.isSome = true)
    (hgate : s.part.rlu.gate = .vaulting) :
    ∃ t, exec (.coinMeasurement m.d m.a m.t) s = .next t ∧ t.part.cc.noted = true ∧ t.part.cc.call = .grace
      ∧ t.part.cc.low = lowKept s.part t.part
      ∧ t.part.rlu = { s.part.rlu with rail := s.part.rlu.rail ++ [{ type := k, value := v }] } := by
  have hrailed := coinRailed_railed k v m s.part
  have htake := takeMeasurement_grace hload hdump ht hclass hnone
  generalize coinRailed k v m s.part = r at *
  rewrite [retryOnCoin_noted (by rewrite [hrailed.cc]; exact hcall) (by rewrite [hrailed.rlu]; exact hcharge)] at htake
  have hkept := outcome_kept .notRejected k v .none m { r with cc.noted := true }
  generalize takeOutcome .notRejected (publishCoin k v .none m { r with cc.noted := true }) = t at *
  have hrlu : t.rlu = _ := hkept.rlu.trans hrailed.rlu
  rewrite [gateWork_still (.inr (.inl (by rewrite [hrlu]; exact hgate)))] at htake
  refine ⟨_, exec_coinMeasurement htake, ?_, ?_, ?_, hrlu⟩
  · rw [hkept.cc]
  · rewrite [hkept.cc]
    show r.cc.call = _
    rewrite [hrailed.cc]
    exact hcall
  · rewrite [hkept.cc]
    show r.cc.low = _
    rewrite [hrailed.cc]
    exact (lowKept_congr rfl rfl hkept.rlu hkept.rtu).symm

theorem callsEnd_coinSent (s : State) (hdump : s.part.rlu.dump = .ended) (hrefund : s.part.rlu.refund = none)
    (hpending : s.part.rlu.pendingRefund = false) (table : CoinTable) (m : Measurement)
    (k v : Nat) (hcall : s.part.cc.call = .grace) (hover : s.part.cc.graceOver = false)
    (hload : s.part.bpu.load ≠ some .start) (ht : s.part.cu.table = some table)
    (hclass : classifyCoin table m = .valid k v) (hnone : firstFailing v s.part = .none)
    (hcharge : s.part.rlu.charge = none) (hgate : s.part.rlu.gate = .hold)
    (hbanked : s.part.rlu.banked < s.part.cc.owed) :
    let rail := s.part.rlu.rail ++ [{ type := k, value := v }]
    ∃ t, exec (.coinMeasurement m.d m.a m.t) s = .next t ∧ t.part.cc.call = .grace
      ∧ t.part.cc.grace = s.part.cc.grace ∧ t.part.cc.owed = s.part.cc.owed
      ∧ (s.part.cc.owed ≤ s.part.rlu.banked + railValue s.part + v → t.part.cc.low = lowKept s.part t.part)
      ∧ (s.part.rlu.banked + railValue s.part + v < s.part.cc.owed → s.part.rtu.timing.state ≠ .idle →
        creditExamined s.part.cc.low s.part t.part)
      ∧ t.part.rlu = (if s.part.rlu.banked + railValue s.part + v < s.part.cc.owed then
          { s.part.rlu with rail := rail }
        else { s.part.rlu with
          rail := rail, charge := some { amount := s.part.cc.owed, collecting := true }
          gate := .vaulting, cycle := some { start := s.part.tick, limit := 400 } }) := by
  intro rail
  have hrailed := coinRailed_railed k v m s.part
  have htake := takeMeasurement_grace hload hdump ht hclass hnone
  generalize coinRailed k v m s.part = r at *
  rewrite [retryOnCoin_sends (by rewrite [hrailed.cc]; exact hcall) (by rewrite [hrailed.rlu]; exact hcharge)] at htake
  have hkept := outcome_kept .notRejected k v .none m (sendCharge r.cc.owed r)
  generalize takeOutcome .notRejected (publishCoin k v .none m (sendCharge r.cc.owed r)) = x at *
  have howed : r.cc.owed = s.part.cc.owed := by rw [hrailed.cc]
  have hrlu : x.rlu = { s.part.rlu with
      rail := rail, charge := some { amount := s.part.cc.owed, collecting := false } } := by
    rewrite [hkept.rlu]
    show Rlu.mk .. = _
    rw [hrailed.rlu, howed]
  have hcc : x.cc = { s.part.cc with low := lowKept s.part r } := by
    rewrite [hkept.cc]
    exact hrailed.cc
  have hrtu : x.rtu = s.part.rtu := hkept.rtu.trans hrailed.rtu
  have hlow : x.cc.low = lowKept s.part x := by
    have hhand : creditOnHand x = creditOnHand r := by
      rewrite [creditOnHand, creditOnHand, hrlu, hrailed.rlu]
      rfl
    rw [hcc, lowKept, lowKept, hhand, chargeStep_congr hrtu, chargeStep_congr hrailed.rtu]
  have hcause : x.bpu.causes.getLsbD 2 = s.part.bpu.causes.getLsbD 2 := hkept.cause.trans hrailed.cause
  have hcredit : Group.status 1 ∈ x.bpu.dirty := hkept.publishes.dirty _ hrailed.credit
  have htick : x.tick = s.part.tick := hkept.tick.trans hrailed.tick
  have hopen : GateOpen x := by
    constructor <;> rw [hrlu]
    · exact hdump
    · exact hgate
    · exact hrefund
    · exact hpending
  have hxowed : x.cc.owed = s.part.cc.owed := by rw [hcc]
  have hxbanked : x.rlu.banked = s.part.rlu.banked := by rw [hrlu]
  have hsum : x.rlu.banked + railValue x = s.part.rlu.banked + railValue s.part + v := by
    rewrite [railValue, hrlu]
    show _ + sumValues (s.part.rlu.rail ++ _) = _
    rw [sumValues_append_one, railValue, Nat.add_assoc]
  clear hkept hrailed
  by_cases hshort : s.part.rlu.banked + railValue s.part + v < s.part.cc.owed
  · have hretry := gateTurns_retryShort (2 * x.rlu.banked + 17) hopen (by rw [hrlu, hxowed]) (by rewrite [hsum, hxowed]; exact hshort)
      (by rewrite [hcc]; exact hcall) (by rewrite [hcc]; exact hover)
    rewrite [gateWork_turns] at htake
    generalize gateTurns (2 * x.rlu.banked + 17 + 3) x = t at *
    refine ⟨_, exec_coinMeasurement htake, ?_, ?_, ?_, fun hle => absurd hshort (not_lt.2 hle),
      fun _ hstate => creditExamined_after hlow hcause hcredit hstate ?_ ?_ hretry.rtu hretry.cause hretry.publishes, ?_⟩
    · rewrite [hretry.cc, hcc]
      exact hcall
    · rw [hretry.cc, hcc]
    · rw [hretry.cc, hcc]
    · rewrite [hretry.cc]
      exact if_neg (by rewrite [hrtu]; exact hstate)
    · rewrite [creditOnHand, hretry.rlu]
      rfl
    · rw [if_pos hshort, hretry.rlu, hrlu, ← hcharge]
  · have hcollects := gateTurns_collects (2 * x.rlu.banked + 18) hopen (a := s.part.cc.owed) (by rw [hrlu])
      (by rewrite [hxbanked]; exact hbanked) (by rewrite [hsum]; exact not_lt.1 hshort)
    obtain ⟨y, hy⟩ : ∃ y, y = { x with rlu.charge := some { amount := s.part.cc.owed, collecting := true } } := ⟨_, rfl⟩
    rewrite [gateWork_turns, hcollects, ← hy] at htake
    have hcycle := beginCycle_taken .vaulting y
    have hycc : y.cc = x.cc := by rw [hy]
    have hyrtu : y.rtu = x.rtu := by rw [hy]
    have hytick : y.tick = x.tick := by rw [hy]
    have hyrlu : y.rlu = { s.part.rlu with
        rail := rail, charge := some { amount := s.part.cc.owed, collecting := true } } := by
      rewrite [hy]
      show Rlu.mk .. = _
      rw [hrlu]
    have hyhand : creditOnHand y = creditOnHand x := by rewrite [hy]; rfl
    clear hy
    generalize beginCycle .vaulting y = t at *
    refine ⟨_, exec_coinMeasurement htake, ?_, ?_, ?_, fun _ => ?_, fun h => absurd h hshort, ?_⟩
    · rewrite [hcycle.cc, hycc, hcc]
      exact hcall
    · rw [hcycle.cc, hycc, hcc]
    · rw [hcycle.cc, hycc, hcc]
    · have htwice : lowKept y t = lowKept s.part t :=
        lowKept_twice (p := s.part) (q := y)
          (by rw [hycc, hlow, lowKept, lowKept, hyhand, chargeStep_congr hyrtu])
          (by rw [hyrtu, hrtu]) (by rewrite [creditOnHand, hcycle.rlu]; rfl) (chargeStep_congr hcycle.rtu)
      rewrite [hcycle.cc]
      exact htwice
    · rw [if_neg hshort, hcycle.rlu, hyrlu, hytick, htick]

/-- Settles O51, from the events that end a call, the answers to its charges, and the coin of GRACE. -/
theorem callsEnd : Obligations.CallsEnd := by
  unfold Obligations.CallsEnd
  intro s c
  refine ⟨callsEnd_release s c, callsEnd_grace s c, callsEnd_line s c, callsEnd_lineInFlight s c,
    fun hplaced hdump hrefund hpending hwaits => ⟨fun hcharge hgate howner hcharged _ => ?_,
      fun a coin rest hcharge hgate hrail => ⟨fun ha hcall hheld => ?_, fun hdue ha hcall hnoted hsettles => ?_,
        fun e hcall he hidle hload => ⟨fun ha => ?_, fun hdue ha => ?_⟩⟩,
      fun table m k v hcall hover hload ht hclass hnone => ⟨fun hcharge hgate => ?_, fun hcharge hgate hbanked => ?_⟩⟩⟩
  · exact callsEnd_answered s c hplaced hdump hrefund hpending hcharge hgate howner hcharged
  · exact callsEnd_collected s hdump hrefund hpending hwaits a coin rest hcharge hgate hrail ha hcall hheld
  · exact callsEnd_lost s c hplaced hdump a coin rest hcharge hgate hrail hdue ha hcall hnoted hsettles
  · obtain ⟨t, hexec, hdone, hrest⟩ := callsEnd_endingCharged s c hplaced hdump hrefund hpending hwaits a coin rest
      hcharge hgate hrail e hcall he hidle hload ha
    exact ⟨t, hexec, ⟨hdone.low, hdone.cause, hdone.released, hdone.line⟩, hrest⟩
  · obtain ⟨t, hexec, hdone, hrest⟩ := callsEnd_endingShort s c hplaced hdump hrefund hpending a coin rest
      hcharge hgate hrail e hcall he hidle hload hdue ha
    exact ⟨t, hexec, ⟨hdone.low, hdone.cause, hdone.released, hdone.line⟩, hrest⟩
  · exact callsEnd_coinNoted s hdump table m k v hcall hload ht hclass hnone hcharge hgate
  · exact callsEnd_coinSent s hdump hrefund hpending table m k v hcall hover hload ht hclass hnone hcharge hgate hbanked

end Sys2Proof.Machine
end

section
/-!
PROOFS. The hang-up (R31 to R33, R83, R141, R142): the settlement of the money, and the ending of what call there is.
-/

namespace Sys2Proof.Machine

/-! ## The settlement (R32, R33) -/

/-- A settlement has been made: banked credit is forfeited and a refund is pending; the call is as it was but for its
state and the low-credit flag. -/
structure Settled (p q : Part) : Prop where
  rlu : q.rlu = { p.rlu with banked := 0, pendingRefund := true, settlementDue := false }
  money : q.cau.money = (if p.rlu.banked = 0 then p.cau.money else { p.cau.money with
    forfeited := p.cau.money.forfeited + BitVec.ofNat 32 p.rlu.banked
    banked := p.cau.money.banked - p.rlu.banked })
  types : q.cau.types = p.cau.types
  load : q.cau.load = p.cau.load
  cc : ∃ low, q.cc = { p.cc with low := low, call := q.cc.call }
  rtu : q.rtu = p.rtu
  lu : q.lu = p.lu
  cru : q.cru = p.cru
  mem : q.mem = p.mem
  tick : q.tick = p.tick
  result : q.bpu.result = p.bpu.result
  waiting : q.bpu.waiting = p.bpu.waiting

set_option Elab.async false in
theorem bookForfeit_booking (p : Part) : Booking { p.rlu with banked := 0 } { p.cau.money with
    forfeited := p.cau.money.forfeited + BitVec.ofNat 32 p.rlu.banked
    banked := p.cau.money.banked - p.rlu.banked } p (bookForfeit p) := by
  constructor
  all_goals simp [bookForfeit, addTo]

theorem bookForfeit_waiting (p : Part) : (bookForfeit p).bpu.waiting = p.bpu.waiting := by
  unfold bookForfeit bookMoney
  rw [markRecord_frame]

/-- The refund that a settlement leaves pending follows the credit on hand (R106). -/
theorem owedChange_settled (p : Part) :
    let q := owedChange (fun p => { p with rlu.pendingRefund := true, rlu.settlementDue := false }) p
    q.rlu = { p.rlu with pendingRefund := true, settlementDue := false } ∧ q.cau = p.cau
    ∧ (∃ low, q.cc = { p.cc with low := low }) ∧ q.rtu = p.rtu ∧ q.lu = p.lu ∧ q.cru = p.cru ∧ q.mem = p.mem
    ∧ q.tick = p.tick ∧ q.bpu.result = p.bpu.result ∧ q.bpu.waiting = p.bpu.waiting := by
  unfold owedChange
  dsimp only
  split
  · exact ⟨rfl, rfl, ⟨p.cc.low, rfl⟩, rfl, rfl, rfl, rfl, rfl, rfl, rfl⟩
  · refine ⟨by simp, by simp, ⟨_, creditFollows_cc _ _⟩, by simp, by simp, by simp, by simp, by simp, by simp, ?_⟩
    rewrite [creditFollows_waiting]
    rfl

theorem settle_settled (p : Part) : Settled p (settle p) ∧ (settle p).cc.call = p.cc.call := by
  have hforfeit : ∃ q, (if p.rlu.banked = 0 then p else railChange bookForfeit p) = q
      ∧ q.rlu = { p.rlu with banked := 0 }
      ∧ q.cau.money = (if p.rlu.banked = 0 then p.cau.money else { p.cau.money with
          forfeited := p.cau.money.forfeited + BitVec.ofNat 32 p.rlu.banked
          banked := p.cau.money.banked - p.rlu.banked })
      ∧ q.cau.types = p.cau.types ∧ q.cau.load = p.cau.load ∧ (∃ low, q.cc = { p.cc with low := low }) ∧ q.rtu = p.rtu ∧ q.lu = p.lu
      ∧ q.cru = p.cru ∧ q.mem = p.mem ∧ q.tick = p.tick ∧ q.bpu.result = p.bpu.result
      ∧ q.bpu.waiting = p.bpu.waiting := by
    by_cases h : p.rlu.banked = 0
    · rewrite [if_pos h, if_pos h]
      exact ⟨p, rfl, by rw [← h], rfl, rfl, rfl, ⟨p.cc.low, rfl⟩, rfl, rfl, rfl, rfl, rfl, rfl, rfl⟩
    · rewrite [if_neg h, if_neg h]
      have htaken := railChange_taken (bookForfeit_booking p)
      refine ⟨_, rfl, htaken.rlu, htaken.money, htaken.types, htaken.load, ⟨_, htaken.cc⟩, htaken.rtu, htaken.lu, htaken.cru,
        htaken.mem, htaken.tick, htaken.result, ?_⟩
      exact (creditFollows_waiting _ _).trans (bookForfeit_waiting p)
  obtain ⟨q, hq, hrlu, hmoney, htypes, hload, ⟨low, hcc⟩, hrtu, hlu, hcru, hmem, htick, hresult, hwaiting⟩ := hforfeit
  have hsettle : settle p =
      owedChange (fun p => { p with rlu.pendingRefund := true, rlu.settlementDue := false }) q := by
    rewrite [← hq]
    rfl
  obtain ⟨krlu, kcau, ⟨klow, kcc⟩, krtu, klu, kcru, kmem, ktick, kresult, kwaiting⟩ := owedChange_settled q
  rewrite [hsettle]
  generalize owedChange (fun p => { p with rlu.pendingRefund := true, rlu.settlementDue := false }) q = t at *
  refine ⟨?_, by rw [kcc, hcc]⟩
  constructor
  case rlu => rw [krlu, hrlu]
  case money => rw [kcau, hmoney]
  case types => rw [kcau, htypes]
  case load => rw [kcau, hload]
  case cc => exact ⟨klow, by rw [kcc, hcc]⟩
  case rtu => exact krtu.trans hrtu
  case lu => exact klu.trans hlu
  case cru => exact kcru.trans hcru
  case mem => exact kmem.trans hmem
  case tick => exact ktick.trans htick
  case result => exact kresult.trans hresult
  case waiting => exact kwaiting.trans hwaiting

/-! ## The gate behind a settlement -/

/-- A settlement with no other gate work, and the gate's work behind it (R32, R33). -/
theorem gateWork_settled {p q : Part}
    (hrlu : q.rlu = { p.rlu with banked := 0, pendingRefund := true, settlementDue := false })
    (hforfeited : bankedForfeited p q) (htick : q.tick = p.tick) (hrests : gateRests p) (hdump : p.rlu.dump = .ended)
    (hgate : p.rlu.gate = .hold ∨ p.rlu.gate = .fault) :
    moneySettled p (gateWork q) ∧ RailAlone q (gateWork q) ∧ (∃ low, (gateWork q).cc = { q.cc with low := low })
    ∧ (gateWork q).bpu.waiting = q.bpu.waiting := by
  obtain ⟨hcharge, hrefund, hpending⟩ := hrests
  obtain hhold | hfault := hgate
  · have htaken := gateTurns_settles (2 * q.rlu.banked + 17) (p := q) (by rw [hrlu, hdump]) (by rw [hrlu, hhold])
      (by rw [hrlu, hcharge]) (by rw [hrlu, hrefund])
    rewrite [← gateWork_turns] at htaken
    generalize gateWork q = t at *
    have htrlu := htaken.rlu
    obtain ⟨low, hcc, -⟩ := htaken.cc
    rewrite [refundTaken, hrlu, htick] at htrlu
    refine ⟨⟨?_, fun hf => absurd (hhold.symm.trans hf) nofun, fun _ hrail => ?_, fun _ hrail => ?_⟩,
      htaken.alone, ⟨low, hcc⟩, htaken.waiting⟩
    · rewrite [bankedForfeited, htaken.alone.cau]
      exact hforfeited
    · rw [htrlu, if_neg (by simp [hrail]), ← hpending]
    · rw [htrlu, if_pos ⟨rfl, hrail⟩, ← hpending]
  · have hstill : gateStill q := .inr (.inr (.inr ⟨by rw [hrlu, hfault], by rw [hrlu, hcharge]⟩))
    rewrite [gateWork_still hstill]
    exact ⟨⟨hforfeited, fun _ => hrlu, fun hh => absurd (hfault.symm.trans hh) nofun,
      fun hh => absurd (hfault.symm.trans hh) nofun⟩, .refl q, ⟨q.cc.low, rfl⟩, rfl⟩

theorem moneySettled_congr {p b q t : Part} (hrlu : b.rlu = p.rlu) (hcau : b.cau = p.cau) (htick : b.tick = p.tick)
    (htrlu : t.rlu = q.rlu) (htcau : t.cau = q.cau) (h : moneySettled b q) : moneySettled p t := by
  unfold moneySettled bankedForfeited at h ⊢
  rewrite [htrlu, htcau, ← hrlu, ← hcau, ← htick]
  exact h

/-! ## The probe that may follow (R131) -/

/-- A due probe takes the line, and nothing of the call or the money. -/
structure ProbeKept (p q : Part) : Prop where
  cu : q.cu = p.cu
  rlu : q.rlu = p.rlu
  cau : q.cau = p.cau
  rtu : q.rtu = p.rtu
  cc : q.cc = p.cc
  cru : q.cru = p.cru
  mem : q.mem = p.mem
  tick : q.tick = p.tick
  result : q.bpu.result = p.bpu.result
  waiting : q.bpu.waiting = p.bpu.waiting
  lu : p.lu.line ≠ .idle → q.lu = p.lu
  publishes : Publishes p q

theorem probeAsk_kept (p : Part) : ProbeKept p (probeAsk p) := by
  have hinner := probeAsk_inner p
  have houter := probeAsk_outer p
  constructor
  case cu => exact inner_cu hinner
  case rlu => exact inner_rlu hinner
  case cau => exact inner_cau hinner
  case rtu => exact inner_rtu hinner
  case cc => exact inner_cc hinner
  case cru => exact probeAsk_cru p
  case mem => exact outer_mem houter
  case tick => exact outer_tick houter
  case result => exact inner_result hinner
  case waiting => exact congrArg (fun v => v.2.2.2.2.2.2.1) hinner
  case lu => exact fun h => by rw [probeAsk_busy h]
  case publishes => exact probeAsk_publishes p

/-! ## The hang-up -/

theorem exec_hangUp {s : State} (hdue : due s.part.cc.hangUp s.part) : exec .hangUpTimerExpiry s =
    .next { s with part := probeAsk (takeHangUp { s.part with cc.hangUp := none }) } := by
  show onPart (fun p => onExpiry p.cc.hangUp (fun p => probeAsk (takeHangUp { p with cc.hangUp := none })) p) s = _
  rw [onPart, onExpiry_due hdue]

/-- In IDLE and COLLECTING the hang-up settles the money and leaves the call IDLE. -/
theorem takeHangUp_resting {p : Part} (h : p.cc.call = .collecting ∨ p.cc.call = .idle) :
    takeHangUp p = gateWork (setCall .idle (hangUpSettlement p)) := by
  obtain h | h := h
  · unfold takeHangUp
    rw [h]
  · have hcall : (hangUpSettlement p).cc.call = .idle := by
      unfold hangUpSettlement
      split
      · exact h
      · exact (settle_settled p).2.trans h
    have hset : setCall .idle (hangUpSettlement p) = hangUpSettlement p := if_pos hcall
    rw [hset, takeHangUp, h]

theorem hangUpSettlement_settles {p : Part} (h : p.rlu.charge = none) : hangUpSettlement p = settle p := by
  rw [hangUpSettlement, if_neg (by simp [h])]

theorem hangUpSettlement_waits {p : Part} (h : p.rlu.charge.isSome = true) :
    hangUpSettlement p = { p with rlu.settlementDue := true } := by
  rw [hangUpSettlement, if_pos h]

theorem setCall_bpu (c : CallState) (p : Part) : (setCall c p).bpu.result = p.bpu.result
    ∧ (setCall c p).bpu.inFlight = p.bpu.inFlight ∧ (setCall c p).bpu.waiting = p.bpu.waiting := by
  unfold setCall
  split <;> exact ⟨rfl, rfl, rfl⟩

theorem Settled.called {p q : Part} (h : Settled p q) (c : CallState) : Settled p (setCall c q) := by
  have hframe := setCall_frame c q
  obtain ⟨hresult, -, hwaiting⟩ := setCall_bpu c q
  obtain ⟨low, hcc⟩ := h.cc
  constructor
  case rlu => rewrite [hframe]; exact h.rlu
  case money => rewrite [hframe]; exact h.money
  case types => rewrite [hframe]; exact h.types
  case load => rewrite [hframe]; exact h.load
  case cc => exact ⟨low, by rw [hframe, hcc]⟩
  case rtu => rewrite [hframe]; exact h.rtu
  case lu => rewrite [hframe]; exact h.lu
  case cru => rewrite [hframe]; exact h.cru
  case mem => rewrite [hframe]; exact h.mem
  case tick => rewrite [hframe]; exact h.tick
  case result => exact hresult.trans h.result
  case waiting => exact hwaiting.trans h.waiting

/-- The hang-up with no call to end: the money is settled, the call is IDLE, and a due probe may take the line. -/
structure HungUp (p t : Part) : Prop where
  settled : moneySettled p t
  call : t.cc.call = .idle
  cc : ∃ low, t.cc = { p.cc with low := low, call := .idle }
  rtu : t.rtu = p.rtu
  cru : t.cru = p.cru
  mem : t.mem = p.mem
  result : t.bpu.result = p.bpu.result
  waiting : t.bpu.waiting = p.bpu.waiting

theorem Settled.hungUp {p q : Part} (h : Settled p q) (hrests : gateRests p) (hdump : p.rlu.dump = .ended)
    (hgate : p.rlu.gate = .hold ∨ p.rlu.gate = .fault) : HungUp p (probeAsk (gateWork (setCall .idle q))) := by
  have hcall : (setCall .idle q).cc.call = .idle := by rw [setCall_frame]
  have hset := h.called .idle
  generalize setCall .idle q = r at *
  obtain ⟨low, hrcc⟩ := hset.cc
  obtain ⟨hsettled, halone, ⟨glow, hcc⟩, hwaiting⟩ := gateWork_settled hset.rlu
    ⟨hset.money, hset.types⟩ hset.tick hrests hdump hgate
  generalize gateWork r = g at *
  have hprobe := probeAsk_kept g
  generalize probeAsk g = t at *
  have htcc : t.cc = { p.cc with low := glow, call := .idle } := by rw [hprobe.cc, hcc, hrcc, hcall]
  constructor
  case settled => exact moneySettled_congr rfl rfl rfl hprobe.rlu hprobe.cau hsettled
  case call => rw [htcc]
  case cc => exact ⟨glow, htcc⟩
  case rtu => rw [hprobe.rtu, halone.rtu, hset.rtu]
  case cru => rw [hprobe.cru, halone.cru, hset.cru]
  case mem => rw [hprobe.mem, halone.mem, hset.mem]
  case result => rw [hprobe.result, halone.result, hset.result]
  case waiting => rw [hprobe.waiting, hwaiting, hset.waiting]

theorem hookActs_hangUp (s : State) (hdue : due s.part.cc.hangUp s.part)
    (hcall : s.part.cc.call = .collecting ∨ s.part.cc.call = .idle) (hrests : gateRests s.part)
    (hdump : s.part.rlu.dump = .ended) (hgate : s.part.rlu.gate = .hold ∨ s.part.rlu.gate = .fault) :
    ∃ t, exec .hangUpTimerExpiry s = .next t ∧ t.part.cc.call = .idle
      ∧ t.part.cc.hangUp = none ∧ t.part.cc.digits = s.part.cc.digits
      ∧ moneySettled s.part t.part ∧ t.part.rtu = s.part.rtu ∧ t.part.cru = s.part.cru
      ∧ t.part.mem = s.part.mem := by
  have hexec := exec_hangUp hdue
  obtain ⟨p, hp⟩ : ∃ p, p = { s.part with cc.hangUp := none } := ⟨_, rfl⟩
  have hpcc : p.cc = { s.part.cc with hangUp := none } := by rw [hp]
  have hprest : p.rlu = s.part.rlu ∧ p.cau = s.part.cau ∧ p.tick = s.part.tick ∧ p.rtu = s.part.rtu
      ∧ p.cru = s.part.cru ∧ p.mem = s.part.mem := by
    rewrite [hp]
    exact ⟨rfl, rfl, rfl, rfl, rfl, rfl⟩
  rewrite [← hp] at hexec
  clear hp
  obtain ⟨hrlu, hcau, htick, hrtu, hcru, hmem⟩ := hprest
  rewrite [takeHangUp_resting (by rewrite [hpcc]; exact hcall), hangUpSettlement_settles (by rewrite [hrlu]; exact hrests.1)] at hexec
  have hhung := (settle_settled p).1.hungUp (by rewrite [gateRests, hrlu]; exact hrests) (by rw [hrlu, hdump])
    (by rewrite [hrlu]; exact hgate)
  obtain ⟨low, hcc⟩ := hhung.cc
  exact ⟨_, hexec, hhung.call, by rw [hcc, hpcc], by rw [hcc, hpcc],
    moneySettled_congr hrlu hcau htick rfl rfl hhung.settled, hhung.rtu.trans hrtu, hhung.cru.trans hcru,
    hhung.mem.trans hmem⟩

/-! ## A charge in flight -/

theorem takeHangUp_waiting {p : Part} (h : p.cc.call = .collecting ∨ p.cc.call = .idle ∨ p.cc.call = .ending)
    (hflight : chargeInFlight p) : takeHangUp p =
      setCall (if p.cc.call = .ending then .ending else .idle) { p with rlu.settlementDue := true } := by
  have hstill (q : Part) (hrlu : q.rlu = { p.rlu with settlementDue := true }) : gateWork q = q := by
    refine gateWork_still (still_of_chargeInFlight ?_)
    unfold chargeInFlight
    rewrite [hrlu]
    exact hflight
  have hwaits := hangUpSettlement_waits hflight.1
  obtain h | h | h := h
  · rw [takeHangUp_resting (.inl h), hwaits, hstill _ (by rw [setCall_frame]), if_neg (by rewrite [h]; exact nofun)]
  · rw [takeHangUp_resting (.inr h), hwaits, hstill _ (by rw [setCall_frame]), if_neg (by rewrite [h]; exact nofun)]
  · have hset : setCall .ending { p with rlu.settlementDue := true } = { p with rlu.settlementDue := true } :=
      if_pos (by exact h)
    rewrite [if_pos h, hset, takeHangUp, h, hwaits]
    exact hstill _ rfl

theorem hookActs_hangUpWaits (s : State) (hdue : due s.part.cc.hangUp s.part)
    (hcall : s.part.cc.call = .collecting ∨ s.part.cc.call = .idle ∨ s.part.cc.call = .ending)
    (hflight : chargeInFlight s.part) :
    ∃ t, exec .hangUpTimerExpiry s = .next t
      ∧ t.part.cc = { s.part.cc with hangUp := none, call := if s.part.cc.call = .ending then .ending else .idle }
      ∧ t.part.rlu = { s.part.rlu with settlementDue := true }
      ∧ t.part.cau = s.part.cau ∧ t.part.mem = s.part.mem := by
  have hexec := exec_hangUp hdue
  rewrite [takeHangUp_waiting (by exact hcall) (by exact hflight), setCall_frame] at hexec
  refine ⟨_, hexec, ?_, ?_, ?_, ?_⟩
  · exact (probeAsk_kept _).cc
  · exact (probeAsk_kept _).rlu
  · exact (probeAsk_kept _).cau
  · exact (probeAsk_kept _).mem

theorem takeHangUp_ends {c : PlacedCall} {p : Part} (h : callHeld c p) : takeHangUp p =
    gateWork (endCall (if c.answer.isSome then .localClear else .abandoned) { p with rlu.settlementDue := true }) := by
  rewrite [← isAnswered_placed h.1]
  obtain ⟨-, h | h | h⟩ := h
  all_goals
    unfold takeHangUp
    rw [h]

theorem callEnding_probed {o : CallOutcome} {c : PlacedCall} {p q t : Part} (h : callEnding o c p q)
    (hprobe : ProbeKept q t) : callEnding o c p t := by
  obtain ⟨hcc, hrtu, hmarks, hmark, hcau, hcu, hcru, hmem, htick⟩ := h
  exact ⟨hprobe.cc.trans hcc, hprobe.rtu.trans hrtu,
    fun hs => ⟨hprobe.publishes.dirty _ (hmarks hs).1, hprobe.publishes.dirty _ (hmarks hs).2⟩,
    hprobe.publishes.dirty _ hmark, hprobe.cau.trans hcau, hprobe.cu.trans hcu, hprobe.cru.trans hcru,
    hprobe.mem.trans hmem, hprobe.tick.trans htick⟩

theorem hookActs_hangUpInFlight (s : State) (c : PlacedCall) (hdue : due s.part.cc.hangUp s.part)
    (hheld : callHeld c s.part) (hflight : chargeInFlight s.part) :
    ∃ t, exec .hangUpTimerExpiry s = .next t
      ∧ callEnding (if c.answer.isSome then .localClear else .abandoned) c { s.part with cc.hangUp := none } t.part
      ∧ t.part.rlu = { s.part.rlu with settlementDue := true }
      ∧ (s.part.lu.line ≠ .idle → t.part.lu = s.part.lu) := by
  have hexec := exec_hangUp hdue
  obtain ⟨p, hp⟩ : ∃ p, p = { s.part with cc.hangUp := none, rlu.settlementDue := true } := ⟨_, rfl⟩
  have hpheld : callHeld c p := by rewrite [hp]; exact hheld
  have hpflight : chargeInFlight p := by rewrite [hp]; exact hflight
  rewrite [takeHangUp_ends (c := c) (by exact hheld)] at hexec
  change exec .hangUpTimerExpiry s = .next { s with part := probeAsk (gateWork (endCall _
    { s.part with cc.hangUp := none, rlu.settlementDue := true })) } at hexec
  obtain ⟨hending, hrlu, hlu, -⟩ := endCall_inFlight
    (o := if c.answer.isSome then .localClear else .abandoned) hpheld hpflight.1
  rewrite [← hp, gateWork_ending hpheld hpflight] at hexec
  generalize endCall (if c.answer.isSome then .localClear else .abandoned) p = q at *
  have hprobe := probeAsk_kept q
  have hcalled := callEnding_probed hending hprobe
  rewrite [hp] at hcalled hrlu hlu
  exact ⟨_, hexec, hcalled, hprobe.rlu.trans hrlu, fun hline => (hprobe.lu (by rewrite [hlu]; exact hline)).trans hlu⟩

/-! ## The hang-up in RATING (R83) -/

/-- The lookup is abandoned, and DIAL is answered NOT_OFFHOOK. -/
def lookupLeft (p : Part) : Part := completeIf 1 .notOffhook (abandonLookup p)

theorem takeHangUp_rating {p : Part} (h : p.cc.call = .rating) :
    takeHangUp p = gateWork (setCall .idle (hangUpSettlement (lookupLeft p))) := by
  unfold takeHangUp
  rewrite [h]
  rfl

theorem lookupLeft_left {number : List Nat} {n : Nat} {p : Part} (hengine : p.rtu.engine = .lookup number n)
    (hverify : p.rtu.verifyDue = false) (hflight : p.bpu.inFlight = some 1) (hresult : p.bpu.result = .pending) :
    lookupLeft p = resulted .notOffhook (stopScan p) := by
  have hawaits : awaits 1 (stopScan p) = true := by
    show (p.bpu.inFlight == some 1 && p.bpu.result == .pending) = true
    rewrite [hflight, hresult]
    rfl
  unfold lookupLeft abandonLookup
  rewrite [hengine]
  dsimp only
  rewrite [beginVerify_none (by exact hverify), completeIf, if_pos hawaits]
  rfl

theorem hookActs_hangUpRating (s : State) (number : List Nat) (n : Nat) (hdue : due s.part.cc.hangUp s.part)
    (hcall : s.part.cc.call = .rating) (hengine : s.part.rtu.engine = .lookup number n)
    (hverify : s.part.rtu.verifyDue = false) (hflight : s.part.bpu.inFlight = some 1)
    (hresult : s.part.bpu.result = .pending) (hrests : gateRests s.part) (hdump : s.part.rlu.dump = .ended)
    (hgate : s.part.rlu.gate = .hold ∨ s.part.rlu.gate = .fault) :
    ∃ t, exec .hangUpTimerExpiry s = .next t ∧ t.part.cc.call = .idle
      ∧ t.part.bpu.result = .notOffhook ∧ t.part.cc.placed = s.part.cc.placed
      ∧ t.part.rtu = { s.part.rtu with engine := .idle }
      ∧ t.part.bpu.waiting = s.part.bpu.waiting.filter (fun r => !ofScan r.purpose)
      ∧ moneySettled s.part t.part ∧ t.part.mem = s.part.mem := by
  have hexec := exec_hangUp hdue
  rewrite [takeHangUp_rating (by exact hcall),
    lookupLeft_left (p := { s.part with cc.hangUp := none }) (by exact hengine) (by exact hverify) (by exact hflight)
      (by exact hresult)] at hexec
  obtain ⟨p, hp⟩ : ∃ p, p = resulted .notOffhook (stopScan { s.part with cc.hangUp := none }) := ⟨_, rfl⟩
  have hfacts : p.rlu = s.part.rlu ∧ p.cau = s.part.cau ∧ p.tick = s.part.tick
      ∧ p.rtu = { s.part.rtu with engine := .idle } ∧ p.mem = s.part.mem ∧ p.cc.placed = s.part.cc.placed
      ∧ p.bpu.result = .notOffhook
      ∧ p.bpu.waiting = s.part.bpu.waiting.filter (fun r => !ofScan r.purpose) := by
    rewrite [hp]
    exact ⟨rfl, rfl, rfl, rfl, rfl, rfl, rfl, rfl⟩
  rewrite [← hp] at hexec
  clear hp
  obtain ⟨hrlu, hcau, htick, hrtu, hmem, hplaced, hanswered, hwaiting⟩ := hfacts
  rewrite [hangUpSettlement_settles (by rewrite [hrlu]; exact hrests.1)] at hexec
  have hhung := (settle_settled p).1.hungUp (by rewrite [gateRests, hrlu]; exact hrests) (by rw [hrlu, hdump])
    (by rewrite [hrlu]; exact hgate)
  obtain ⟨low, hcc⟩ := hhung.cc
  exact ⟨_, hexec, hhung.call, hhung.result.trans hanswered, by rw [hcc, ← hplaced], hhung.rtu.trans hrtu,
    hhung.waiting.trans hwaiting, moneySettled_congr hrlu hcau htick rfl rfl hhung.settled, hhung.mem.trans hmem⟩

/-! ## The hang-up of a standing call (R33, R141, R142) -/

theorem recordCall_hangUp {c : PlacedCall} {e : EndingMark} {n : Nat} {p : Part} (h : p.cau.load = .ended) :
    (recordCall c e n p).cc.hangUp = p.cc.hangUp := by
  unfold recordCall
  rewrite [countEvent_ended (by rewrite [appendRecord_cau]; exact h), markRecord_frame]
  unfold appendRecord
  split <;> rfl

theorem leaveCall_hangUp (p : Part) : (leaveCall p).cc.hangUp = p.cc.hangUp := by
  unfold leaveCall enterCollecting clearDigits
  dsimp only
  split
  · rewrite [setCall_frame]
    split <;> rfl
  · rw [setCall_frame]

/-- A completion leaves TYPE COUNTS and the hang-up timer alone. -/
theorem completeEnding_beside {p : Part} (hload : p.cau.load = .ended) :
    (completeEnding p).cau.types = p.cau.types ∧ (completeEnding p).cc.hangUp = p.cc.hangUp := by
  unfold completeEnding
  cases p.cc.placed with
  | none => exact ⟨rfl, rfl⟩
  | some c =>
    dsimp only
    have hrelease : (releaseLine .customer p).cau = p.cau ∧ (releaseLine .customer p).cc = p.cc := by
      rewrite [releaseLine_frame]
      exact ⟨rfl, rfl⟩
    obtain ⟨hcau, hcc⟩ := hrelease
    rewrite [← hcau] at hload ⊢
    rewrite [← hcc]
    generalize releaseLine .customer p = q at *
    have hsettled : (settleIfDue q).cau.types = q.cau.types ∧ (settleIfDue q).cc.hangUp = q.cc.hangUp
        ∧ (settleIfDue q).cau.load = q.cau.load := by
      unfold settleIfDue
      split
      · obtain ⟨low, hcc⟩ := (settle_settled q).1.cc
        exact ⟨(settle_settled q).1.types, by rw [hcc], (settle_settled q).1.load⟩
      · exact ⟨rfl, rfl, rfl⟩
    obtain ⟨htypes, hhangUp, hload'⟩ := hsettled
    rewrite [← hload'] at hload
    rewrite [← htypes, ← hhangUp, completeIf_frame, unlockFor_frame]
    generalize settleIfDue q = r at *
    show (leaveCall _).cau.types = _ ∧ (leaveCall _).cc.hangUp = _
    rewrite [leaveCall_cau, leaveCall_hangUp, recordCall_types (by exact hload), recordCall_hangUp (by exact hload)]
    exact ⟨rfl, rfl⟩

/-- The ending of a standing call by its hang-up, with its settlement, before the gate's work. -/
structure HangUpEnded (o : CallOutcome) (c : PlacedCall) (p q : Part) : Prop where
  closed : callClosed { recordNow o c p with toRefund := p.rlu.rail.length - p.rlu.refund.getD 0 } c p q
  rlu : q.rlu = { p.rlu with banked := 0, pendingRefund := true, settlementDue := false }
  forfeited : bankedForfeited p q
  hangUp : q.cc.hangUp = p.cc.hangUp
  line : p.lu.owner = .customer → q.lu.line = .clearing ∧ q.lu.owner = .none

theorem endCall_hungUp {o : CallOutcome} {c : PlacedCall} {p : Part} (hstands : callStands c p)
    (hdump : p.rlu.dump = .ended) : HangUpEnded o c p (endCall o { p with rlu.settlementDue := true }) := by
  obtain ⟨hheld, hcharge, -, -, hload⟩ := hstands
  obtain ⟨r, hr⟩ : ∃ r, r = { p with rlu.settlementDue := true } := ⟨_, rfl⟩
  have hrheld : callHeld c r := by rewrite [hr]; exact hheld
  obtain ⟨⟨hcc, hrtu, -, -, hcau, -, -, hmem, htick⟩, hrlu, hlu, -⟩ := endingBegun_ending (o := o) hrheld
  rewrite [← hr, endCall_begun hrheld.1 (by rewrite [hr]; exact hcharge)]
  generalize endingBegun o c r = b at *
  have hbrlu : b.rlu = { p.rlu with settlementDue := true } := by rw [hrlu, hr]
  have hbtick : b.tick = p.tick := by rw [htick, hr]
  have hbcau : b.cau = p.cau := by rw [hcau, hr]
  have hbcache : b.rtu.cache = p.rtu.cache := by rw [hrtu, hr]
  have hbidle : b.rtu.timing.state = .idle := by rw [hrtu]
  have hbmem : b.mem = p.mem := by rw [hmem, hr]
  have hblu : b.lu = p.lu := by rw [hlu, hr]
  have hbcc : b.cc = { p.cc with
      call := .ending, placed := some { c with ending := some { outcome := o, tick := p.tick } }
      grace := none, graceOver := false, noted := false, owed := 0
      low := p.cc.low && p.rtu.timing.state == .idle } := by
    rw [hcc, hr]
  clear hcc hrtu hcau hmem htick hrlu hlu hr hrheld
  have hclosed := completeEnding_closed (p := b) (by rw [hbcc]) rfl (by rw [hbcc]) hbidle (by rw [hbcau, hload])
  obtain ⟨htypes, hhangUp⟩ := completeEnding_beside (p := b) (by rw [hbcau, hload])
  generalize completeEnding b = q at *
  dsimp only at hclosed
  obtain ⟨hclosed, -, -, -, -, -, -, hline, hqrlu, hmoney⟩ := hclosed
  have hcoins : coinsToRefund b = p.rlu.rail.length - p.rlu.refund.getD 0 := by
    rw [coinsToRefund, hbrlu, if_pos rfl, if_pos hdump]
  have hrecord : { recordKept { outcome := o, tick := p.tick }
        { c with ending := some { outcome := o, tick := p.tick } } b with toRefund := coinsToRefund b } =
      { recordNow o c p with toRefund := p.rlu.rail.length - p.rlu.refund.getD 0 } := by
    rewrite [hcoins]
    unfold recordKept recordNow
    rw [hbcc]
  rewrite [hrecord] at hclosed
  constructor
  case closed =>
    refine callClosed_congr rfl rfl rfl ?_ ?_ ?_ hbcache hbmem hbtick hclosed
    · rw [hbcc]
    · rewrite [hbcc]
      exact ⟨rfl, rfl, rfl, rfl⟩
    · rw [hbcau]
  case rlu => rw [hqrlu, hbrlu, if_pos rfl]
  case forfeited =>
    refine ⟨?_, by rw [htypes, hbcau]⟩
    rewrite [hmoney, hbcau, hbrlu, if_pos rfl]
    by_cases hbanked : p.rlu.banked = 0
    · rewrite [if_pos hbanked, hbanked]
      simp
    · rw [if_neg hbanked]
  case hangUp => rw [hhangUp, hbcc]
  case line => exact fun howner => hline (by rw [hblu, howner])

theorem hookActs_hangUpStands (s : State) (c : PlacedCall) (hdue : due s.part.cc.hangUp s.part)
    (hstands : callStands c s.part) (hdump : s.part.rlu.dump = .ended)
    (hgate : s.part.rlu.gate = .hold ∨ s.part.rlu.gate = .refunding ∨ s.part.rlu.gate = .fault)
    (hroom : s.part.cc.heldCount < 64) :
    let outcome : CallOutcome := if c.answer.isSome then .localClear else .abandoned
    ∃ t, exec .hangUpTimerExpiry s = .next t ∧ t.part.cc.call = (if s.part.cc.off then .collecting else .idle)
      ∧ t.part.cc.placed = none ∧ t.part.cc.hangUp = none ∧ t.part.rtu.timing.state = .idle
      ∧ (s.part.cc.producer, RingRecord.call
          { recordNow outcome c s.part with
            toRefund := s.part.rlu.rail.length - s.part.rlu.refund.getD 0 }) ∈ t.part.cc.records
      ∧ t.part.cau.calls.attempts = s.part.cau.calls.attempts + 1 ∧ cacheUnlocked c s.part t.part
      ∧ (s.part.lu.owner = .customer → t.part.lu.line = .clearing ∧ t.part.lu.owner = .none)
      ∧ (gateRests s.part → s.part.rlu.gate ≠ .refunding → moneySettled s.part t.part)
      ∧ (s.part.rlu.gate = .refunding ∨ s.part.rlu.gate = .fault →
        t.part.rlu = { s.part.rlu with banked := 0, pendingRefund := true, settlementDue := false }
        ∧ bankedForfeited s.part t.part)
      ∧ t.part.mem = s.part.mem := by
  intro outcome
  have hexec := exec_hangUp hdue
  rewrite [takeHangUp_ends (c := c) (by exact hstands.1)] at hexec
  have hended := endCall_hungUp (o := outcome) (p := { s.part with cc.hangUp := none }) (c := c) (by exact hstands)
    (by exact hdump)
  change exec .hangUpTimerExpiry s = .next { s with part := probeAsk (gateWork (endCall outcome
    { s.part with cc.hangUp := none, rlu.settlementDue := true })) } at hexec
  change HangUpEnded outcome c { s.part with cc.hangUp := none } (endCall outcome
    { s.part with cc.hangUp := none, rlu.settlementDue := true }) at hended
  generalize endCall outcome { s.part with cc.hangUp := none, rlu.settlementDue := true } = q at *
  have hrlu : q.rlu = { s.part.rlu with banked := 0, pendingRefund := true, settlementDue := false } := hended.rlu
  have hforfeited : bankedForfeited s.part q := hended.forfeited
  have htick : q.tick = s.part.tick := hended.closed.2.2.2.2.2.2.2.2.2.2
  have hstill (h : s.part.rlu.gate = .refunding ∨ s.part.rlu.gate = .fault) : gateWork q = q := by
    refine gateWork_still ?_
    obtain h | h := h
    · exact .inr (.inr (.inl (by rw [hrlu, h])))
    · exact .inr (.inr (.inr ⟨by rw [hrlu, h], by rewrite [hrlu]; exact hstands.2.1⟩))
  have hsettles (hrests : gateRests s.part) (hne : s.part.rlu.gate ≠ .refunding) :=
    gateWork_settled hrlu hforfeited htick hrests hdump (by
      obtain h | h | h := hgate
      · exact .inl h
      · exact absurd h hne
      · exact .inr h)
  have hwork : RailAlone q (gateWork q) ∧ ∃ low, (gateWork q).cc = { q.cc with low := low } := by
    obtain h | h := hgate
    · have hrests : gateRests s.part := by
        obtain hrests | hv | hr | ⟨hf, -⟩ := hstands.2.2.1
        · exact hrests
        · exact absurd (h.symm.trans hv) nofun
        · exact absurd (h.symm.trans hr) nofun
        · exact absurd (h.symm.trans hf) nofun
      obtain ⟨-, halone, hcc, -⟩ := hsettles hrests (by rewrite [h]; exact nofun)
      exact ⟨halone, hcc⟩
    · rewrite [hstill h]
      exact ⟨.refl q, q.cc.low, rfl⟩
  obtain ⟨halone, low, hcc⟩ := hwork
  have hclosed := callClosed_alone hended.closed ⟨low, hcc⟩ halone
  have hhangUp : (gateWork q).cc.hangUp = none := by rewrite [hcc]; exact hended.hangUp
  have hline : s.part.lu.owner = .customer → (gateWork q).lu.line = .clearing ∧ (gateWork q).lu.owner = .none := by
    rewrite [halone.lu]
    exact hended.line
  generalize gateWork q = g at *
  have hprobe := probeAsk_kept g
  generalize probeAsk g = t at *
  obtain ⟨hcall, hplaced, -, hidle, hrecord, -, hcounts, hunlocked, -, hmem, -⟩ := hclosed
  refine ⟨_, hexec, ?_, ?_, ?_, ?_, ?_, ?_, ?_, fun howner => ?_, fun hrests hne => ?_, fun h => ?_, hprobe.mem.trans hmem⟩
  · rw [hprobe.cc, hcall]
  · rw [hprobe.cc, hplaced]
  · rw [hprobe.cc, hhangUp]
  · rw [hprobe.rtu, hidle]
  · rewrite [hprobe.cc]
    exact (hrecord hroom).1
  · rw [hprobe.cau, hcounts]
  · unfold cacheUnlocked at hunlocked ⊢
    rewrite [hprobe.rtu]
    exact hunlocked
  · rewrite [hprobe.lu (by rewrite [(hline howner).1]; exact nofun)]
    exact hline howner
  · exact moneySettled_congr rfl rfl rfl hprobe.rlu hprobe.cau (hsettles hrests hne).1
  · refine ⟨?_, ?_⟩
    · rw [hprobe.rlu, hstill h, hrlu]
    · rewrite [bankedForfeited, hprobe.cau, hstill h]
      exact hforfeited

end Sys2Proof.Machine
end

section
/-!
PROOFS. The hook that rests and lifts (R110, R111, R131 to R133, R135, R167, R173), and O58.
-/

namespace Sys2Proof.Machine

/-! ## A raise with the handset lifted -/

/-- The line, and whether the hook has been quiet long enough for a report call (R167). -/
def quietView (p : Part) := (p.lu, p.cru.quietReached)

set_option Elab.async false in
theorem joinRecord_quiet {p : Part} (h : p.cru.quietReached = false) (k : ReportKind) (d s : Nat) :
    quietView (joinRecord k d s p) = quietView p := by
  unfold joinRecord
  dsimp only
  rw [reportAsk_unquiet]
  · split
    · unfold cancelBackoff
      split <;> rfl
    · rfl
  · split
    · unfold cancelBackoff
      split <;> exact h
    · exact h

theorem newRecord_quiet {p : Part} (h : p.cru.quietReached = false) (k : ReportKind) (d : Nat) :
    quietView (newRecord k d p) = quietView p := by
  unfold newRecord
  split
  · exact joinRecord_quiet h _ _ _
  · split
    · split
      · exact joinRecord_quiet (p := countDropped _) (by exact h) _ _ _
      · rfl
    · rfl

theorem raisedTable_quiet (k : Condition) (d : Nat) (p : Part) : quietView (raisedTable k d p) = quietView p := by
  rewrite [raisedTable_frame]
  rfl

/-- A raise with the hook not yet quiet asks for no report call, and leaves the line alone. -/
theorem raise_quiet {p : Part} (h : p.cru.quietReached = false) (k : Condition) (d : Nat) :
    (raise k d p).lu = p.lu := by
  have htable := raisedTable_quiet k d p
  have hquiet : (raisedTable k d p).cru.quietReached = false := (congrArg Prod.snd htable).trans h
  have hlu : (raisedTable k d p).lu = p.lu := congrArg Prod.fst htable
  rewrite [raise_eq]
  split
  · exact hlu
  · refine Eq.trans ?_ hlu
    unfold enqueueRaise
    split
    · rfl
    · split
      · exact congrArg Prod.fst (newRecord_quiet hquiet _ _)
      · rfl

/-! ## The hook's commands -/

/-- The part as a change of the hook finds it: the raw pin and its hold follow the command. -/
def hookSensed (off : Bool) (p : Part) : Part := { p with pins.hookOff := off, samplers.hook := { last := off, held := 30 } }

theorem exec_hookDebounced (off : Bool) (s : State) : exec (.hookDebounced off) s = .next { s with part :=
    (if s.part.cc.off = off then hookSensed off s.part
      else if off then hookUp (hookSensed off s.part) else hookDown (hookSensed off s.part)) } := rfl

/-- The handset is off its hook, before the lift or the flash is taken. -/
def lifted (p : Part) : Part := markS 0 { p with cc.off := true, cru.hookQuiet := none, cru.quietReached := false }

theorem hookUp_eq (p : Part) : hookUp p = liftLine
    (if (lifted p).cc.hangUp.isSome then takeFlash (lifted p) else takeLift (lifted p)) := rfl

theorem hookUp_flash {p : Part} (h : p.cc.hangUp.isSome = true) : hookUp p = liftLine (takeFlash (lifted p)) := by
  rw [hookUp_eq, if_pos (by exact h)]

theorem hookUp_lift {p : Part} (h : p.cc.hangUp = none) : hookUp p = liftLine (takeLift (lifted p)) := by
  have hnone : ¬ (lifted p).cc.hangUp.isSome = true := by
    show ¬ p.cc.hangUp.isSome = true
    simp [h]
  rw [hookUp_eq, if_neg hnone]

theorem liftLine_kept {p : Part} (h : p.lu.owner = .none) : liftLine p = p := by
  rw [liftLine, h]

/-! ## The lift and the flash -/

/-- The part as a flash is judged. -/
def flashTaken (p : Part) : Part := { p with cc.hangUp := none, cc.flashes := ticksWith 10000 p.cc.flashes p }

theorem takeFlash_eq (p : Part) : takeFlash p = restartAbuse (judgeFlashes (flashTaken p)) := rfl

/-- What a flash leaves. -/
structure FlashTaken (p q : Part) : Prop where
  cc : ∃ abuse, q.cc = { p.cc with hangUp := none, flashes := ticksWith 10000 p.cc.flashes p, abuse := abuse }
  active : isActive .hookAbuse q = true → q.cc.abuse = some { start := p.tick, limit := 60000 }
  inactive : isActive .hookAbuse q = false → q.cc.abuse = p.cc.abuse
  few : q.cc.flashes.length < 6 → q.cru = p.cru
  many : 6 ≤ q.cc.flashes.length → q.cru.rows = (raise .hookAbuse q.cc.flashes.length p).cru.rows
  lu : q.lu = p.lu
  rlu : q.rlu = p.rlu
  cau : q.cau = p.cau
  rtu : q.rtu = p.rtu
  mem : q.mem = p.mem
  tick : q.tick = p.tick

theorem takeFlash_taken {p : Part} (h : p.cru.quietReached = false) : FlashTaken p (takeFlash p) := by
  obtain ⟨f, hf⟩ : ∃ f, f = flashTaken p := ⟨_, rfl⟩
  have hfcc : f.cc = { p.cc with hangUp := none, flashes := ticksWith 10000 p.cc.flashes p } := by rewrite [hf]; rfl
  have hfrest : f.cru = p.cru ∧ f.lu = p.lu ∧ f.rlu = p.rlu ∧ f.cau = p.cau ∧ f.rtu = p.rtu ∧ f.mem = p.mem
      ∧ f.tick = p.tick := by
    rewrite [hf]
    exact ⟨rfl, rfl, rfl, rfl, rfl, rfl, rfl⟩
  rewrite [takeFlash_eq, ← hf]
  clear hf
  obtain ⟨hcru, hlu, hrlu, hcau, hrtu, hmem, htick⟩ := hfrest
  have hjudged : ∃ j, judgeFlashes f = j ∧ j.cc = f.cc ∧ j.lu = f.lu ∧ j.rlu = f.rlu ∧ j.cau = f.cau ∧ j.rtu = f.rtu
      ∧ j.mem = f.mem ∧ j.tick = f.tick ∧ (f.cc.flashes.length < 6 → j.cru = f.cru)
      ∧ (6 ≤ f.cc.flashes.length → j.cru.rows = (raise .hookAbuse f.cc.flashes.length f).cru.rows) := by
    by_cases hmany : 6 ≤ f.cc.flashes.length
    · refine ⟨_, if_pos hmany, raise_cc .., raise_quiet (by rewrite [hcru]; exact h) _ _, raise_rlu .., raise_cau ..,
        raise_rtu .., raise_mem .., raise_tick .., fun hfew => absurd hmany (not_le.2 hfew), fun _ => rfl⟩
    · exact ⟨_, if_neg hmany, rfl, rfl, rfl, rfl, rfl, rfl, rfl, fun _ => rfl, fun hm => absurd hm hmany⟩
  obtain ⟨j, hj, hjcc, hjlu, hjrlu, hjcau, hjrtu, hjmem, hjtick, hfew, hmany⟩ := hjudged
  rewrite [hj]
  clear hj
  have hrestart : restartAbuse j = { j with
      cc.abuse := if isActive .hookAbuse j then some { start := j.tick, limit := 60000 } else j.cc.abuse } := by
    unfold restartAbuse
    split <;> rfl
  rewrite [hrestart]
  have hlen : j.cc.flashes.length = f.cc.flashes.length := by rw [hjcc]
  constructor
  case cc => exact ⟨_, by dsimp only; rw [hjcc, hfcc]⟩
  case active =>
    intro hactive
    change isActive .hookAbuse j = true at hactive
    dsimp only
    rw [if_pos hactive, hjtick, htick]
  case inactive =>
    intro hinactive
    change isActive .hookAbuse j = false at hinactive
    dsimp only
    rw [if_neg (by rewrite [hinactive]; decide), hjcc, hfcc]
  case few => exact fun hlt => (hfew (by rewrite [← hlen]; exact hlt)).trans hcru
  case many =>
    intro hge
    have hrows := hmany (by rewrite [← hlen]; exact hge)
    show j.cru.rows = (raise .hookAbuse j.cc.flashes.length p).cru.rows
    rewrite [hrows, hlen]
    exact raise_rows_congr hcru (by rw [hrtu]) _ _
  case lu => exact hjlu.trans hlu
  case rlu => exact hjrlu.trans hrlu
  case cau => exact hjcau.trans hcau
  case rtu => exact hjrtu.trans hrtu
  case mem => exact hjmem.trans hmem
  case tick => exact hjtick.trans htick

/-- A lift of an IDLE call begins COLLECTING with no digits (R135); of any other call it does nothing. -/
theorem takeLift_idle {p : Part} (h : p.cc.call = .idle) : takeLift p = enterCollecting p := if_pos h

theorem takeLift_other {p : Part} (h : p.cc.call ≠ .idle) : takeLift p = p := if_neg h

theorem enterCollecting_frame (p : Part) : enterCollecting p = { p with
    cc.call := .collecting, cc.digits := [], cc.ignored := 0, bpu := (enterCollecting p).bpu } := by
  have hcleared : clearDigits p = { p with cc.digits := [], cc.ignored := 0, bpu := (clearDigits p).bpu } := by
    unfold clearDigits
    split
    next h => rw [← h.1, ← h.2]
    next => rfl
  have hset := setCall_frame .collecting (clearDigits p)
  unfold enterCollecting
  rewrite [hset]
  generalize (setCall .collecting (clearDigits p)).bpu = b
  rw [hcleared]

theorem enterCollecting_calls {p : Part} (h : p.cc.call = .idle) :
    (enterCollecting p).bpu.causes.getLsbD 0 = true ∧ Group.status 0 ∈ (enterCollecting p).bpu.dirty := by
  have hne : ¬ (clearDigits p).cc.call = .collecting := by
    unfold clearDigits
    split <;> (intro hc; exact absurd (h.symm.trans hc) nofun)
  unfold enterCollecting
  rewrite [setCall_of_ne hne]
  exact ⟨setCause_getLsbD .call _, (setCause_publishes .call _).marked⟩

/-! ## The line that the handset takes back (R111, R173) -/

/-- The handset is off, the hang-up timer is stopped, and nothing of the line, the conditions or the money has moved. -/
structure HandsetLifted (p q : Part) : Prop where
  off : q.cc.off = true
  hangUp : q.cc.hangUp = none
  call : q.cc.call = if p.cc.hangUp = none ∧ p.cc.call = .idle then .collecting else p.cc.call
  lu : q.lu = p.lu
  cru : q.cru = { p.cru with hookQuiet := none, quietReached := false }
  rlu : q.rlu = p.rlu
  cau : q.cau = p.cau
  mem : q.mem = p.mem
  tick : q.tick = p.tick

/-- A lift, or a flash that raises nothing. -/
theorem hookUp_lifted {p : Part} (h : p.cc.hangUp = none ∨ (ticksWith 10000 p.cc.flashes p).length < 6) :
    ∃ q, hookUp p = liftLine q ∧ HandsetLifted p q := by
  cases hhang : p.cc.hangUp with
  | none =>
    refine ⟨_, hookUp_lift hhang, ?_⟩
    by_cases hidle : p.cc.call = .idle
    · have hframe := enterCollecting_frame (lifted p)
      rewrite [takeLift_idle (by exact hidle)]
      generalize enterCollecting (lifted p) = q at *
      generalize q.bpu = b at hframe
      rewrite [hframe]
      exact ⟨rfl, hhang, (if_pos ⟨hhang, hidle⟩).symm, rfl, rfl, rfl, rfl, rfl, rfl⟩
    · rewrite [takeLift_other (by exact hidle)]
      exact ⟨rfl, hhang, (if_neg fun h => hidle h.2).symm, rfl, rfl, rfl, rfl, rfl, rfl⟩
  | some u =>
    have hsome : p.cc.hangUp.isSome = true := by rewrite [hhang]; rfl
    have hflash := takeFlash_taken (p := lifted p) rfl
    refine ⟨_, hookUp_flash hsome, ?_⟩
    generalize takeFlash (lifted p) = q at *
    obtain ⟨abuse, hcc⟩ := hflash.cc
    have hfew : q.cc.flashes.length < 6 := by
      obtain h | h := h
      · exact absurd (hhang.symm.trans h) nofun
      · rewrite [hcc]
        exact h
    refine ⟨by rewrite [hcc]; rfl, by rw [hcc], ?_, hflash.lu, hflash.few hfew, hflash.rlu, hflash.cau, hflash.mem,
      hflash.tick⟩
    rewrite [if_neg (fun hn => absurd hn.1 (by rewrite [hhang]; exact nofun)), hcc]
    rfl

/-- The record that was being sent is QUEUED again in its place (R173). -/
theorem requeueSending_requeued (p : Part) : recordRequeued p (requeueSending p)
    ∧ requeueSending p = { p with
      cru.queue := (requeueSending p).cru.queue, bpu := (requeueSending p).bpu } := by
  unfold requeueSending sendingRecord
  cases hfind : p.cru.queue.find? (·.sending) with
  | none => exact ⟨⟨fun _ => rfl, fun r hr => absurd (hfind.symm.trans hr) nofun⟩, rfl⟩
  | some r =>
    refine ⟨⟨fun hn => absurd (hfind.symm.trans hn) nofun, fun x hx => ?_⟩, rfl⟩
    obtain rfl : r = x := Option.some.inj (hfind.symm.trans hx)
    rfl

theorem closeReport_some (b : Bool) (p : Part) :
    closeReport (some b) p = countEvent (.report b) { p with cru.report := none } := rfl

theorem countEvent_frame (e : CountEvent) (p : Part) : countEvent e p = { p with
    bpu := (countEvent e p).bpu, cau := (countEvent e p).cau } := by
  unfold countEvent
  split
  · rw [markRecord_frame]
  · rfl

theorem countEvent_money (e : CountEvent) (p : Part) : (countEvent e p).cau.money = p.cau.money := by
  unfold countEvent
  split
  · rw [markRecord_frame]
  · rfl

theorem countEvent_calls {e : CountEvent} {p : Part} (h : p.cau.load = .ended) :
    (countEvent e p).cau.calls = addCounts e p.cau.calls := by
  rw [countEvent_ended h, markRecord_frame]

/-- A report call is over: its record is QUEUED again, and the call is counted where the outcome says so. -/
structure ReportOver (counted : Bool) (p q : Part) : Prop where
  cru : q.cru = { p.cru with report := none, queue := (requeueSending p).cru.queue }
  lu : q.lu = p.lu
  money : q.cau.money = p.cau.money
  calls : p.cau.load = .ended → q.cau.calls =
    if counted then { p.cau.calls with reportsSucceeded := p.cau.calls.reportsSucceeded + 1 } else p.cau.calls
  rlu : q.rlu = p.rlu
  cc : q.cc = p.cc
  mem : q.mem = p.mem
  tick : q.tick = p.tick

/-- A report call that the handset ends is no failure, and is counted where a frame was accepted (R173). -/
theorem reportLifted_over {c : ReportCall} {p : Part} (h : p.cru.report = some c) :
    ReportOver (decide (0 < c.accepted)) p (reportLifted p) := by
  have hframe := (requeueSending_requeued p).2
  obtain ⟨q, hq⟩ : ∃ q, q = { requeueSending p with cru.report := none } := ⟨_, rfl⟩
  have hfacts : q.cru = { p.cru with report := none, queue := (requeueSending p).cru.queue } ∧ q.lu = p.lu
      ∧ q.cau = p.cau ∧ q.rlu = p.rlu ∧ q.cc = p.cc ∧ q.mem = p.mem ∧ q.tick = p.tick := by
    rewrite [hq, hframe]
    exact ⟨rfl, rfl, rfl, rfl, rfl, rfl, rfl⟩
  have hclose : reportLifted p = if 0 < c.accepted then countEvent (.report true) q else q := by
    unfold reportLifted
    rewrite [h, hq]
    dsimp only
    split <;> rfl
  rewrite [hclose]
  clear hclose hq hframe
  obtain ⟨hcru, hlu, hcau, hrlu, hcc, hmem, htick⟩ := hfacts
  by_cases haccepted : 0 < c.accepted
  · have hcounted := countEvent_frame (.report true) q
    have hmoney := countEvent_money (.report true) q
    have hcalls := countEvent_calls (e := .report true) (p := q)
    have hrest : (countEvent (.report true) q).cru = q.cru ∧ (countEvent (.report true) q).lu = q.lu
        ∧ (countEvent (.report true) q).rlu = q.rlu ∧ (countEvent (.report true) q).cc = q.cc
        ∧ (countEvent (.report true) q).mem = q.mem ∧ (countEvent (.report true) q).tick = q.tick := by
      rewrite [hcounted]
      exact ⟨rfl, rfl, rfl, rfl, rfl, rfl⟩
    rewrite [if_pos haccepted, decide_eq_true haccepted]
    generalize countEvent (.report true) q = t at *
    obtain ⟨htcru, htlu, htrlu, htcc, htmem, httick⟩ := hrest
    refine ⟨htcru.trans hcru, htlu.trans hlu, hmoney.trans (by rw [hcau]), fun hload => ?_, htrlu.trans hrlu,
      htcc.trans hcc, htmem.trans hmem, httick.trans htick⟩
    rewrite [hcalls (by rewrite [hcau]; exact hload), hcau]
    rfl
  · rewrite [if_neg haccepted, decide_eq_false haccepted]
    exact ⟨hcru, hlu, by rw [hcau], fun _ => by rewrite [hcau]; rfl, hrlu, hcc, hmem, htick⟩

theorem liftLine_report {p : Part} (h : p.lu.owner = .report) : liftLine p = reportLifted (enterClearing p) := by
  rw [liftLine, h]

theorem liftLine_probe {p : Part} (h : p.lu.owner = .probe) : liftLine p = probeEnded (enterClearing p) := by
  rw [liftLine, h]

/-- What the end of a REPORT or PROBE call by the handset leaves (R111). -/
structure LineTakenBack (p q : Part) : Prop where
  lu : ∃ probe, q.lu = { clearedLu p.tick p.lu with probe := probe }
  rows : q.cru.rows = p.cru.rows
  failures : q.cru.failures = p.cru.failures
  backoff : q.cru.backoff = p.cru.backoff
  money : q.cau.money = p.cau.money
  rlu : q.rlu = p.rlu
  cc : q.cc = p.cc
  mem : q.mem = p.mem

/-- A probe that the handset ends starts its timer again while LINE_DOWN stands (R131). -/
theorem probeLifted (p : Part) : LineTakenBack p (probeEnded (enterClearing p))
    ∧ (probeEnded (enterClearing p)).cru = p.cru ∧ (probeEnded (enterClearing p)).cau = p.cau
    ∧ (probeEnded (enterClearing p)).lu.probe =
      (if isActive .lineDown p then some { start := p.tick, limit := 300000 } else p.lu.probe) := by
  have hactive : isActive .lineDown (enterClearing p) = isActive .lineDown p := rfl
  unfold probeEnded
  rewrite [hactive]
  split
  · exact ⟨⟨⟨_, rfl⟩, rfl, rfl, rfl, rfl, rfl, rfl, rfl⟩, rfl, rfl, rfl⟩
  · exact ⟨⟨⟨p.lu.probe, rfl⟩, rfl, rfl, rfl, rfl, rfl, rfl, rfl⟩, rfl, rfl, rfl⟩

theorem reportLifted_back (p : Part) : LineTakenBack p (reportLifted (enterClearing p))
    ∧ (reportLifted (enterClearing p)).lu.probe = p.lu.probe := by
  have hlu := enterClearing_lu p
  cases hreport : p.cru.report with
  | none =>
    have hstays : reportLifted (enterClearing p) = enterClearing p := by
      unfold reportLifted
      rw [show (enterClearing p).cru.report = none from hreport]
    rewrite [hstays]
    exact ⟨⟨⟨p.lu.probe, rfl⟩, rfl, rfl, rfl, rfl, rfl, rfl, rfl⟩, rfl⟩
  | some c =>
    have hover := reportLifted_over (c := c) (p := enterClearing p) hreport
    have hsame : (enterClearing p).cru = p.cru ∧ (enterClearing p).cau = p.cau ∧ (enterClearing p).rlu = p.rlu
        ∧ (enterClearing p).cc = p.cc ∧ (enterClearing p).mem = p.mem := ⟨rfl, rfl, rfl, rfl, rfl⟩
    generalize reportLifted (enterClearing p) = q at *
    obtain ⟨hcru, hcau, hrlu, hcc, hmem⟩ := hsame
    refine ⟨⟨⟨p.lu.probe, by rewrite [hover.lu, hlu]; rfl⟩, ?_, ?_, ?_, ?_, hover.rlu.trans hrlu, hover.cc.trans hcc,
      hover.mem.trans hmem⟩, by rewrite [hover.lu, hlu]; rfl⟩
    · rw [hover.cru, hcru]
    · rw [hover.cru, hcru]
    · rw [hover.cru, hcru]
    · rw [hover.money, hcau]

theorem hookActs_takesBack (s : State) (hoff : s.part.cc.off = false)
    (howner : s.part.lu.owner = .report ∨ s.part.lu.owner = .probe)
    (hflashes : s.part.cc.hangUp = none ∨ (ticksWith 10000 s.part.cc.flashes s.part).length < 6) :
    ∃ t, exec (.hookDebounced true) s = .next t ∧ t.part.cc.off = true ∧ t.part.cc.hangUp = none
      ∧ t.part.cc.call = (if s.part.cc.hangUp = none ∧ s.part.cc.call = .idle then .collecting else s.part.cc.call)
      ∧ t.part.lu.line = .clearing ∧ t.part.lu.owner = .none
      ∧ t.part.lu.clearing = some { start := s.part.tick, limit := 1000 }
      ∧ t.part.lu.sender.phase = .idle ∧ t.part.lu.failedSeizes = s.part.lu.failedSeizes
      ∧ t.part.cru.rows = s.part.cru.rows ∧ t.part.cru.failures = s.part.cru.failures
      ∧ t.part.cru.backoff = s.part.cru.backoff ∧ t.part.cau.money = s.part.cau.money
      ∧ t.part.rlu = s.part.rlu ∧ t.part.mem = s.part.mem
      ∧ (s.part.lu.owner = .probe → t.part.cru.queue = s.part.cru.queue ∧ t.part.cau = s.part.cau
        ∧ t.part.lu.probe = (if isActive .lineDown s.part then some { start := s.part.tick, limit := 300000 }
            else s.part.lu.probe))
      ∧ (∀ c, s.part.lu.owner = .report → s.part.cru.report = some c → t.part.cru.report = none
        ∧ recordRequeued s.part t.part ∧ t.part.lu.probe = s.part.lu.probe
        ∧ (s.part.cau.load = .ended → t.part.cau.calls =
            if 0 < c.accepted then
              { s.part.cau.calls with reportsSucceeded := s.part.cau.calls.reportsSucceeded + 1 }
            else s.part.cau.calls)) := by
  have hexec := exec_hookDebounced true s
  rewrite [if_neg (by rewrite [hoff]; decide), if_pos rfl] at hexec
  obtain ⟨q, hup, hlifted⟩ := hookUp_lifted (p := hookSensed true s.part) (by exact hflashes)
  rewrite [hup] at hexec
  have hlu : q.lu = s.part.lu := hlifted.lu
  have hcru : q.cru = { s.part.cru with hookQuiet := none, quietReached := false } := hlifted.cru
  have hcau : q.cau = s.part.cau := hlifted.cau
  have htick : q.tick = s.part.tick := hlifted.tick
  have hcall : q.cc.call = if s.part.cc.hangUp = none ∧ s.part.cc.call = .idle then .collecting else s.part.cc.call :=
    hlifted.call
  have hrlu : q.rlu = s.part.rlu := hlifted.rlu
  have hmem : q.mem = s.part.mem := hlifted.mem
  have hback : LineTakenBack q (liftLine q) := by
    obtain h | h := howner
    · rewrite [liftLine_report (by rw [hlu, h])]
      exact (reportLifted_back q).1
    · rewrite [liftLine_probe (by rw [hlu, h])]
      exact (probeLifted q).1
  obtain ⟨probe, hblu⟩ := hback.lu
  refine ⟨_, hexec, ?_, ?_, ?_, ?_, ?_, ?_, ?_, ?_, ?_, ?_, ?_, ?_, hback.rlu.trans hrlu, hback.mem.trans hmem,
    fun hprobe => ?_, fun c hreport hcall => ?_⟩
  · rw [hback.cc, hlifted.off]
  · rw [hback.cc, hlifted.hangUp]
  · rw [hback.cc, hcall]
  · rewrite [hblu]
    rfl
  · rewrite [hblu]
    rfl
  · rewrite [hblu, ← htick]
    rfl
  · rewrite [hblu]
    rfl
  · rewrite [hblu, ← hlu]
    rfl
  · rw [hback.rows, hcru]
  · rw [hback.failures, hcru]
  · rw [hback.backoff, hcru]
  · rw [hback.money, hcau]
  · obtain ⟨-, hpcru, hpcau, hpprobe⟩ := probeLifted q
    have hactive : isActive .lineDown q = isActive .lineDown s.part := isActive_congr (by rw [hcru]) _
    rewrite [liftLine_probe (by rw [hlu, hprobe])]
    exact ⟨by rw [hpcru, hcru], by rw [hpcau, hcau], by rw [hpprobe, hactive, htick, hlu]⟩
  · have hover := reportLifted_over (c := c) (p := enterClearing q) (by show q.cru.report = _; rewrite [hcru]; exact hcall)
    have hprobe := (reportLifted_back q).2
    have hqueue := (requeueSending_requeued (enterClearing q)).1
    rewrite [liftLine_report (by rw [hlu, hreport])]
    refine ⟨by rw [hover.cru], ?_, by rw [hprobe, hlu], fun hload => ?_⟩
    · have hsame : (enterClearing q).cru.queue = s.part.cru.queue := by
        show q.cru.queue = _
        rw [hcru]
      unfold recordRequeued at hqueue ⊢
      rewrite [hsame] at hqueue
      rewrite [hover.cru]
      exact hqueue
    · have hcalls := hover.calls (by show q.cau.load = _; rw [hcau, hload])
      rewrite [hcalls]
      show (if decide (0 < c.accepted) = true then
        { q.cau.calls with reportsSucceeded := q.cau.calls.reportsSucceeded + 1 } else q.cau.calls) = _
      rewrite [hcau]
      simp only [decide_eq_true_eq]

/-! ## The obligation -/

theorem hookActs_down (s : State) (hoff : s.part.cc.off = true) :
    let down := markS 0 { s.part with
      pins.hookOff := false
      samplers.hook := { last := false, held := 30 }
      cc.off := false
      cc.hangUp := some { start := s.part.tick, limit := 400 }
      cru.hookQuiet := some { start := s.part.tick, limit := 5000 }
      cru.quietReached := false }
    (s.part.lu.line ≠ .idle ∨ s.part.lu.probeDue = false ∨ s.part.lu.waitingSeize.isSome = true
        ∨ s.part.lu.settings = none → exec (.hookDebounced false) s = .next { s with part := down })
    ∧ (s.part.lu.probeDue = true → lineOpen down → exec (.hookDebounced false) s = .next
        { s with part := seized .probe [] { down with lu.probeDue := false } }) := by
  intro down
  have hexec : exec (.hookDebounced false) s = .next { s with part := probeAsk down } := by
    rewrite [exec_hookDebounced, if_neg (by rewrite [hoff]; decide), if_neg (by decide)]
    rfl
  rewrite [hexec]
  refine ⟨fun h => ?_, fun hdue hopen => ?_⟩
  · obtain h | h | h | h := h
    · rw [probeAsk_busy (by exact h)]
    · rw [probeAsk_none (by exact h)]
    · have hfree : lineFree down = false := by
        have hnone : s.part.lu.waitingSeize.isNone = false := by simpa using h
        show (s.part.lu.line == .idle && s.part.lu.waitingSeize.isNone && !false && s.part.lu.settings.isSome) = false
        rewrite [hnone, Bool.and_false]
        rfl
      rw [probeAsk, if_neg (by rewrite [hfree, Bool.and_false]; decide)]
    · have hfree : lineFree down = false := by
        show (s.part.lu.line == .idle && s.part.lu.waitingSeize.isNone && !false && s.part.lu.settings.isSome) = false
        rewrite [h]
        exact Bool.and_false _
      rw [probeAsk, if_neg (by rewrite [hfree, Bool.and_false]; decide)]
  · rw [probeAsk_granted (by exact hdue) hopen]

theorem hookActs_lifts (s : State) (hoff : s.part.cc.off = false) (hhang : s.part.cc.hangUp = none)
    (hcall : s.part.cc.call = .idle) (howner : s.part.lu.owner = .none) :
    ∃ t, exec (.hookDebounced true) s = .next t ∧ t.part.cc.off = true ∧ t.part.cc.call = .collecting
      ∧ t.part.cc.digits = [] ∧ t.part.cc.ignored = 0 ∧ t.part.cru.hookQuiet = none
      ∧ t.part.bpu.causes.getLsbD 0 = true ∧ Group.status 0 ∈ t.part.bpu.dirty ∧ t.part.pins.hookOff = true
      ∧ t.part.rlu = s.part.rlu ∧ t.part.cau = s.part.cau ∧ t.part.lu = s.part.lu ∧ t.part.mem = s.part.mem := by
  have hexec := exec_hookDebounced true s
  rewrite [if_neg (by rewrite [hoff]; decide), if_pos rfl, hookUp_lift (by exact hhang), takeLift_idle (by exact hcall)] at hexec
  obtain ⟨r, hr⟩ : ∃ r, r = lifted (hookSensed true s.part) := ⟨_, rfl⟩
  rewrite [← hr] at hexec
  have hcalls := enterCollecting_calls (p := r) (by rewrite [hr]; exact hcall)
  have hframe := enterCollecting_frame r
  generalize enterCollecting r = q at *
  have hfacts : q.cc = { r.cc with call := .collecting, digits := [], ignored := 0 } ∧ q.cru = r.cru ∧ q.rlu = r.rlu
      ∧ q.cau = r.cau ∧ q.lu = r.lu ∧ q.mem = r.mem ∧ q.pins = r.pins := by
    generalize q.bpu = b at hframe
    rewrite [hframe]
    exact ⟨rfl, rfl, rfl, rfl, rfl, rfl, rfl⟩
  obtain ⟨hcc, hcru, hrlu, hcau, hlu, hmem, hpins⟩ := hfacts
  rewrite [liftLine_kept (by rewrite [hlu, hr]; exact howner)] at hexec
  refine ⟨_, hexec, ?_, ?_, ?_, ?_, ?_, hcalls.1, hcalls.2, ?_, ?_, ?_, ?_, ?_⟩
  · rewrite [hcc, hr]
    rfl
  · rw [hcc]
  · rw [hcc]
  · rw [hcc]
  · rewrite [hcru, hr]
    rfl
  · rewrite [hpins, hr]
    rfl
  · rewrite [hrlu, hr]
    rfl
  · rewrite [hcau, hr]
    rfl
  · rewrite [hlu, hr]
    rfl
  · rewrite [hmem, hr]
    rfl

theorem hookActs_flashes (s : State) (hoff : s.part.cc.off = false) (hhang : s.part.cc.hangUp.isSome = true)
    (howner : s.part.lu.owner = .none) :
    ∃ t, exec (.hookDebounced true) s = .next t ∧ t.part.cc.off = true ∧ t.part.cc.hangUp = none
      ∧ t.part.cc.call = s.part.cc.call ∧ t.part.cc.digits = s.part.cc.digits
      ∧ t.part.cc.flashes = ticksWith 10000 s.part.cc.flashes s.part
      ∧ (isActive .hookAbuse t.part = true → t.part.cc.abuse = some { start := s.part.tick, limit := 60000 })
      ∧ (isActive .hookAbuse t.part = false → t.part.cc.abuse = s.part.cc.abuse)
      ∧ (t.part.cc.flashes.length < 6 → t.part.cru.rows = s.part.cru.rows)
      ∧ (6 ≤ t.part.cc.flashes.length →
          t.part.cru.rows = (raise .hookAbuse t.part.cc.flashes.length s.part).cru.rows)
      ∧ t.part.rlu = s.part.rlu ∧ t.part.cau = s.part.cau ∧ t.part.rtu = s.part.rtu ∧ t.part.mem = s.part.mem := by
  have hexec := exec_hookDebounced true s
  rewrite [if_neg (by rewrite [hoff]; decide), if_pos rfl, hookUp_flash (by exact hhang)] at hexec
  obtain ⟨r, hr⟩ : ∃ r, r = lifted (hookSensed true s.part) := ⟨_, rfl⟩
  rewrite [← hr] at hexec
  have htaken := takeFlash_taken (p := r) (by rewrite [hr]; rfl)
  generalize takeFlash r = q at *
  obtain ⟨abuse, hcc⟩ := htaken.cc
  rewrite [liftLine_kept (by rewrite [htaken.lu, hr]; exact howner)] at hexec
  have hrows (n : Nat) : (raise .hookAbuse n r).cru.rows = (raise .hookAbuse n s.part).cru.rows :=
    raise_rows_of_rows (by rewrite [hr]; rfl) (by rewrite [hr]; rfl) _ _
  have htick : r.tick = s.part.tick := by rewrite [hr]; rfl
  have habuse : r.cc.abuse = s.part.cc.abuse := by rewrite [hr]; rfl
  refine ⟨_, hexec, ?_, ?_, ?_, ?_, ?_, fun h => ?_, fun h => ?_, fun h => ?_, fun h => ?_, ?_, ?_, ?_, ?_⟩
  · rewrite [hcc, hr]
    rfl
  · rw [hcc]
  · rewrite [hcc, hr]
    rfl
  · rewrite [hcc, hr]
    rfl
  · rewrite [hcc, hr]
    rfl
  · rw [htaken.active h, htick]
  · rw [htaken.inactive h, habuse]
  · rewrite [htaken.few h, hr]
    rfl
  · rw [htaken.many h, hrows]
  · rewrite [htaken.rlu, hr]
    rfl
  · rewrite [htaken.cau, hr]
    rfl
  · rewrite [htaken.rtu, hr]
    rfl
  · rewrite [htaken.mem, hr]
    rfl

/-- Settles O58, from the hook's lifts and flashes and from the hang-up's settlement. -/
theorem hookActs : Obligations.HookActs := by
  unfold Obligations.HookActs
  intro s
  refine ⟨?_, hookActs_down s, hookActs_lifts s, hookActs_flashes s,
    fun hdue hcall hrests hdump hgate _ => hookActs_hangUp s hdue hcall hrests hdump hgate,
    hookActs_hangUpWaits s, hookActs_hangUpInFlight s,
    fun number n hdue hcall hengine hverify hflight hresult hrests hdump hgate _ =>
      hookActs_hangUpRating s number n hdue hcall hengine hverify hflight hresult hrests hdump hgate,
    hookActs_hangUpStands s, hookActs_takesBack s⟩
  rewrite [exec_hookDebounced, if_pos rfl]
  rfl

end Sys2Proof.Machine
end

section
/-!
PROOFS. The account load: a record read, the counts that came early, and a slot that the scrubber gives up
(03_the_cash_account.md, The start load and The scrubber).
-/

namespace Sys2Proof.Machine

/-! ## A hard slot -/

set_option Elab.async false in
/-- A mismatch on a slot that has a strike of the last 8 passes (R50): the strike goes, and the slot is hard. -/
theorem scrubMismatch_struck {n slot struck : Nat} {p : Part} (hstrike : p.cau.strikes.getD slot none = some struck)
    (hpass : p.cau.pass ≤ struck + 8) : scrubMismatch n slot p = hardSlot n slot
      { markS 4 (markSlot slot { p with cau.mismatches := countUp n p.cau.mismatches }) with
        cau.strikes := p.cau.strikes.set slot none } := by
  unfold scrubMismatch strikeSlot
  rewrite [show (markS 4 (markSlot slot { p with cau.mismatches := countUp n p.cau.mismatches })).cau.strikes.getD slot none
    = some struck from hstrike]
  exact if_neg fun h => by
    have : 8 < p.cau.pass - struck := h
    omega

theorem hardSlot_relocates {n slot spare : Nat} {others : List Nat} {p : Part} (hn : n ≠ 0) (hheader : 0 ∉ p.cau.faulted)
    (hspare : freeSpares p.cau.header = spare :: others) : hardSlot n slot p = relocate n slot spare p := by
  unfold hardSlot
  rewrite [hspare]
  exact if_neg (by simp [hn, hheader])

theorem hardSlot_raises {n slot : Nat} {p : Part}
    (h : n = 0 ∨ 0 ∈ p.cau.faulted ∨ freeSpares p.cau.header = []) :
    hardSlot n slot p = raise .accountFault (n + 16) p := by
  unfold hardSlot
  split
  case h_1 spare others hspare =>
    refine if_pos ?_
    rcases h with h | h | h
    · exact .inl h
    · exact .inr (by simpa using h)
    · rewrite [hspare] at h
      exact absurd h nofun
  case h_2 => rfl

theorem hardSlot_cases (n : Nat) (p : Part) :
    (∃ spare others, n ≠ 0 ∧ 0 ∉ p.cau.faulted ∧ freeSpares p.cau.header = spare :: others)
      ∨ (n = 0 ∨ 0 ∈ p.cau.faulted ∨ freeSpares p.cau.header = []) := by
  by_cases h : n = 0 ∨ 0 ∈ p.cau.faulted ∨ freeSpares p.cau.header = []
  · exact .inr h
  · obtain ⟨hn, hheader, hspares⟩ := not_or.1 h |>.imp_right not_or.1
    obtain ⟨spare, others, hspare⟩ := List.exists_cons_of_ne_nil hspares
    exact .inl ⟨spare, others, hn, hheader, hspare⟩

/-- What a hard slot leaves beside its own record's place (R50, R51). -/
theorem hardSlot_kept (n slot : Nat) (p : Part) : (hardSlot n slot p).cau.strikes = p.cau.strikes
    ∧ (hardSlot n slot p).cau.money = p.cau.money ∧ (hardSlot n slot p).rlu = p.rlu
    ∧ (hardSlot n slot p).mem = p.mem := by
  rcases hardSlot_cases n p with ⟨spare, others, hn, hheader, hspare⟩ | h
  · rewrite [hardSlot_relocates hn hheader hspare]
    exact ⟨rfl, rfl, rfl, rfl⟩
  · rewrite [hardSlot_raises h]
    exact ⟨by rw [raise_cau], by rw [raise_cau], raise_rlu .., raise_mem ..⟩

theorem accountLoads_hard (s : State) (n slot struck : Nat) (turn : ScrubTurn) (words : List Word)
    (hread : readAtPort (.scrub n slot) s.part) (hlen : words.length = 24) (hturn : s.part.cau.turn = some turn)
    (htouched : turn.touched = false) (hdiffer : words ≠ recordWords n s.part)
    (hstrike : s.part.cau.strikes.getD slot none = some struck) (hpass : s.part.cau.pass ≤ struck + 8) :
    ∃ t, exec (.scrubReadDone words) s = .next t ∧ t.part.cau.turn = none
      ∧ t.part.cau.strikes = s.part.cau.strikes.set slot none ∧ t.part.cau.money = s.part.cau.money
      ∧ t.part.rlu = s.part.rlu ∧ t.part.mem = s.part.mem
      ∧ (∀ spare others, n ≠ 0 → 0 ∉ s.part.cau.faulted → freeSpares s.part.cau.header = spare :: others →
          slot ≠ spare →
          t.part.cau.header = { slots := s.part.cau.header.slots.set (n - 1) spare
                                retired := s.part.cau.header.retired ++ [slot]
                                spares := s.part.cau.header.spares - 1 }
          ∧ t.part.cau.relocations =
            s.part.cau.relocations ++ [{ record := n, oldSlot := slot, newSlot := spare }]
          ∧ Group.account spare ∈ t.part.bpu.dirty ∧ Group.account slot ∉ t.part.bpu.dirty
          ∧ t.part.cru.rows = s.part.cru.rows)
      ∧ (n = 0 ∨ 0 ∈ s.part.cau.faulted ∨ freeSpares s.part.cau.header = [] →
          t.part.cau.header = s.part.cau.header ∧ Group.account slot ∈ t.part.bpu.dirty
          ∧ t.part.cru.rows = (raise .accountFault (n + 16) s.part).cru.rows) := by
  have hexec : exec (.scrubReadDone words) s
      = .next { s with part := endTurn (scrubMismatch n slot (freePort s.part)) } := by
    show onPart (readDone (scrubReader words)) s = _
    rewrite [onPart, readDone_read hread (f := scrubRead n slot words) (fun limit => by rw [scrubReader, fit_of_length hlen])
      (scrubRead_outer n slot words _)]
    unfold scrubRead
    rewrite [show (freePort s.part).cau.turn = some turn from hturn]
    refine congrArg (fun q => Host.Outcome.next { s with part := q }) (if_neg ?_)
    have hwords : words ≠ recordWords n (freePort s.part) := hdiffer
    simp [htouched, hwords]
  rewrite [scrubMismatch_struck (p := freePort s.part) hstrike hpass] at hexec
  obtain ⟨r, hr⟩ : ∃ r, r = ({ markS 4 (markSlot slot { freePort s.part with
        cau.mismatches := countUp n (freePort s.part).cau.mismatches }) with
      cau.strikes := (freePort s.part).cau.strikes.set slot none } : Part) := ⟨_, rfl⟩
  rewrite [← hr] at hexec
  have hmarked : Group.account slot ∈ r.bpu.dirty := by
    rewrite [hr]
    exact mem_insertGroup_of_mem (mem_insertGroup_self _ _)
  have hfaulted : r.cau.faulted = s.part.cau.faulted := by rewrite [hr]; rfl
  have hheader : r.cau.header = s.part.cau.header := by rewrite [hr]; rfl
  obtain ⟨hstrikes, hmoney, hrlu, hmem⟩ := hardSlot_kept n slot r
  refine ⟨_, hexec, rfl, hstrikes.trans (by rewrite [hr]; rfl), hmoney.trans (by rewrite [hr]; rfl), hrlu.trans (by rewrite [hr]; rfl),
    hmem.trans (by rewrite [hr]; rfl), fun spare others hn hzero hspare hother => ?_, fun h => ?_⟩
  · rewrite [hardSlot_relocates hn (by rewrite [hfaulted]; exact hzero) (by rewrite [hheader]; exact hspare)]
    refine ⟨by rewrite [← hheader]; rfl, ?_, mem_insertGroup_self _ _, fun hmem => ?_, ?_⟩
    · show r.cau.relocations ++ _ = _
      rw [show r.cau.relocations = s.part.cau.relocations by rewrite [hr]; rfl]
    · rcases mem_insertGroup_iff.1 hmem with h | h
      · exact hother (Group.account.inj h)
      · have hkept : Group.account slot ∈ r.bpu.dirty.filter (· != .account slot) := h
        simp at hkept
    · show r.cru.rows = _
      rewrite [hr]
      rfl
  · rewrite [hardSlot_raises (by rewrite [hfaulted, hheader]; exact h)]
    refine ⟨?_, (raise_publishes ..).dirty _ hmarked, raise_rows_congr (by rewrite [hr]; rfl) (by rewrite [hr]; rfl) _ _⟩
    show (raise .accountFault (n + 16) r).cau.header = _
    rw [raise_cau, hheader]

/-! ## A record read -/

/-- The record `n` as the start load takes it (R45 to R47). -/
def recordTaken (n : Nat) (words : List Word) (p : Part) : Part :=
  if recordGood n words then takeRecord n words p else faultRecord n p

/-- The account with record `n` blank and faulted. -/
def recordBlanked (n : Nat) (p : Part) : Part := { blankRecord n p with cau.faulted := p.cau.faulted ++ [n] }

/-- The state that the raise for a record leaves a raise to go on from. -/
def recordJudged (n : Nat) (words : List Word) (p : Part) : Part :=
  if recordGood n words then p else raise .accountFault n p

theorem takeRecord_frame (n : Nat) (words : List Word) (p : Part) :
    takeRecord n words p = { p with cau := (takeRecord n words p).cau } := by
  unfold takeRecord
  split <;> rfl

theorem blankRecord_frame (n : Nat) (p : Part) : blankRecord n p = { p with cau := (blankRecord n p).cau } := by
  unfold blankRecord
  split <;> rfl

/-- What a record that is read changes: the shadow, and the conditions where it is not good. -/
structure RecordRead (n : Nat) (words : List Word) (p q : Part) : Prop where
  cau : q.cau = (if recordGood n words then takeRecord n words p else recordBlanked n p).cau
  line : lineView q = lineView (recordJudged n words p)
  rlu : q.rlu = p.rlu
  cc : q.cc = p.cc
  cu : q.cu = p.cu
  mem : q.mem = p.mem
  port : q.bpu.port = p.bpu.port
  waiting : q.bpu.waiting = p.bpu.waiting
  queue : q.bpu.hostQueue = p.bpu.hostQueue

theorem recordTaken_read (n : Nat) (words : List Word) (p : Part) : RecordRead n words p (recordTaken n words p) := by
  unfold recordTaken
  split
  case isTrue h =>
    constructor
    case cau => rw [if_pos h]
    case line =>
      rewrite [recordJudged, if_pos h, takeRecord_frame]
      rfl
    all_goals
      rw [takeRecord_frame]
  case isFalse h =>
    have hblank : markS 4 (recordBlanked n p) = { p with
        bpu.dirty := (markS 4 (recordBlanked n p)).bpu.dirty, cau := (recordBlanked n p).cau } := by
      rewrite [recordBlanked, blankRecord_frame]
      rfl
    have hfault : faultRecord n p = raise .accountFault n (markS 4 (recordBlanked n p)) := rfl
    generalize markS 4 (recordBlanked n p) = r at hblank hfault
    rewrite [hfault]
    have hinner := raise_inner .accountFault n r
    have houter := raise_outer .accountFault n r
    constructor
    case cau => rw [if_neg h, inner_cau hinner, hblank]
    case line =>
      rewrite [recordJudged, if_neg h]
      exact raise_lineView (by rewrite [hblank]; rfl) _ _
    case rlu => rw [inner_rlu hinner, hblank]
    case cc => rw [inner_cc hinner, hblank]
    case cu => rw [raise_cu, hblank]
    case mem => rw [outer_mem houter, hblank]
    case port => rw [inner_port hinner, hblank]
    case waiting =>
      rw [show (raise .accountFault n r).bpu.waiting = r.bpu.waiting by
        simp only [inner, Prod.mk.injEq] at hinner
        exact hinner.2.2.2.2.2.2.1, hblank]
    case queue => rw [outer_hostQueue houter, hblank]

/-! ## The counts that came early -/

theorem countEvent_loaded {e : CountEvent} {p : Part} (h : isLoaded 3 p = true) : countEvent e p = { p with
    bpu.dirty := (countEvent e p).bpu.dirty
    cau.turn := (countEvent e p).cau.turn
    cau.calls := addCounts e p.cau.calls } := by
  unfold countEvent
  rw [if_pos h, markRecord_frame]

theorem foldl_countEvent : ∀ (events : List CountEvent) {p : Part}, isLoaded 3 p = true → ∃ dirty turn,
    events.foldl (fun p e => countEvent e p) p = { p with
      bpu.dirty := dirty
      cau.turn := turn
      cau.calls := events.foldl (fun c e => addCounts e c) p.cau.calls }
  | [], p, _ => ⟨p.bpu.dirty, p.cau.turn, rfl⟩
  | e :: events, p, h => by
    have hone := countEvent_loaded (e := e) h
    have hloaded : isLoaded 3 (countEvent e p) = true := by
      rewrite [hone]
      exact h
    obtain ⟨dirty, turn, hrest⟩ := foldl_countEvent events hloaded
    refine ⟨dirty, turn, ?_⟩
    rewrite [List.foldl_cons, hrest, hone]
    rfl

/-- Record 3 in place, the counts that came before it are added (R46). -/
theorem applyEarly_eq {p : Part} (h : isLoaded 3 p = true) : ∃ dirty turn, applyEarly p = { p with
    bpu.dirty := dirty
    cau.turn := turn
    cau.early := []
    cau.calls := p.cau.early.foldl (fun c e => addCounts e c) p.cau.calls } :=
  foldl_countEvent p.cau.early (p := { p with cau.early := [] }) h

/-- The counts that came before record 3, added with it. -/
def earlyApplied (n : Nat) (p : Part) : Part := if n = 3 then applyEarly p else p

theorem earlyApplied_eq {n : Nat} {p : Part} (hload : p.cau.load = .reading (n + 1)) : ∃ dirty turn,
    earlyApplied n p = { p with
      bpu.dirty := dirty
      cau.turn := turn
      cau.early := if n = 3 then [] else p.cau.early
      cau.calls := if n = 3 then p.cau.early.foldl (fun c e => addCounts e c) p.cau.calls else p.cau.calls } := by
  unfold earlyApplied
  by_cases h : n = 3
  · obtain ⟨dirty, turn, happlied⟩ := applyEarly_eq (p := p) (by rewrite [isLoaded, hload, h]; rfl)
    exact ⟨dirty, turn, by rw [if_pos h, if_pos h, if_pos h, happlied]⟩
  · exact ⟨p.bpu.dirty, p.cau.turn, by rw [if_neg h, if_neg h, if_neg h]⟩

/-! ## A record of the load -/

theorem loadSlot_next {n : Nat} {words : List Word} {head : Bool} {p : Part} (hload : p.cau.load = .reading n)
    (hn : n < 4) : loadSlot n words head p =
      (let q := earlyApplied n { recordTaken n words p with cau.load := .reading (n + 1) }
       requestRead (.startLoad (n + 1) (slotOf (n + 1) q)) q) := by
  unfold loadSlot
  rewrite [if_pos hload]
  exact if_pos hn

theorem loadSlot_last {words : List Word} {head : Bool} {p : Part} (hload : p.cau.load = .reading 4) :
    loadSlot 4 words head p = endAccountLoad head { recordTaken 4 words p with cau.load := .reading 5 } := by
  unfold loadSlot
  rewrite [if_pos hload]
  rfl

theorem exec_startLoadSlotRead {s : State} {n slot : Nat} {words : List Word} {head : Bool}
    (hread : readAtPort (.startLoad n slot) s.part) (hlen : words.length = 24) :
    exec (.startLoadSlotRead words head) s
      = .next { s with part := serve (loadSlot n words head (freePort s.part)) } := by
  obtain ⟨hqueue, limit, hport⟩ := hread
  show onPart (readDone (loadReader words head)) s = _
  rw [onPart, readDone_serves hport (f := loadSlot n words head) (by rw [loadReader, fit_of_length hlen])]

/-- The shadow, after each record of 0 to 3, as the load has it (R45 to R47). -/
theorem recordRead_shadow {n : Nat} {words : List Word} {p q : Part} (h : RecordRead n words p q) (hn : n < 4) :
    q.cau.faulted = (if recordGood n words then p.cau.faulted else p.cau.faulted ++ [n])
    ∧ q.cau.header = (if n = 0 then (if recordGood n words then headerOf words else Header.default) else p.cau.header)
    ∧ q.cau.money = (if n = 1 then (if recordGood n words then moneyOf words else Money.zero) else p.cau.money)
    ∧ q.cau.types = (if n = 2 then (if recordGood n words then typesOf words else TypeCounts.zero) else p.cau.types)
    ∧ q.cau.calls = (if n = 3 then (if recordGood n words then callsOf words else CallCounts.zero) else p.cau.calls)
    ∧ q.cau.early = p.cau.early ∧ q.cau.last = p.cau.last := by
  rewrite [h.cau]
  match n, hn with
  | 0, _ => cases recordGood 0 words <;> exact ⟨rfl, rfl, rfl, rfl, rfl, rfl, rfl⟩
  | 1, _ => cases recordGood 1 words <;> exact ⟨rfl, rfl, rfl, rfl, rfl, rfl, rfl⟩
  | 2, _ => cases recordGood 2 words <;> exact ⟨rfl, rfl, rfl, rfl, rfl, rfl, rfl⟩
  | 3, _ => cases recordGood 3 words <;> exact ⟨rfl, rfl, rfl, rfl, rfl, rfl, rfl⟩

theorem accountLoads_records (s : State) (n slot : Nat) (words : List Word) (head : Bool)
    (hread : readAtPort (.startLoad n slot) s.part) (hlen : words.length = 24) (hn : n < 4)
    (hload : s.part.cau.load = .reading n) :
    let good := recordGood n words
    ∃ t, exec (.startLoadSlotRead words head) s = .next t ∧ t.part.cau.load = .reading (n + 1)
      ∧ t.part.bpu.port = none
      ∧ t.part.bpu.waiting = s.part.bpu.waiting ++
        [{ purpose := .startLoad (n + 1) (slotOf (n + 1) t.part), limit := none }]
      ∧ t.part.cau.faulted = (if good then s.part.cau.faulted else s.part.cau.faulted ++ [n])
      ∧ t.part.cru.rows = (if good then s.part.cru.rows else (raise .accountFault n s.part).cru.rows)
      ∧ t.part.cau.header = (if n = 0 then (if good then headerOf words else Header.default) else s.part.cau.header)
      ∧ t.part.cau.money = (if n = 1 then (if good then moneyOf words else Money.zero) else s.part.cau.money)
      ∧ t.part.cau.types = (if n = 2 then (if good then typesOf words else TypeCounts.zero) else s.part.cau.types)
      ∧ t.part.cau.calls = (if n = 3 then
          s.part.cau.early.foldl (fun c e => addCounts e c) (if good then callsOf words else CallCounts.zero)
        else s.part.cau.calls)
      ∧ t.part.cau.early = (if n = 3 then [] else s.part.cau.early) ∧ t.part.cau.last = s.part.cau.last
      ∧ t.part.rlu = s.part.rlu ∧ t.part.cc = s.part.cc ∧ t.part.mem = s.part.mem := by
  intro good
  have hexec := exec_startLoadSlotRead (head := head) hread hlen
  rewrite [loadSlot_next (p := freePort s.part) hload hn] at hexec
  have htaken := recordTaken_read n words (freePort s.part)
  generalize recordTaken n words (freePort s.part) = r at hexec htaken
  obtain ⟨hfaulted, hheader, hmoney, htypes, hcalls, hearly, hlast⟩ := recordRead_shadow htaken hn
  have hrows : r.cru.rows = if good then s.part.cru.rows else (raise .accountFault n s.part).cru.rows := by
    rewrite [(lineView_iff.1 htaken.line).1, recordJudged]
    cases hgood : recordGood n words with
    | true => rewrite [if_pos rfl, if_pos hgood]; rfl
    | false =>
      rewrite [if_neg nofun, if_neg (ne_true_of_eq_false hgood)]
      exact raise_rows_congr (p := s.part) (q := freePort s.part) rfl rfl .accountFault n
  obtain ⟨u, hu⟩ : ∃ u, u = earlyApplied n { r with cau.load := .reading (n + 1) } := ⟨_, rfl⟩
  have hexec : exec (.startLoadSlotRead words head) s
      = .next { s with part := serve (requestRead (.startLoad (n + 1) (slotOf (n + 1) u)) u) } := by
    rewrite [hu]
    exact hexec
  obtain ⟨dirty, turn, hframe⟩ := earlyApplied_eq (p := { r with cau.load := .reading (n + 1) }) (hload := rfl)
  rewrite [← hu] at hframe
  have hqueue : u.bpu.hostQueue = [] := by
    rewrite [hframe]
    exact htaken.queue.trans hread.1
  rewrite [serve_idle (by exact hqueue)] at hexec
  clear hu
  refine ⟨_, hexec, ?_, ?_, ?_, ?_, ?_, ?_, ?_, ?_, ?_, ?_, ?_, ?_, ?_, ?_⟩
  · show u.cau.load = _
    rw [hframe]
  · show u.bpu.port = _
    rewrite [hframe]
    exact htaken.port
  · show u.bpu.waiting ++ _ = _
    rewrite [show u.bpu.waiting = s.part.bpu.waiting by rewrite [hframe]; exact htaken.waiting]
    rfl
  · show u.cau.faulted = _
    rewrite [hframe]
    exact hfaulted
  · show u.cru.rows = _
    rewrite [hframe]
    exact hrows
  · show u.cau.header = _
    rewrite [hframe]
    exact hheader
  · show u.cau.money = _
    rewrite [hframe]
    exact hmoney
  · show u.cau.types = _
    rewrite [hframe]
    exact htypes
  · show u.cau.calls = _
    rewrite [hframe]
    dsimp only
    rewrite [hcalls, hearly]
    by_cases h3 : n = 3
    · rewrite [if_pos h3, if_pos h3, if_pos h3]
      rfl
    · rewrite [if_neg h3, if_neg h3, if_neg h3]
      rfl
  · show u.cau.early = _
    rewrite [hframe]
    dsimp only
    rewrite [hearly]
    rfl
  · show u.cau.last = _
    rewrite [hframe]
    exact hlast
  · show u.rlu = _
    rewrite [hframe]
    exact htaken.rlu
  · show u.cc = _
    rewrite [hframe]
    exact htaken.cc
  · show u.mem = _
    rewrite [hframe]
    exact htaken.mem

end Sys2Proof.Machine
end

section
/-!
PROOFS. The start-up dump: its turns, its ends, and the coins that come back in it
(02_the_escrow_rail_and_credit.md, The start-up dump).
-/

namespace Sys2Proof.Machine

/-! ## What the dump touches -/

/-- The account but for its money, whose booking marks a scrub turn. -/
def accountSide (p : Part) : Cau := { p.cau with money := Money.zero, turn := none }

set_option Elab.async false in
theorem accountSide_of_cau {p q : Part} (h : q.cau = p.cau) : accountSide q = accountSide p := by
  rw [accountSide, accountSide, h]

@[simp] theorem bookMoney_accountSide (f : Money → Money) (p : Part) :
    accountSide (bookMoney f p) = accountSide p := by
  unfold bookMoney
  rewrite [markRecord_frame]
  rfl

/-- The rail unit and the account's money come to `r` and `m`, the conditions and the line to those of `l`, and
nothing else that the start-up dump works on changes. -/
structure Dumped (r : Rlu) (m : Money) (l p q : Part) : Prop where
  rlu : q.rlu = r
  money : q.cau.money = m
  line : lineView q = lineView l
  side : accountSide q = accountSide p
  mem : q.mem = p.mem
  call : q.cc.call = p.cc.call
  cu : q.cu = p.cu
  queue : q.bpu.hostQueue = p.bpu.hostQueue

theorem Dumped.cru {r : Rlu} {m : Money} {l p q : Part} (h : Dumped r m l p q) : q.cru = l.cru :=
  (lineView_iff.1 h.line).1

theorem Dumped.tick {r : Rlu} {m : Money} {l p q : Part} (h : Dumped r m l p q) : q.tick = l.tick :=
  (lineView_iff.1 h.line).2.2.2.2.1

theorem Dumped.next {r r' : Rlu} {m m' : Money} {l l' p q t : Part} (h : Dumped r m l p q)
    (h' : Dumped r' m' l' q t) : Dumped r' m' l' p t where
  rlu := h'.rlu
  money := h'.money
  line := h'.line
  side := h'.side.trans h.side
  mem := h'.mem.trans h.mem
  call := h'.call.trans h.call
  cu := h'.cu.trans h.cu
  queue := h'.queue.trans h.queue

theorem Dumped.then {r r' : Rlu} {m m' : Money} {l p q t : Part} (h : Dumped r m l p q) (h' : Dumped r' m' q q t) :
    Dumped r' m' l p t :=
  { h.next h' with line := h'.line.trans h.line }

theorem Dumped.railChange {f : Part → Part} {r : Rlu} {m : Money} {l p : Part} (h : Dumped r m l p (f p)) :
    Dumped r m l p (railChange f p) where
  rlu := (railChange_rlu f p).trans h.rlu
  money := (congrArg Cau.money (railChange_cau f p)).trans h.money
  line := by
    obtain ⟨hcru, hclock, hlu, hoff, htick, hloop⟩ := lineView_iff.1 h.line
    exact lineView_iff.2 ⟨by rw [railChange_cru, hcru], by rw [railChange_rtu, hclock], by rw [railChange_lu, hlu],
      by rw [railChange_off, hoff], by rw [railChange_tick, htick], by rw [railChange_pins, hloop]⟩
  side := (accountSide_of_cau (railChange_cau f p)).trans h.side
  mem := (railChange_mem f p).trans h.mem
  call := by rewrite [railChange_cc]; exact h.call
  cu := (railChange_cu f p).trans h.cu
  queue := (outer_hostQueue (p := f p) (q := Machine.railChange f p)
    (by simp [Machine.railChange])).trans h.queue

theorem Dumped.raise {r : Rlu} {m : Money} {l p q : Part} (h : Dumped r m l p q) (k : Condition) (d : Nat) :
    Dumped r m (raise k d l) p (raise k d q) where
  rlu := (raise_rlu k d q).trans h.rlu
  money := (congrArg Cau.money (raise_cau k d q)).trans h.money
  line := raise_lineView h.line k d
  side := (accountSide_of_cau (raise_cau k d q)).trans h.side
  mem := (raise_mem k d q).trans h.mem
  call := (congrArg Cc.call (raise_cc k d q)).trans h.call
  cu := (raise_cu k d q).trans h.cu
  queue := (outer_hostQueue (raise_outer k d q)).trans h.queue

theorem Dumped.thresholds {r : Rlu} {m : Money} {l p q : Part} (h : Dumped r m l p q) (near full : Bool) (n : Nat) :
    Dumped r m (thresholdsRaised near full n l) p (thresholdsRaised near full n q) := by
  have hline := thresholdsRaised_lineView h.line near full n
  have hkept : ∀ {u : Part} (k : Condition), Dumped r m u p u → Dumped r m (Machine.raise k n u) p (Machine.raise k n u) :=
    fun k hu => hu.raise k n
  have hself : Dumped r m (thresholdsRaised near full n q) p (thresholdsRaised near full n q) := by
    have hq : Dumped r m q p q := { h with line := rfl }
    unfold thresholdsRaised
    dsimp only
    split <;> split <;> first | exact hkept _ (hkept _ hq) | exact hkept _ hq | exact hq
  exact { hself with line := hline }

theorem Dumped.headSeen (head : Bool) (p : Part) :
    Dumped p.rlu p.cau.money p p { p with pins.headOccupied := head } :=
  ⟨rfl, rfl, rfl, rfl, rfl, rfl, rfl, rfl⟩

/-- A change of the rail unit that is booked as money (R43). -/
theorem Dumped.booked {f : Money → Money} {m : Money} (r : Rlu) (p : Part) (hm : f p.cau.money = m) :
    Dumped r m p p (bookMoney f { p with rlu := r }) where
  rlu := bookMoney_rlu f _
  money := (bookMoney_cau_money f _).trans hm
  line := by simp [lineView]
  side := bookMoney_accountSide f _
  mem := bookMoney_mem f _
  call := by rw [bookMoney_cc]
  cu := bookMoney_cu f _
  queue := outer_hostQueue (bookMoney_outer f _)

theorem Dumped.beginCycle (g : GateState) (p : Part) :
    Dumped { p.rlu with gate := g, cycle := some { start := p.tick, limit := 400 } } p.cau.money p p (beginCycle g p) :=
  Dumped.railChange (f := fun p => { p with rlu.gate := g, rlu.cycle := some (newTimer 400 p) })
    ⟨rfl, rfl, rfl, rfl, rfl, rfl, rfl, rfl⟩

theorem Dumped.endDump {p : Part} (h : gateStill p) :
    Dumped { p.rlu with dump := .ended } p.cau.money p p (endDump p) := by
  have hended := Dumped.railChange (f := fun p => { p with rlu.dump := .ended }) (p := p) (l := p)
    (r := { p.rlu with dump := .ended }) (m := p.cau.money) ⟨rfl, rfl, rfl, rfl, rfl, rfl, rfl, rfl⟩
  unfold Machine.endDump
  generalize Machine.railChange (fun p => { p with rlu.dump := .ended }) p = q at hended
  have hmarked : Dumped q.rlu q.cau.money q q (markS 0 q) := ⟨rfl, rfl, rfl, rfl, rfl, rfl, rfl, rfl⟩
  have hstill : gateStill (markS 0 q) := by
    have hq : (markS 0 q).rlu = { p.rlu with dump := .ended } := hended.rlu
    unfold gateStill gateRests
    rewrite [hq]
    exact h
  rewrite [gateWork_still hstill]
  obtain ⟨hrlu, hmoney⟩ : q.rlu = { p.rlu with dump := .ended } ∧ q.cau.money = p.cau.money := ⟨hended.rlu, hended.money⟩
  rewrite [hrlu, hmoney] at hmarked
  exact hended.then hmarked

/-! ## The dump's turns -/

theorem dumpTurn_goesOn {k : Nat} {p : Part} (hdump : p.rlu.dump = .running k) (hk : k < 8) :
    Dumped { p.rlu with gate := .refunding, cycle := some { start := p.tick, limit := 400 } } p.cau.money p p
      (dumpTurn true p) := by
  have hturn : dumpTurn true p = beginCycle .refunding { p with pins.headOccupied := true } := by
    unfold dumpTurn
    dsimp only
    rewrite [hdump]
    exact (if_pos rfl).trans (if_neg (by omega))
  rewrite [hturn]
  exact (Dumped.headSeen true p).then (Dumped.beginCycle .refunding { p with pins.headOccupied := true })

/-- The eighth unbooked return (R38). -/
theorem dumpTurn_eighth {k : Nat} {p : Part} (hdump : p.rlu.dump = .running k) (hk : 8 ≤ k)
    (hcharge : p.rlu.charge = none) : Dumped { p.rlu with gate := .fault, dump := .ended } p.cau.money
      (raise .coinJam 50 p) p (dumpTurn true p) := by
  have hstop : ∀ q : Part, Dumped { q.rlu with gate := .fault } q.cau.money q q
      (railChange (fun p => { p with rlu.gate := .fault }) q) := fun q =>
    Dumped.railChange (f := fun p => { p with rlu.gate := .fault }) ⟨rfl, rfl, rfl, rfl, rfl, rfl, rfl, rfl⟩
  have hfault := ((Dumped.headSeen true p).then (hstop _)).raise .coinJam 50
  have hturn : dumpTurn true p = endDump (raise .coinJam 50
      (railChange (fun p => { p with rlu.gate := .fault }) { p with pins.headOccupied := true })) := by
    unfold dumpTurn
    dsimp only
    rewrite [hdump]
    exact (if_pos rfl).trans (if_pos hk)
  rewrite [hturn]
  generalize raise .coinJam 50
    (railChange (fun p => { p with rlu.gate := .fault }) { p with pins.headOccupied := true }) = q at hfault
  have hended := Dumped.endDump (p := q) (.inr (.inr (.inr ⟨by rw [hfault.rlu], by rewrite [hfault.rlu]; exact hcharge⟩)))
  rewrite [hfault.rlu, hfault.money] at hended
  exact hfault.then hended

/-- The money as the dump's end leaves it, with the coins on the rail lost (R37). -/
def moneyLeft (rail : List Coin) (m : Money) : Money :=
  if rail.isEmpty then m
  else { m with suspense := m.suspense + BitVec.ofNat 32 (sumValues rail), railTypes := [], railCount := 0 }

/-- The state that the dump's end leaves the conditions of, with the coins on the rail lost (R37). -/
def jamLeft (rail : List Coin) (p : Part) : Part :=
  match rail with
  | [] => p
  | d :: _ => raise .coinJam (30 + d.type) p

/-- The coins on the rail lost to suspense (R37). -/
def loseRail (p : Part) : Part :=
  bookMoney (fun m => { m with suspense := addTo m.suspense (railValue p), railTypes := [], railCount := 0 })
    { p with rlu.rail := [] }

theorem dumpTurn_stops {k : Nat} {p : Part} (hdump : p.rlu.dump = .running k) (hrests : gateRests p) :
    Dumped { p.rlu with rail := [], dump := .ended } (moneyLeft p.rlu.rail p.cau.money) (jamLeft p.rlu.rail p) p
      (dumpTurn false p) := by
  obtain ⟨r, hr⟩ : ∃ r, r = ({ p with pins.headOccupied := false } : Part) := ⟨_, rfl⟩
  have hturn : dumpTurn false p = dumpHeadEmpty r := by
    rewrite [hr]
    unfold dumpTurn
    dsimp only
    rewrite [hdump]
    exact if_neg nofun
  have hfree : Dumped p.rlu p.cau.money p p r := by
    rewrite [hr]
    exact ⟨rfl, rfl, rfl, rfl, rfl, rfl, rfl, rfl⟩
  clear hr
  rewrite [hturn]
  unfold dumpHeadEmpty
  cases hrail : p.rlu.rail with
  | nil =>
    have hended := Dumped.endDump (p := r) (.inl (by unfold gateRests; rewrite [hfree.rlu]; exact hrests))
    rewrite [hfree.rlu, hfree.money] at hended
    rewrite [show r.rlu.rail = [] by rw [hfree.rlu, hrail]]
    have hsame : ({ p.rlu with rail := [], dump := .ended } : Rlu) = { p.rlu with dump := .ended } := by rw [← hrail]
    rewrite [hsame]
    exact hfree.then hended
  | cons c rest =>
    rewrite [show r.rlu.rail = c :: rest by rw [hfree.rlu, hrail]]
    have hlost := hfree.then (Dumped.railChange (f := loseRail) (Dumped.booked { r.rlu with rail := [] } r
      (m := moneyLeft (c :: rest) p.cau.money) (by
        rewrite [hfree.money, show railValue r = sumValues (c :: rest) by rw [railValue, hfree.rlu, hrail]]
        rfl)))
    rewrite [hfree.rlu] at hlost
    have hjammed := hlost.raise .coinJam (30 + c.type)
    show Dumped _ _ _ p (endDump (raise .coinJam (30 + c.type) (railChange loseRail r)))
    generalize raise .coinJam (30 + c.type) (railChange loseRail r) = q at hjammed
    have hended := Dumped.endDump (p := q) (.inl (by unfold gateRests; rewrite [hjammed.rlu]; exact hrests))
    rewrite [hjammed.rlu, hjammed.money] at hended
    exact hjammed.then hended

/-! ## A confirm and a missing confirm in the dump -/

/-- What a confirm of the dump books (R37): the head entry, or an unbooked return. -/
def dumpBooked (n : Nat) (p : Part) : Part :=
  match p.rlu.rail with
  | c :: _ => bookRefund c (endCycle .hold p)
  | [] => countUnbooked n (endCycle .hold p)

theorem dumpBooked_entry {c : Coin} {rest : List Coin} {n : Nat} {p : Part} (hrail : p.rlu.rail = c :: rest)
    (hwaits : p.rlu.clearWaits = false) : Dumped { p.rlu with rail := rest, gate := .hold, cycle := none }
      { p.cau.money with
        refunded := p.cau.money.refunded + BitVec.ofNat 32 c.value
        railTypes := p.cau.money.railTypes.drop 1
        railCount := p.cau.money.railCount - 1 } p p (railChange (dumpBooked n) p) := by
  refine Dumped.railChange (f := dumpBooked n) ?_
  have hbooked : dumpBooked n p = bookMoney (fun m => dropHeadType { m with refunded := addTo m.refunded c.value })
      { p with rlu := { p.rlu with rail := rest, gate := .hold, cycle := none } } := by
    unfold dumpBooked
    rewrite [hrail, endCycle_plain hwaits]
    show bookMoney _ { p with rlu := { p.rlu with rail := p.rlu.rail.drop 1, gate := .hold, cycle := none } } = _
    rewrite [hrail]
    rfl
  rewrite [hbooked]
  exact Dumped.booked _ p rfl

theorem dumpBooked_unbooked {n : Nat} {p : Part} (hrail : p.rlu.rail = []) (hwaits : p.rlu.clearWaits = false) :
    Dumped { p.rlu with gate := .hold, cycle := none, dump := .running (n + 1) }
      { p.cau.money with unbooked := min 65535 (p.cau.money.unbooked + 1) } p p (railChange (dumpBooked n) p) := by
  refine Dumped.railChange (f := dumpBooked n) ?_
  have hbooked : dumpBooked n p = bookMoney (fun m => { m with unbooked := satAdd 65535 m.unbooked })
      { p with rlu := { p.rlu with gate := .hold, cycle := none, dump := .running (n + 1) } } := by
    unfold dumpBooked
    rewrite [hrail, endCycle_plain hwaits]
    rfl
  rewrite [hbooked]
  exact Dumped.booked _ p rfl

theorem exec_returnConfirm_dump {s : State} {n : Nat} {head : Bool} (hgate : s.part.rlu.gate = .refunding)
    (hdump : s.part.rlu.dump = .running n) : ∃ p, Dumped s.part.rlu s.part.cau.money s.part s.part p
      ∧ exec (.returnConfirm head) s = .next { s with part := dumpTurn head (railChange (dumpBooked n) p) } := by
  refine ⟨{ returnInterrupted s.part with pins.headOccupied := head }, ⟨rfl, rfl, rfl, rfl, rfl, rfl, rfl, rfl⟩, ?_⟩
  show onPart (fun p => returnSensor head { returnInterrupted p with pins.headOccupied := head }) s = _
  rewrite [onPart, returnSensor, if_pos (by exact hgate)]
  have hd : ({ returnInterrupted s.part with pins.headOccupied := head } : Part).rlu.dump = .running n := hdump
  unfold refundDone
  rewrite [hd]
  rfl

theorem dumpConfirm_entry (s : State) (n : Nat) (head : Bool) (hgate : s.part.rlu.gate = .refunding)
    (hdump : s.part.rlu.dump = .running n) (hrests : gateRests s.part) (hwaits : s.part.rlu.clearWaits = false)
    (c : Coin) (rest : List Coin) : s.part.rlu.rail = c :: rest → n < 8 → ∃ t, exec (.returnConfirm head) s = .next t
      ∧ t.part.rlu = (if head then
            { s.part.rlu with rail := rest, cycle := some { start := s.part.tick, limit := 400 } }
          else { s.part.rlu with rail := [], gate := .hold, cycle := none, dump := .ended })
      ∧ (let leaves := !head && !rest.isEmpty
        t.part.cau.money = { s.part.cau.money with
          refunded := s.part.cau.money.refunded + BitVec.ofNat 32 c.value
          suspense := s.part.cau.money.suspense + BitVec.ofNat 32 (if leaves then sumValues rest else 0)
          railTypes := if leaves then [] else s.part.cau.money.railTypes.drop 1
          railCount := if leaves then 0 else s.part.cau.money.railCount - 1 })
      ∧ t.part.cru = (match head, rest with
        | false, d :: _ => (raise .coinJam (30 + d.type) s.part).cru
        | false, [] => s.part.cru
        | true, _ => s.part.cru)
      ∧ (∀ d others, s.part.cru.rows.length = 14 → head = false → rest = d :: others →
          isActive .coinJam t.part = true ∧ (rowOf .coinJam t.part).detail = 30 + d.type)
      ∧ t.part.mem = s.part.mem := by
  intro hrail hn
  obtain ⟨p, hp, hexec⟩ := exec_returnConfirm_dump (head := head) hgate hdump
  have hbooked := hp.then (dumpBooked_entry (n := n) (by rw [hp.rlu, hrail]) (by rewrite [hp.rlu]; exact hwaits))
  rewrite [hp.rlu, hp.money] at hbooked
  generalize railChange (dumpBooked n) p = q at hexec hbooked
  cases head with
  | true =>
    have ht := hbooked.then (dumpTurn_goesOn (p := q) (by rewrite [hbooked.rlu]; exact hdump) hn)
    refine ⟨_, hexec, ?_, ?_, ht.cru, fun _ _ _ h => absurd h nofun, ht.mem⟩
    · rw [if_pos rfl, ht.rlu, hbooked.rlu, hbooked.tick, ← hgate]
    · rewrite [ht.money, hbooked.money]
      simp
  | false =>
    have ht := hbooked.next (dumpTurn_stops (p := q) (by rewrite [hbooked.rlu]; exact hdump)
      (by unfold gateRests; rewrite [hbooked.rlu]; exact hrests))
    rewrite [hbooked.rlu, hbooked.money] at ht
    refine ⟨_, hexec, ht.rlu, ?_, ?_, fun d others hrows _ hrest => ?_, ht.mem⟩
    · rewrite [ht.money]
      cases rest with
      | nil => simp [moneyLeft]
      | cons d others => rfl
    · rewrite [ht.cru]
      cases rest with
      | nil => exact hbooked.cru
      | cons d others => exact (hbooked.raise .coinJam (30 + d.type)).cru
    · subst hrest
      exact raise_active (ht.cru.trans (hbooked.raise .coinJam (30 + d.type)).cru) hrows

theorem dumpConfirm_unbooked (s : State) (n : Nat) (head : Bool) (hgate : s.part.rlu.gate = .refunding)
    (hdump : s.part.rlu.dump = .running n) (hrests : gateRests s.part) (hwaits : s.part.rlu.clearWaits = false)
    (hrail : s.part.rlu.rail = []) (hn : n < 8) : ∃ t, exec (.returnConfirm head) s = .next t
      ∧ t.part.rlu = (if head = false then
            { s.part.rlu with gate := .hold, cycle := none, dump := .ended }
          else if n = 7 then { s.part.rlu with gate := .fault, cycle := none, dump := .ended }
          else { s.part.rlu with
            cycle := some { start := s.part.tick, limit := 400 }, dump := .running (n + 1) })
      ∧ t.part.cau.money =
        { s.part.cau.money with unbooked := min 65535 (s.part.cau.money.unbooked + 1) }
      ∧ t.part.cru.rows = (if head = true ∧ n = 7 then (raise .coinJam 50 s.part).cru.rows else s.part.cru.rows)
      ∧ t.part.mem = s.part.mem := by
  obtain ⟨p, hp, hexec⟩ := exec_returnConfirm_dump (head := head) hgate hdump
  have hbooked := hp.then (dumpBooked_unbooked (n := n) (by rw [hp.rlu, hrail]) (by rewrite [hp.rlu]; exact hwaits))
  rewrite [hp.rlu, hp.money] at hbooked
  generalize railChange (dumpBooked n) p = q at hexec hbooked
  have hrunning : q.rlu.dump = .running (n + 1) := by rw [hbooked.rlu]
  cases head with
  | true =>
    by_cases h7 : n = 7
    · have ht := hbooked.next (dumpTurn_eighth hrunning (by omega) (by rewrite [hbooked.rlu]; exact hrests.1))
      refine ⟨_, hexec, ?_, ht.money.trans hbooked.money, ?_, ht.mem⟩
      · rw [if_neg nofun, if_pos h7, ht.rlu, hbooked.rlu]
      · rewrite [if_pos ⟨rfl, h7⟩]
        exact congrArg Cru.rows (ht.cru.trans (hbooked.raise .coinJam 50).cru)
    · have ht := hbooked.then (dumpTurn_goesOn hrunning (by omega))
      refine ⟨_, hexec, ?_, ht.money.trans hbooked.money, ?_, ht.mem⟩
      · rw [if_neg nofun, if_neg h7, ht.rlu, hbooked.rlu, hbooked.tick, ← hgate]
      · rw [if_neg fun h => h7 h.2, ht.cru]
        
  | false =>
    have ht := hbooked.next (dumpTurn_stops hrunning (by unfold gateRests; rewrite [hbooked.rlu]; exact hrests))
    have hnone : q.rlu.rail = [] := by rewrite [hbooked.rlu]; exact hrail
    rewrite [hnone] at ht
    refine ⟨_, hexec, ?_, ht.money.trans hbooked.money, ?_, ht.mem⟩
    · rw [if_pos rfl, ht.rlu, hbooked.rlu, ← hrail]
    · rewrite [if_neg fun h => absurd h.1 nofun, ht.cru]
      exact congrArg Cru.rows hbooked.cru

theorem exec_confirmLimit_dump {s : State} {n : Nat} (hdue : due s.part.rlu.cycle s.part)
    (hgate : s.part.rlu.gate = .refunding) (hdump : s.part.rlu.dump = .running n) : exec .confirmLimitExpiry s
      = .next { s with part :=
          (let q := raise .coinJam (20 + headType s.part) (railChange loseHead s.part)
           endDump { q with rlu.refund := if q.rlu.rail = [] then none else some q.rlu.rail.length }) } := by
  show onPart (fun p => onExpiry p.rlu.cycle confirmMissing p) s = _
  rewrite [onPart, onExpiry_due hdue]
  unfold confirmMissing
  rw [hgate, hdump]

theorem loseHead_empty {p : Part} (hrail : p.rlu.rail = []) :
    loseHead p = { p with rlu.gate := .fault, rlu.cycle := none } := by
  unfold loseHead
  rewrite [hrail]
  exact endCycle_fault p

theorem loseHead_entry {c : Coin} {rest : List Coin} {p : Part} (hrail : p.rlu.rail = c :: rest) :
    Dumped { p.rlu with rail := rest, gate := .fault, cycle := none }
      { p.cau.money with
        suspense := p.cau.money.suspense + BitVec.ofNat 32 c.value
        railTypes := p.cau.money.railTypes.drop 1
        railCount := p.cau.money.railCount - 1 } p p (loseHead p) := by
  have hlost : loseHead p = bookMoney (fun m => dropHeadType { m with suspense := addTo m.suspense c.value })
      { p with rlu := { p.rlu with rail := rest, gate := .fault, cycle := none } } := by
    unfold loseHead
    rewrite [hrail, endCycle_fault]
    show bookMoney _ { p with rlu := { p.rlu with rail := p.rlu.rail.drop 1, gate := .fault, cycle := none } } = _
    rewrite [hrail]
    rfl
  rewrite [hlost]
  exact Dumped.booked _ p rfl

/-- The dump stops in FAULT (R38): what the missing confirm leaves of the coins is owed as a refund. -/
theorem dumpMissing_ends {r : Rlu} {m : Money} {n d : Nat} {s : State} (hdue : due s.part.rlu.cycle s.part)
    (hgate : s.part.rlu.gate = .refunding) (hdump : s.part.rlu.dump = .running n) (htype : headType s.part = d)
    (hlost : Dumped r m s.part s.part (loseHead s.part)) (hfault : r.gate = .fault) (hcharge : r.charge = none) :
    ∃ t, exec .confirmLimitExpiry s = .next t
      ∧ Dumped { r with refund := if r.rail = [] then none else some r.rail.length, dump := .ended } m
          (raise .coinJam (20 + d) s.part) s.part t.part := by
  have hexec := exec_confirmLimit_dump hdue hgate hdump
  have hjammed := (Dumped.railChange hlost).raise .coinJam (20 + headType s.part)
  rewrite [htype] at hexec hjammed
  dsimp only at hexec
  generalize raise .coinJam (20 + d) (railChange loseHead s.part) = q at hexec hjammed
  rewrite [hjammed.rlu] at hexec
  refine ⟨_, hexec, ?_⟩
  have howed : Dumped { r with refund := if r.rail = [] then none else some r.rail.length } m
      (raise .coinJam (20 + d) s.part) s.part
      { q with rlu := { r with refund := if r.rail = [] then none else some r.rail.length } } :=
    { hjammed with rlu := rfl, line := hjammed.line }
  generalize ({ q with rlu := { r with refund := if r.rail = [] then none else some r.rail.length } } : Part) = u at howed
  have hended := Dumped.endDump (p := u) (.inr (.inr (.inr ⟨by rewrite [howed.rlu]; exact hfault, by rewrite [howed.rlu]; exact hcharge⟩)))
  rewrite [howed.rlu, howed.money] at hended
  exact howed.then hended

theorem accountLoads_dump (s : State) (n : Nat) (head : Bool) (hgate : s.part.rlu.gate = .refunding)
    (hdump : s.part.rlu.dump = .running n) (hrests : gateRests s.part) (hwaits : s.part.rlu.clearWaits = false) :
    (∀ c rest, s.part.rlu.rail = c :: rest → n < 8 →
      ∃ t, exec (.returnConfirm head) s = .next t
        ∧ t.part.rlu = (if head then
              { s.part.rlu with rail := rest, cycle := some { start := s.part.tick, limit := 400 } }
            else { s.part.rlu with rail := [], gate := .hold, cycle := none, dump := .ended })
        ∧ (let leaves := !head && !rest.isEmpty
          t.part.cau.money = { s.part.cau.money with
            refunded := s.part.cau.money.refunded + BitVec.ofNat 32 c.value
            suspense := s.part.cau.money.suspense + BitVec.ofNat 32 (if leaves then sumValues rest else 0)
            railTypes := if leaves then [] else s.part.cau.money.railTypes.drop 1
            railCount := if leaves then 0 else s.part.cau.money.railCount - 1 })
        ∧ t.part.cru = (match head, rest with
          | false, d :: _ => (raise .coinJam (30 + d.type) s.part).cru
          | false, [] => s.part.cru
          | true, _ => s.part.cru)
        ∧ (∀ d others, s.part.cru.rows.length = 14 → head = false → rest = d :: others →
            isActive .coinJam t.part = true ∧ (rowOf .coinJam t.part).detail = 30 + d.type)
        ∧ t.part.mem = s.part.mem)
    ∧ (s.part.rlu.rail = [] → n < 8 → ∃ t, exec (.returnConfirm head) s = .next t
        ∧ t.part.rlu = (if head = false then
              { s.part.rlu with gate := .hold, cycle := none, dump := .ended }
            else if n = 7 then { s.part.rlu with gate := .fault, cycle := none, dump := .ended }
            else { s.part.rlu with
              cycle := some { start := s.part.tick, limit := 400 }, dump := .running (n + 1) })
        ∧ t.part.cau.money =
          { s.part.cau.money with unbooked := min 65535 (s.part.cau.money.unbooked + 1) }
        ∧ t.part.cru.rows = (if head = true ∧ n = 7 then (raise .coinJam 50 s.part).cru.rows else s.part.cru.rows)
        ∧ t.part.mem = s.part.mem)
    ∧ (∀ c rest, due s.part.rlu.cycle s.part → s.part.rlu.rail = c :: rest →
        ∃ t, exec .confirmLimitExpiry s = .next t
          ∧ t.part.rlu = { s.part.rlu with
              rail := rest, gate := .fault, cycle := none, dump := .ended
              refund := if rest = [] then none else some rest.length }
          ∧ t.part.cau.money = { s.part.cau.money with
              suspense := s.part.cau.money.suspense + BitVec.ofNat 32 c.value
              railTypes := s.part.cau.money.railTypes.drop 1
              railCount := s.part.cau.money.railCount - 1 }
          ∧ t.part.cru.rows = (raise .coinJam (20 + c.type) s.part).cru.rows ∧ t.part.mem = s.part.mem)
    ∧ (due s.part.rlu.cycle s.part → s.part.rlu.rail = [] →
        ∃ t, exec .confirmLimitExpiry s = .next t
          ∧ t.part.rlu = { s.part.rlu with gate := .fault, cycle := none, dump := .ended }
          ∧ t.part.cau.money = s.part.cau.money
          ∧ t.part.cru.rows = (raise .coinJam 20 s.part).cru.rows ∧ t.part.mem = s.part.mem) := by
  refine ⟨dumpConfirm_entry s n head hgate hdump hrests hwaits, dumpConfirm_unbooked s n head hgate hdump hrests hwaits,
    fun c rest hdue hrail => ?_, fun hdue hrail => ?_⟩
  · obtain ⟨t, hexec, ht⟩ := dumpMissing_ends hdue hgate hdump (headType_cons hrail)
      (loseHead_entry hrail) rfl hrests.1
    exact ⟨t, hexec, ht.rlu, ht.money, congrArg Cru.rows ht.cru, ht.mem⟩
  · obtain ⟨t, hexec, ht⟩ := dumpMissing_ends (r := { s.part.rlu with gate := .fault, cycle := none })
      (m := s.part.cau.money) (d := 0) hdue hgate hdump (by rw [headType, hrail])
      (by rewrite [loseHead_empty hrail]; exact ⟨rfl, rfl, rfl, rfl, rfl, rfl, rfl, rfl⟩) rfl hrests.1
    refine ⟨t, hexec, ?_, ht.money, congrArg Cru.rows ht.cru, ht.mem⟩
    rw [ht.rlu, if_pos hrail, ← hrests.2.1]

end Sys2Proof.Machine
end

section
/-!
PROOFS. The end of the account load: the listing of the rail, the capacity in force, and the beginning of the start-up
dump (02_the_escrow_rail_and_credit.md, The start-up dump; 03_the_cash_account.md, The start load).
-/

namespace Sys2Proof.Machine

/-! ## The listing -/

set_option Elab.async false in
theorem valueListing_types (p : Part) : ∀ (ks : List Nat) (left : Nat),
    (valueListing p left ks).map (fun c : Coin => c.type) = ks
  | [], _ => rfl
  | [_], _ => rfl
  | k :: k' :: ks, left => congrArg (k :: ·) (valueListing_types p (k' :: ks) (left - min (typeValue k p) left))

/-- The last entry of the listing takes what the others leave (R36). -/
theorem valueListing_sum (p : Part) : ∀ {ks : List Nat} (left : Nat), ks ≠ [] → sumValues (valueListing p left ks) = left
  | [], _, h => absurd rfl h
  | [_], _, _ => rfl
  | k :: k' :: ks, left, _ => by
    rewrite [valueListing, sumValues, valueListing_sum p _ (List.cons_ne_nil k' ks)]
    show min (typeValue k p) left + (left - min (typeValue k p) left) = left
    omega

/-- Each other entry of the listing takes its type's value, from what the entries before it leave (R36). -/
theorem valueListing_value (p : Part) : ∀ {ks : List Nat} {left j : Nat} {c : Coin},
    j + 1 < (valueListing p left ks).length → (valueListing p left ks)[j]? = some c →
    c.value = min (typeValue c.type p) (left - sumValues ((valueListing p left ks).take j))
  | [], _, _, _, hj, _ => absurd hj (Nat.not_lt_zero _)
  | [_], _, j, _, hj, _ => absurd hj (by simp [valueListing])
  | k :: k' :: ks, left, 0, c, _, hc => by
    simp only [valueListing, List.getElem?_cons_zero, Option.some.injEq] at hc
    rewrite [← hc]
    rfl
  | k :: k' :: ks, left, j + 1, c, hj, hc => by
    rewrite [valueListing] at hj hc ⊢
    rewrite [List.getElem?_cons_succ] at hc
    have hrest := valueListing_value p (ks := k' :: ks) (Nat.lt_of_succ_lt_succ hj) hc
    rw [hrest, List.take_succ_cons, sumValues, Nat.sub_sub]

theorem typeValue_congr {p q : Part} (hcu : q.cu = p.cu) (k : Nat) : typeValue k q = typeValue k p := by
  unfold typeValue
  rw [hcu]

theorem valueListing_congr {p q : Part} (hcu : q.cu = p.cu) : ∀ (ks : List Nat) (left : Nat),
    valueListing q left ks = valueListing p left ks
  | [], _ => rfl
  | [_], _ => rfl
  | k :: k' :: ks, left => by
    rw [valueListing, valueListing, typeValue_congr hcu, valueListing_congr hcu (k' :: ks)]

theorem listedRail_congr {p q : Part} (hcu : q.cu = p.cu) (hmoney : q.cau.money = p.cau.money) :
    listedRail q = listedRail p := by
  unfold listedRail
  rw [hmoney, valueListing_congr hcu]

theorem listedRail_types (p : Part) : (listedRail p).map (fun c : Coin => c.type) = listedTypes p.cau.money :=
  valueListing_types p _ _

theorem listedRail_sum (p : Part) : sumValues (listedRail p)
    = if listedTypes p.cau.money = [] then 0 else min 9999 (recordedRailValue p.cau.money) := by
  split
  case isTrue h => rewrite [listedRail, h]; rfl
  case isFalse h => exact valueListing_sum p _ h

/-! ## The capacity in force -/

theorem judgeCapacity_judges (p : Part) : judgeCapacity p =
    thresholdsRaised (p.cau.capacity.any fun c => decide (c * 9 / 10 ≤ p.cau.money.vaultCount))
      (p.cau.capacity.any fun c => decide (c - 8 ≤ p.cau.money.vaultCount)) p.cau.money.vaultCount p := by
  cases h : p.cau.capacity with
  | none =>
    rewrite [judgeCapacity, h]
    rfl
  | some c => rewrite [judgeCapacity_eq h]; rfl

/-! ## The beginning of the dump -/

/-- The money as the listing has it (R36): the banked credit forfeited, what no entry carries lost to suspense. -/
def moneyListed (p : Part) (m : Money) : Money :=
  { m with
    forfeited := m.forfeited + BitVec.ofNat 32 m.banked, banked := 0
    suspense := m.suspense + BitVec.ofNat 32 (recordedRailValue m - sumValues (listedRail p))
    railTypes := listedTypes m, railCount := (listedTypes m).length }

/-- The state that the listing leaves the conditions of (R36). -/
def jamListed (left : Nat) (p : Part) : Part := if 0 < left then raise .coinJam 40 p else p

/-- The rail unit as the listing has it (R36). -/
def rluListed (p : Part) : Rlu := { p.rlu with rail := listedRail p, banked := 0, dump := .running 0 }

/-- The listing taken and booked (R36). -/
def listDump (p : Part) : Part :=
  { bookMoney (moneyAtDump p) p with rlu.rail := listedRail p, rlu.banked := 0, rlu.dump := .running 0 }

theorem listDump_listed (p : Part) : Dumped (rluListed p) (moneyListed p p.cau.money) p p (listDump p) := by
  have hbooked : listDump p = bookMoney (moneyAtDump p) { p with rlu := rluListed p } := by
    show { bookMoney (moneyAtDump p) p with rlu := { (bookMoney (moneyAtDump p) p).rlu with
      rail := listedRail p, banked := 0, dump := .running 0 } } = _
    rewrite [bookMoney_rlu]
    exact bookMoney_withRlu _ _ _
  rewrite [hbooked]
  exact Dumped.booked _ p rfl

theorem beginDump_lists (head : Bool) (p : Part) : ∃ q,
    Dumped (rluListed p) (moneyListed p p.cau.money) (jamListed (uncarried p) p) p q
      ∧ beginDump head p = dumpTurn head q := by
  have hlisted := Dumped.railChange (f := listDump) (listDump_listed p)
  refine ⟨jamListed (uncarried p) (railChange listDump p), ?_, rfl⟩
  unfold jamListed
  split
  · exact hlisted.raise .coinJam 40
  · exact hlisted

/-! ## The end of the account load -/

/-- The account as the end of the load sets it up (R47, R53). -/
def accountReady (p : Part) : Cau := { p.cau with
  load := .ended
  strikes := List.replicate 9 none
  mismatches := List.replicate 5 0
  position := 1
  pass := 0
  scrub := some (newTimer 500 p)
  capacity := p.cau.vc.map fun v => max v (p.cau.money.vaultCount + p.cau.money.railCount) }

/-- The two vault thresholds judged by the capacity `capacity` (R53). -/
def thresholdsMet (capacity : Option Nat) (n : Nat) (p : Part) : Part :=
  thresholdsRaised (capacity.any fun c => decide (c * 9 / 10 ≤ n)) (capacity.any fun c => decide (c - 8 ≤ n)) n p

theorem endAccountLoad_begins {head : Bool} {l p : Part} (hline : lineView p = lineView l) : ∃ q,
    endAccountLoad head p = beginDump head q ∧ q.rlu = p.rlu ∧ q.cau = accountReady p
      ∧ lineView q = lineView (thresholdsMet (accountReady p).capacity p.cau.money.vaultCount l)
      ∧ q.mem = p.mem ∧ q.cc.call = p.cc.call ∧ q.cu = p.cu ∧ q.bpu.hostQueue = p.bpu.hostQueue
      ∧ q.tick = p.tick := by
  obtain ⟨r, hr⟩ : ∃ r, r = ({ markS 4 p with cau := accountReady p } : Part) := ⟨_, rfl⟩
  have hcau : r.cau = accountReady p := by rw [hr]
  have htaken : endAccountLoad head p = beginDump head (judgeCapacity r) := by
    rewrite [hr]
    rfl
  have hready : Dumped p.rlu r.cau.money l r r := by
    constructor
    case line =>
      rewrite [← hline, hr]
      rfl
    case rlu =>
      rewrite [hr]
      rfl
    all_goals rfl
  have hjudged := hready.thresholds (r.cau.capacity.any fun c => decide (c * 9 / 10 ≤ r.cau.money.vaultCount))
    (r.cau.capacity.any fun c => decide (c - 8 ≤ r.cau.money.vaultCount)) r.cau.money.vaultCount
  rewrite [← judgeCapacity_judges] at hjudged
  refine ⟨_, htaken, hjudged.rlu, (judgeCapacity_cau r).trans hcau, ?_, ?_, ?_, ?_, ?_, ?_⟩
  · rewrite [hjudged.line, hcau]
    rfl
  · rewrite [hjudged.mem, hr]
    rfl
  · rewrite [hjudged.call, hr]
    rfl
  · rewrite [hjudged.cu, hr]
    rfl
  · rewrite [hjudged.queue, hr]
    rfl
  · rewrite [outer_tick (judgeCapacity_outer r), hr]
    rfl

/-- The end of the account load before its dump: the fourth record read, and the capacity in force (R47, R53). -/
structure LoadReady (words : List Word) (p q : Part) : Prop where
  rlu : q.rlu = p.rlu
  cau : q.cau = accountReady { p with cau := (if recordGood 4 words then takeRecord 4 words p else recordBlanked 4 p).cau }
  money : q.cau.money = p.cau.money
  line : lineView q = lineView (thresholdsMet
    (p.cau.vc.map fun v => max v (p.cau.money.vaultCount + p.cau.money.railCount))
    p.cau.money.vaultCount (recordJudged 4 words p))
  mem : q.mem = p.mem
  call : q.cc.call = p.cc.call
  cu : q.cu = p.cu
  queue : q.bpu.hostQueue = p.bpu.hostQueue
  tick : q.tick = p.tick

theorem recordJudged_tick (n : Nat) (words : List Word) (p : Part) : (recordJudged n words p).tick = p.tick := by
  unfold recordJudged
  split
  · rfl
  · exact raise_tick ..

theorem loadSlot_reaches {words : List Word} {head : Bool} {p : Part} (hload : p.cau.load = .reading 4) : ∃ q,
    loadSlot 4 words head p = beginDump head q ∧ LoadReady words p q := by
  have hread := recordTaken_read 4 words p
  rewrite [loadSlot_last hload]
  generalize recordTaken 4 words p = r at hread
  have htick : r.tick = p.tick := (lineView_iff.1 hread.line).2.2.2.2.1.trans (recordJudged_tick 4 words p)
  obtain ⟨hmoney, hvc⟩ : r.cau.money = p.cau.money ∧ r.cau.vc = p.cau.vc := by
    rewrite [hread.cau]
    cases recordGood 4 words <;> exact ⟨rfl, rfl⟩
  obtain ⟨v, hv⟩ : ∃ v, v = ({ r with cau.load := .reading 5 } : Part) := ⟨_, rfl⟩
  rewrite [← hv]
  have hready : accountReady v = accountReady { p with
      cau := (if recordGood 4 words then takeRecord 4 words p else recordBlanked 4 p).cau } := by
    rewrite [hv]
    unfold accountReady newTimer
    dsimp only
    rw [hread.cau, htick]
  have hcapacity : (accountReady v).capacity
      = p.cau.vc.map fun c => max c (p.cau.money.vaultCount + p.cau.money.railCount) := by
    rewrite [hv]
    show r.cau.vc.map (fun c => max c (r.cau.money.vaultCount + r.cau.money.railCount)) = _
    rw [hmoney, hvc]
  have hvmoney : v.cau.money = p.cau.money := by rewrite [hv]; exact hmoney
  obtain ⟨q, hbegins, hrlu, hcau, hline, hmem, hcall, hcu, hqueue, hqtick⟩ :=
    endAccountLoad_begins (head := head) (p := v) (l := recordJudged 4 words p) (by rewrite [hv]; exact hread.line)
  refine ⟨q, hbegins, ?_⟩
  constructor
  case rlu => rewrite [hrlu, hv]; exact hread.rlu
  case cau => rw [hcau, hready]
  case money => rewrite [hcau]; exact hvmoney
  case line => rw [hline, hcapacity, hvmoney]
  case mem => rewrite [hmem, hv]; exact hread.mem
  case call => rewrite [hcall, hv]; exact congrArg Cc.call hread.cc
  case cu => rewrite [hcu, hv]; exact hread.cu
  case queue => rewrite [hqueue, hv]; exact hread.queue
  case tick => rewrite [hqtick, hv]; exact htick

/-- What the end of the account load leaves (R36, R47, R53), the head of the rail shown as `head`. -/
structure LoadEnded (words : List Word) (head : Bool) (p q : Part) : Prop where
  side : accountSide q = accountSide { p with cau := accountReady { p with
    cau := (if recordGood 4 words then takeRecord 4 words p else recordBlanked 4 p).cau } }
  rlu : q.rlu = if head then
      { p.rlu with rail := listedRail p, banked := 0, dump := .running 0, gate := .refunding,
                   cycle := some { start := p.tick, limit := 400 } }
    else { p.rlu with rail := [], banked := 0, dump := .ended }
  money : q.cau.money = if head then moneyListed p p.cau.money
    else moneyLeft (listedRail p) (moneyListed p p.cau.money)
  cru : q.cru = (
    let judged := thresholdsMet (p.cau.vc.map fun v => max v (p.cau.money.vaultCount + p.cau.money.railCount))
      p.cau.money.vaultCount (recordJudged 4 words p)
    let jammed := jamListed (uncarried p) judged
    if head then jammed.cru else (jamLeft (listedRail p) jammed).cru)
  call : q.cc.call = p.cc.call
  mem : q.mem = p.mem
  tick : q.tick = p.tick
  queue : q.bpu.hostQueue = p.bpu.hostQueue

theorem jamListed_line {p q : Part} (h : lineView q = lineView p) (left : Nat) :
    lineView (jamListed left q) = lineView (jamListed left p) := by
  unfold jamListed
  split
  · exact raise_lineView h _ _
  · exact h

theorem jamLeft_line {p q : Part} (h : lineView q = lineView p) (rail : List Coin) :
    lineView (jamLeft rail q) = lineView (jamLeft rail p) := by
  cases rail with
  | nil => exact h
  | cons c rest => exact raise_lineView h _ _

theorem loadSlot_ends {words : List Word} {head : Bool} {p : Part} (hload : p.cau.load = .reading 4)
    (hrests : gateRests p) : LoadEnded words head p (loadSlot 4 words head p) := by
  obtain ⟨q, hbegins, hready⟩ := loadSlot_reaches (words := words) (head := head) hload
  rewrite [hbegins]
  have hrail : listedRail q = listedRail p := listedRail_congr hready.cu hready.money
  have hleft : uncarried q = uncarried p := by rw [uncarried, uncarried, hready.money, hrail]
  obtain ⟨u, hu, hturn⟩ := beginDump_lists head q
  rewrite [hturn]
  have hlisted : rluListed q = { p.rlu with rail := listedRail p, banked := 0, dump := .running 0 } := by
    rw [rluListed, hrail, hready.rlu]
  have hbooked : moneyListed q q.cau.money = moneyListed p p.cau.money := by
    rewrite [hready.money, moneyListed, hrail]
    rfl
  rewrite [hlisted, hbooked, hleft] at hu
  have hjam := hu.line.trans (jamListed_line hready.line (uncarried p))
  have hutick : u.tick = p.tick := by
    rewrite [hu.tick]
    unfold jamListed
    split
    · rw [raise_tick, hready.tick]
    · exact hready.tick
  cases head with
  | true =>
    have ht := hu.next (dumpTurn_goesOn (p := u) (by rw [hu.rlu]) (by omega))
    generalize dumpTurn true u = t at ht
    constructor
    case side => rewrite [ht.side]; exact accountSide_of_cau hready.cau
    case rlu => rw [if_pos rfl, ht.rlu, hu.rlu, hutick]
    case money => rw [if_pos rfl, ht.money, hu.money]
    case cru => exact ht.cru.trans ((lineView_iff.1 hjam).1.trans (if_pos rfl).symm)
    case call => exact ht.call.trans hready.call
    case mem => exact ht.mem.trans hready.mem
    case tick => exact ht.tick.trans hutick
    case queue => exact ht.queue.trans hready.queue
  | false =>
    have ht := hu.next (dumpTurn_stops (p := u) (by rw [hu.rlu]) (by unfold gateRests; rewrite [hu.rlu]; exact hrests))
    have hurail : u.rlu.rail = listedRail p := by rw [hu.rlu]
    rewrite [hurail] at ht
    generalize dumpTurn false u = t at ht
    have hleftjam := ht.line.trans (jamLeft_line hjam (listedRail p))
    constructor
    case side => rewrite [ht.side]; exact accountSide_of_cau hready.cau
    case rlu => rw [if_neg nofun, ht.rlu, hu.rlu]
    case money => rw [if_neg nofun, ht.money, hu.money]
    case cru => exact (lineView_iff.1 hleftjam).1.trans (if_neg nofun).symm
    case call => exact ht.call.trans hready.call
    case mem => exact ht.mem.trans hready.mem
    case tick =>
      rewrite [ht.tick]
      cases listedRail p with
      | nil => exact hutick
      | cons c rest => exact (raise_tick ..).trans hutick
    case queue => exact ht.queue.trans hready.queue

/-- The end of the load as the state before the read has it. -/
theorem LoadEnded.ofFree {words : List Word} {head : Bool} {p q : Part} (h : LoadEnded words head (freePort p) q) :
    LoadEnded words head p q := by
  obtain ⟨hside, hrlu, hmoney, hcru, hcall, hmem, htick, hqueue⟩ := h
  have hrail : listedRail (freePort p) = listedRail p := listedRail_congr rfl rfl
  have hleft : uncarried (freePort p) = uncarried p := by rewrite [uncarried, uncarried, hrail]; rfl
  have hbooked : moneyListed (freePort p) (freePort p).cau.money = moneyListed p p.cau.money := by
    rewrite [moneyListed, hrail]
    rfl
  have hjudged : lineView (recordJudged 4 words (freePort p)) = lineView (recordJudged 4 words p) := by
    unfold recordJudged
    split
    · rfl
    · exact raise_lineView (p := p) (q := freePort p) rfl .accountFault 4
  have hjam := jamListed_line (thresholdsRaised_lineView hjudged
    ((p.cau.vc.map fun v => max v (p.cau.money.vaultCount + p.cau.money.railCount)).any fun c =>
      decide (c * 9 / 10 ≤ p.cau.money.vaultCount))
    ((p.cau.vc.map fun v => max v (p.cau.money.vaultCount + p.cau.money.railCount)).any fun c =>
      decide (c - 8 ≤ p.cau.money.vaultCount)) p.cau.money.vaultCount) (uncarried p)
  constructor
  case side =>
    rewrite [hside]
    cases recordGood 4 words <;> rfl
  case rlu =>
    rewrite [hrlu, hrail]
    rfl
  case money => rw [hmoney, hrail, hbooked]
  case cru =>
    rewrite [hcru, hleft, hrail]
    dsimp only
    cases head with
    | true => exact (lineView_iff.1 hjam).1
    | false => exact (lineView_iff.1 (jamLeft_line hjam (listedRail p))).1
  case call => exact hcall
  case mem => exact hmem
  case tick => exact htick
  case queue => exact hqueue

theorem thresholdsRaised_rows_length (near full : Bool) (n : Nat) (p : Part) :
    (thresholdsRaised near full n p).cru.rows.length = p.cru.rows.length := by
  unfold thresholdsRaised
  dsimp only
  split <;> split <;> simp only [raise_rows_length]

theorem jamListed_rows_length (left : Nat) (p : Part) : (jamListed left p).cru.rows.length = p.cru.rows.length := by
  unfold jamListed
  split
  · exact raise_rows_length ..
  · rfl

theorem recordJudged_rows_length (n : Nat) (words : List Word) (p : Part) :
    (recordJudged n words p).cru.rows.length = p.cru.rows.length := by
  unfold recordJudged
  split
  · rfl
  · exact raise_rows_length ..

/-- What the coins that the listing holds and what none holds come to together (R36). -/
theorem listed_recorded (p : Part) : BitVec.ofNat 32 (recordedRailValue p.cau.money - sumValues (listedRail p))
    + BitVec.ofNat 32 (sumValues (listedRail p)) = BitVec.ofNat 32 (recordedRailValue p.cau.money) := by
  rw [← BitVec.ofNat_add, Nat.sub_add_cancel (sum_listedRail p).2]

theorem moneyLeft_listed (p : Part) : moneyLeft (listedRail p) (moneyListed p p.cau.money) = { p.cau.money with
    forfeited := p.cau.money.forfeited + BitVec.ofNat 32 p.cau.money.banked, banked := 0
    suspense := p.cau.money.suspense + BitVec.ofNat 32 (recordedRailValue p.cau.money)
    railTypes := [], railCount := 0 } := by
  have htypes := listedRail_types p
  have hrecorded := listed_recorded p
  unfold moneyLeft moneyListed
  cases hrail : listedRail p with
  | nil =>
    rewrite [hrail] at htypes
    rewrite [← htypes]
    rfl
  | cons c rest =>
    rewrite [hrail] at hrecorded
    dsimp only [List.isEmpty_cons, Bool.false_eq_true]
    rw [if_neg nofun, BitVec.add_assoc, hrecorded]

/-- The end of the account load and the beginning of the start-up dump. -/
theorem accountLoads_ends (s : State) (slot : Nat) (words : List Word) (head : Bool)
    (hread : readAtPort (.startLoad 4 slot) s.part) (hlen : words.length = 24) (hload : s.part.cau.load = .reading 4)
    (hrests : gateRests s.part) :
    let m := s.part.cau.money
    let recorded := (m.accepted - m.refunded - m.collected - m.suspense).toNat
    let types := (m.railTypes ++ List.replicate 8 0).take (min 8 m.railCount)
    let zero : Collection := { time := none, value := 0, count := 0 }
    ∃ t rail, exec (.startLoadSlotRead words head) s = .next t
      ∧ rail.map (fun c : Coin => c.type) = types
      ∧ sumValues rail = (if types = [] then 0 else min 9999 recorded)
      ∧ (∀ (j : Nat) (c : Coin), j + 1 < rail.length → rail[j]? = some c →
          c.value = min (typeValue c.type s.part) (min 9999 recorded - sumValues (rail.take j)))
      ∧ t.part.cau.load = .ended
      ∧ t.part.cau.last = (if recordGood 4 words then lastOf words else { latest := zero, previous := zero })
      ∧ t.part.cau.faulted = (if recordGood 4 words then s.part.cau.faulted else s.part.cau.faulted ++ [4])
      ∧ t.part.cau.capacity = s.part.cau.vc.map (fun v => max v (m.vaultCount + m.railCount))
      ∧ (let loaded := if recordGood 4 words then s.part else raise .accountFault 4 s.part
        let judged := thresholdsRaised (t.part.cau.capacity.any fun c => decide (c * 9 / 10 ≤ m.vaultCount))
          (t.part.cau.capacity.any fun c => decide (c - 8 ≤ m.vaultCount)) m.vaultCount loaded
        let jammed := if sumValues rail < recorded then raise .coinJam 40 judged else judged
        t.part.cru = (match head, rail with
          | false, c :: _ => (raise .coinJam (30 + c.type) jammed).cru
          | false, [] => jammed.cru
          | true, _ => jammed.cru))
      ∧ t.part.cau.position = 1 ∧ t.part.cau.strikes = List.replicate 9 none
      ∧ t.part.cau.mismatches = List.replicate 5 0 ∧ t.part.cau.scrub = some { start := s.part.tick, limit := 500 }
      ∧ t.part.cau.money = { m with
          forfeited := m.forfeited + BitVec.ofNat 32 m.banked, banked := 0
          suspense := m.suspense + BitVec.ofNat 32 (recorded - if head then sumValues rail else 0)
          railTypes := if head then types else [], railCount := if head then types.length else 0 }
      ∧ t.part.rlu = (if head then
            { s.part.rlu with rail := rail, banked := 0, dump := .running 0, gate := .refunding,
                              cycle := some { start := s.part.tick, limit := 400 } }
          else { s.part.rlu with rail := [], banked := 0, dump := .ended })
      ∧ (s.part.cru.rows.length = 14 → head = true → sumValues rail < recorded →
          isActive .coinJam t.part = true ∧ (rowOf .coinJam t.part).detail = 40)
      ∧ (∀ c rest, s.part.cru.rows.length = 14 → head = false → rail = c :: rest →
          isActive .coinJam t.part = true ∧ (rowOf .coinJam t.part).detail = 30 + c.type)
      ∧ t.part.cc.call = s.part.cc.call ∧ t.part.mem = s.part.mem ∧ t.part.tick = s.part.tick := by
  intro m recorded types zero
  have hexec := exec_startLoadSlotRead (head := head) hread hlen
  obtain ⟨u, hu⟩ : ∃ u, u = loadSlot 4 words head (freePort s.part) := ⟨_, rfl⟩
  have hended : LoadEnded words head s.part u := by
    rewrite [hu]
    exact (loadSlot_ends (p := freePort s.part) hload hrests).ofFree
  rewrite [← hu, serve_idle (hended.queue.trans hread.1)] at hexec
  clear hu
  obtain ⟨hside, hrlu, hmoney, hcru, hcall, hmem, htick, hqueue⟩ := hended
  have hcapacity : u.cau.capacity = s.part.cau.vc.map fun v => max v (m.vaultCount + m.railCount) := by
    refine (congrArg Cau.capacity hside).trans ?_
    cases recordGood 4 words <;> rfl
  have hlast : u.cau.last
      = if recordGood 4 words then lastOf words else { latest := zero, previous := zero } := by
    refine (congrArg Cau.last hside).trans ?_
    cases recordGood 4 words <;> rfl
  have hfaulted : u.cau.faulted
      = if recordGood 4 words then s.part.cau.faulted else s.part.cau.faulted ++ [4] := by
    refine (congrArg Cau.faulted hside).trans ?_
    cases recordGood 4 words <;> rfl
  obtain ⟨judged, hjudged⟩ : ∃ judged, judged = thresholdsMet u.cau.capacity m.vaultCount (recordJudged 4 words s.part) :=
    ⟨_, rfl⟩
  have hlength : judged.cru.rows.length = s.part.cru.rows.length := by
    rewrite [hjudged]
    exact (thresholdsRaised_rows_length ..).trans (recordJudged_rows_length ..)
  obtain ⟨jammed, hjammed⟩ : ∃ jammed, jammed = jamListed (uncarried s.part) judged := ⟨_, rfl⟩
  have hjam : jammed = if sumValues (listedRail s.part) < recorded then raise .coinJam 40 judged else judged := by
    rewrite [hjammed, jamListed]
    exact if_congr Nat.sub_pos_iff_lt rfl rfl
  rewrite [← hcapacity] at hcru
  dsimp only at hcru
  rewrite [← hjudged, ← hjammed] at hcru
  refine ⟨_, listedRail s.part, hexec, listedRail_types s.part, listedRail_sum s.part,
    fun j c hj hc => valueListing_value s.part hj hc, congrArg Cau.load hside, hlast, hfaulted, hcapacity, ?_,
    congrArg Cau.position hside, congrArg Cau.strikes hside, congrArg Cau.mismatches hside, congrArg Cau.scrub hside,
    ?_, hrlu, fun hrows hhead hless => ?_, fun c rest hrows hhead hrail => ?_, hcall, hmem, htick⟩
  · intro loaded met listed
    have hlisted : listed = jammed := by
      rewrite [hjam, hjudged]
      rfl
    rewrite [hlisted]
    show u.cru = _
    rewrite [hcru]
    cases head with
    | true => rfl
    | false => cases listedRail s.part <;> rfl
  · show u.cau.money = _
    rewrite [hmoney]
    cases head with
    | true => rfl
    | false => exact moneyLeft_listed s.part
  · refine raise_active (p := judged) ?_ (hlength.trans hrows)
    show u.cru = _
    rw [hcru, if_pos hhead, hjam, if_pos hless]
  · refine raise_active (p := jammed) ?_ ?_
    · show u.cru = _
      rewrite [hcru, hhead, hrail]
      rfl
    · rw [hjammed, jamListed_rows_length, hlength, hrows]

/-- Settles O45, from the records read, the listing, the dump's bookings and the hard slot. -/
theorem accountLoadsInOrder : Obligations.AccountLoadsInOrder := by
  unfold Obligations.AccountLoadsInOrder
  exact ⟨accountLoads_records, fun s slot words head hread hlen hload _ hrests =>
      accountLoads_ends s slot words head hread hlen hload hrests, accountLoads_dump, accountLoads_hard⟩

end Sys2Proof.Machine
end

section
/-!
PROOFS. The report frame, and a new record that finds the queue full (10_vandalism_reports.md, Frames, Queueing and
merging; 12_record_and_frame_layouts.md, The report frame).
-/

namespace Sys2Proof.Machine

/-! ## The frame -/

set_option Elab.async false in
theorem decimalDigits_le {width n d : Nat} (h : d ∈ decimalDigits width n) : d ≤ 9 := by
  induction width with
  | zero => exact absurd h nofun
  | succ width ih =>
    rcases List.mem_cons.1 h with rfl | h
    · omega
    · exact ih h

theorem decimalDigits_length (width n : Nat) : (decimalDigits width n).length = width := by
  induction width with
  | zero => rfl
  | succ width ih => exact congrArg (· + 1) ih

/-- The number that decimal digits show. -/
def decimalValue : List Nat → Nat
  | [] => 0
  | d :: ds => 10 ^ ds.length * d + decimalValue ds

theorem decimalValue_digits (width n : Nat) : decimalValue (decimalDigits width n) = n % 10 ^ width := by
  induction width with
  | zero => exact (Nat.mod_one n).symm
  | succ width ih =>
    rw [decimalDigits, decimalValue, decimalDigits_length, ih, Nat.mod_pow_succ, Nat.add_comm]

/-- Digits enough for a number show it. -/
theorem decimalValue_fits {width n : Nat} (h : n < 10 ^ width) : decimalValue (decimalDigits width n) = n :=
  (decimalValue_digits width n).trans (Nat.mod_eq_of_lt h)

theorem decimalValue_two (a b : Nat) : 10 * a + b = decimalValue [a, b] := by
  simp [decimalValue]

theorem decimalValue_three (a b c : Nat) : 100 * a + 10 * b + c = decimalValue [a, b, c] := by
  simp [decimalValue, Nat.add_assoc]

theorem decimalValue_four (a b c d : Nat) : 1000 * a + 100 * b + 10 * c + d = decimalValue [a, b, c, d] := by
  simp [decimalValue, Nat.add_assoc]

theorem decimalValue_five (a b c d e : Nat) :
    10000 * a + 1000 * b + 100 * c + 10 * d + e = decimalValue [a, b, c, d, e] := by
  simp [decimalValue, Nat.add_assoc]

theorem stampDigits_le {w : WallTime} (hw : validWall w) {d : Nat} (h : d ∈ stampDigits w) : d ≤ 9 := by
  cases w with
  | none => simp [stampDigits] at h; omega
  | some stamp =>
    obtain ⟨day, second⟩ := stamp
    have hday : day ≤ 6 := hw.1
    rcases List.mem_cons.1 h with rfl | h
    · omega
    · exact decimalDigits_le h

theorem stampDigits_length (w : WallTime) : (stampDigits w).length = 5 := by
  cases w <;> simp [stampDigits, decimalDigits_length]

theorem kindCode_lt (k : ReportKind) : k.code < 100 := by
  cases k with
  | condition k => cases k <;> decide
  | test => decide

/-- The check digit completes the weighted sum to a multiple of 10 (R169). -/
theorem checkDigit_completes (ds : List Nat) : checkDigit ds ≤ 9 ∧ (weightedSum ds + checkDigit ds) % 10 = 0 := by
  unfold checkDigit
  omega

theorem frameDigits_of_identity {identity : List Nat} (h : identity.length = 6) (r : ReportRecord) :
    frameDigits identity r = identity ++ (decimalDigits 2 r.kind.code ++ [if r.kind.urgent then 1 else 2]
      ++ decimalDigits 3 (min r.count 999) ++ stampDigits r.last ++ decimalDigits 5 r.detail) := by
  unfold frameDigits
  rewrite [List.take_left' h]
  simp only [List.append_assoc]

/-- The digits of the stamp, as the last raise has them (R169). -/
theorem stampDigits_fields (w : WallTime) : validWall w → ∃ a b c d e, stampDigits w = [a, b, c, d, e]
    ∧ (a, 1000 * b + 100 * c + 10 * d + e) = (match w with
      | none => (9, 9999)
      | some (day, second) => (day, second / 60)) := by
  intro hw
  cases w with
  | none => exact ⟨9, 9, 9, 9, 9, rfl, rfl⟩
  | some stamp =>
    obtain ⟨day, second⟩ := stamp
    have hsecond : second < 60 * 1440 := hw.2
    have hminute : decimalValue (decimalDigits 4 (second / 60)) = second / 60 :=
      decimalValue_fits ((Nat.div_lt_of_lt_mul hsecond).trans (by decide))
    exact ⟨day, _, _, _, _, rfl, Prod.ext rfl ((decimalValue_four ..).trans hminute)⟩

/-- The fields of a frame, each in its place (R169). -/
theorem frameFields (identity : List Nat) (r : ReportRecord) : identity.length = 6 → (∀ d ∈ identity, d ≤ 9) →
    validWall r.last → ∃ ds c, frameOf identity r = 10 :: ds ++ [c, 11] ∧ ds.length = 22 ∧ (∀ d ∈ ds, d ≤ 9) ∧ c ≤ 9
      ∧ (weightedSum ds + c) % 10 = 0 ∧ ds.take 6 = identity
      ∧ 10 * ds.getD 6 0 + ds.getD 7 0 = r.kind.code
      ∧ ds.getD 8 0 = (if r.kind.urgent then 1 else 2)
      ∧ 100 * ds.getD 9 0 + 10 * ds.getD 10 0 + ds.getD 11 0 = min 999 r.count
      ∧ (ds.getD 12 0, 1000 * ds.getD 13 0 + 100 * ds.getD 14 0 + 10 * ds.getD 15 0 + ds.getD 16 0) =
        (match r.last with
          | none => (9, 9999)
          | some (day, second) => (day, second / 60))
      ∧ (r.detail ≤ 65535 → 10000 * ds.getD 17 0 + 1000 * ds.getD 18 0 + 100 * ds.getD 19 0 + 10 * ds.getD 20 0
          + ds.getD 21 0 = r.detail) := by
  intro hlen hdigits hwall
  obtain ⟨hcheck, hsum⟩ := checkDigit_completes (frameDigits identity r)
  obtain ⟨a, b, c, d, e, hstamp, hfields⟩ := stampDigits_fields r.last hwall
  have hds := frameDigits_of_identity hlen r
  refine ⟨frameDigits identity r, _, rfl, ?_, ?_, hcheck, hsum, ?_⟩
  · rewrite [hds]
    simp [hlen, decimalDigits_length, stampDigits_length]
  · intro x hx
    rewrite [hds] at hx
    simp only [List.mem_append, List.mem_singleton] at hx
    rcases hx with hx | ((((hx | hx) | hx) | hx) | hx)
    · exact hdigits x hx
    · exact decimalDigits_le hx
    · rewrite [hx]
      split <;> decide
    · exact decimalDigits_le hx
    · exact stampDigits_le hwall hx
    · exact decimalDigits_le hx
  · obtain ⟨i1, i2, i3, i4, i5, i6, rfl⟩ : ∃ i1 i2 i3 i4 i5 i6, identity = [i1, i2, i3, i4, i5, i6] := by
      match identity, hlen with
      | [i1, i2, i3, i4, i5, i6], _ => exact ⟨i1, i2, i3, i4, i5, i6, rfl⟩
    have hkind : decimalValue (decimalDigits 2 r.kind.code) = r.kind.code := decimalValue_fits (kindCode_lt r.kind)
    have hcount : decimalValue (decimalDigits 3 (min r.count 999)) = min r.count 999 :=
      decimalValue_fits (Nat.lt_succ_of_le (Nat.min_le_right _ _))
    have hdetail : r.detail ≤ 65535 → decimalValue (decimalDigits 5 r.detail) = r.detail := fun h =>
      decimalValue_fits (Nat.lt_of_le_of_lt h (by decide))
    rewrite [hds, hstamp]
    exact ⟨rfl, (decimalValue_two ..).trans hkind, rfl, ((decimalValue_three ..).trans hcount).trans (Nat.min_comm _ _),
      hfields, fun h => (decimalValue_five ..).trans (hdetail h)⟩

/-! ## A new record -/

/-- A new record, as the queue takes it (R163). -/
def newRecordOf (kind : ReportKind) (detail slot : Nat) (p : Part) : ReportRecord :=
  { kind, sending := false, sequence := p.cru.sequence + 1, count := 1, first := p.rtu.clock, last := p.rtu.clock,
    detail, attempts := 0, sent := none, updated := false, firstMerge := none, slot }

theorem reportAsk_cru (p : Part) : (reportAsk p).cru = { p.cru with report := (reportAsk p).cru.report } := by
  rw [reportAsk_frame]

theorem joinRecord_cru (kind : ReportKind) (detail slot : Nat) (p : Part) : (joinRecord kind detail slot p).cru =
    { p.cru with
      sequence := p.cru.sequence + 1
      queue := p.cru.queue ++ [newRecordOf kind detail slot p]
      backoff := if kind.urgent then none else p.cru.backoff
      report := (joinRecord kind detail slot p).cru.report } := by
  unfold joinRecord
  dsimp only
  rewrite [reportAsk_cru]
  cases kind.urgent with
  | false => rfl
  | true =>
    rewrite [if_pos rfl, if_pos rfl]
    unfold cancelBackoff
    split
    case isTrue => rfl
    case isFalse h =>
      have hnone : p.cru.backoff = none := by simpa using h
      rewrite [← hnone]
      rfl

theorem joinRecord_marks (kind : ReportKind) (detail slot : Nat) (p : Part) :
    Group.report slot ∈ (joinRecord kind detail slot p).bpu.dirty := by
  unfold joinRecord
  dsimp only
  refine (reportAsk_publishes _).dirty _ ?_
  split
  · unfold cancelBackoff
    split
    · exact mem_insertGroup_of_mem (mem_insertGroup_self _ _)
    · exact mem_insertGroup_self _ _
  · exact mem_insertGroup_self _ _

/-- Where the line is in use a record joins without a report call (R167). -/
theorem joinRecord_report {kind : ReportKind} {detail slot : Nat} {p : Part} (h : p.lu.line ≠ .idle) :
    (joinRecord kind detail slot p).cru.report = p.cru.report := by
  unfold joinRecord
  dsimp only
  split
  · rw [reportAsk_refused]
    · unfold cancelBackoff
      split <;> rfl
    · unfold cancelBackoff
      split <;> exact h
  · rewrite [reportAsk_refused (by exact h)]
    rfl

/-- The state with the oldest QUEUED ROUTINE record displaced, and counted (R165). -/
def displaced (old : ReportRecord) (p : Part) : Part :=
  countDropped { p with cru.queue := p.cru.queue.filter fun r => r.slot != old.slot }

theorem newRecord_displaces {kind : ReportKind} {detail : Nat} {old : ReportRecord} {p : Part}
    (hfull : 8 ≤ p.cru.queue.length) (hurgent : kind.urgent = true) (hold : displaceable p.cru.queue = some old) :
    newRecord kind detail p = joinRecord kind detail old.slot (displaced old p) := by
  unfold newRecord
  rewrite [if_neg (by omega), if_pos hurgent, hold]
  rfl

theorem newRecord_drops {kind : ReportKind} {detail : Nat} {p : Part} (hfull : 8 ≤ p.cru.queue.length)
    (h : kind.urgent = false ∨ displaceable p.cru.queue = none) : newRecord kind detail p = countDropped p := by
  unfold newRecord
  rewrite [if_neg (by omega)]
  rcases h with h | h
  · rewrite [h]
    exact if_neg nofun
  · rewrite [h]
    exact ite_self _

theorem newRecord_full_dropped (kind : ReportKind) (detail : Nat) {p : Part} (hfull : 8 ≤ p.cru.queue.length) :
    (newRecord kind detail p).cru.dropped = min 65535 (p.cru.dropped + 1)
      ∧ Group.status 4 ∈ (newRecord kind detail p).bpu.dirty := by
  have hcounted : ∀ u : Part, Group.status 4 ∈ (countDropped u).bpu.dirty := fun u => mem_insertGroup_self _ _
  by_cases hdrops : kind.urgent = false ∨ displaceable p.cru.queue = none
  · rewrite [newRecord_drops hfull hdrops]
    exact ⟨rfl, hcounted p⟩
  · obtain ⟨hurgent, hold⟩ := not_or.1 hdrops
    obtain ⟨old, hold⟩ := Option.ne_none_iff_exists'.1 hold
    rewrite [newRecord_displaces hfull (by simpa using hurgent) hold]
    exact ⟨by rewrite [joinRecord_cru]; rfl, (joinRecord_publishes ..).dirty _ (hcounted _)⟩

theorem raise_unqueued {k : Condition} {p : Part} (hk : k ≠ .profileBad) (hactive : isActive k p = false)
    (hqueue : ∀ r ∈ p.cru.queue, r.kind ≠ .condition k) (detail : Nat) :
    raise k detail p = newRecord (.condition k) detail (raisedTable k detail p) := by
  rewrite [raise_eq, if_neg hk, hactive, enqueueRaise_unqueued (by rewrite [raisedTable_frame]; exact hqueue)]
  rfl

theorem raise_displaces (k : Condition) (detail : Nat) (p : Part) (hk : k ≠ .profileBad)
    (hactive : isActive k p = false) (hqueue : ∀ r ∈ p.cru.queue, r.kind ≠ .condition k)
    (hfull : 8 ≤ p.cru.queue.length) :
    let q := raise k detail p
    q.cru.dropped = min 65535 (p.cru.dropped + 1) ∧ Group.status 4 ∈ q.bpu.dirty
    ∧ (p.cru.rows.length = 14 → isActive k q = true)
    ∧ (∀ old, (ReportKind.condition k).urgent = true →
        p.cru.queue.find? (fun r => !r.sending && !r.kind.urgent) = some old →
        q.cru.queue = (p.cru.queue.filter fun r => r.slot != old.slot) ++
          [{ kind := .condition k, sending := false, sequence := p.cru.sequence + 1, count := 1, first := p.rtu.clock,
             last := p.rtu.clock, detail, attempts := 0, sent := none, updated := false, firstMerge := none,
             slot := old.slot }]
        ∧ q.cru.backoff = none ∧ Group.report old.slot ∈ q.bpu.dirty)
    ∧ ((ReportKind.condition k).urgent = false ∨ (∀ r ∈ p.cru.queue, r.sending = true ∨ r.kind.urgent = true) →
        q.cru.queue = p.cru.queue ∧ q.cru.sequence = p.cru.sequence ∧ q.cru.backoff = p.cru.backoff) := by
  intro q
  have hq : q = newRecord (.condition k) detail (raisedTable k detail p) := raise_unqueued hk hactive hqueue detail
  have hframe := raisedTable_frame k detail p
  have hlit : p.cru.rows.length = 14 → isActive k q = true := fun hrows => (raise_active rfl hrows).1
  generalize raisedTable k detail p = r at hq hframe
  have hrqueue : r.cru.queue = p.cru.queue := by rw [hframe]
  have hrfull : 8 ≤ r.cru.queue.length := by rewrite [hrqueue]; exact hfull
  obtain ⟨hdropped, hmarked⟩ := newRecord_full_dropped (.condition k) detail hrfull
  rewrite [← hq] at hdropped hmarked
  refine ⟨hdropped.trans (by rw [hframe]), hmarked, hlit, fun old hurgent hold => ?_, fun hnone => ?_⟩
  · have hjoined := hq.trans (newRecord_displaces hrfull hurgent (by rewrite [hrqueue]; exact hold))
    have hcru := joinRecord_cru (.condition k) detail old.slot (displaced old r)
    refine ⟨?_, ?_, ?_⟩
    · rewrite [hjoined, hcru, hframe]
      rfl
    · rewrite [hjoined, hcru]
      exact if_pos hurgent
    · rewrite [hjoined]
      exact joinRecord_marks ..
  · have hnothing : (ReportKind.condition k).urgent = false ∨ displaceable r.cru.queue = none := by
      refine hnone.imp_right fun hall => ?_
      rewrite [hrqueue, displaceable, List.find?_eq_none]
      intro x hx
      rcases hall x hx with h | h <;> simp [h]
    rewrite [hq, newRecord_drops hrfull hnothing, hframe]
    exact ⟨rfl, rfl, rfl⟩

end Sys2Proof.Machine
end

section
/-!
PROOFS. A report call that ends as a failure, and the third failed seize in either order with it (10_vandalism_reports.md,
Failures and backoff; 07_the_line.md, Outcomes, line failure and probes).
-/

namespace Sys2Proof.Machine

/-! ## The failed seize -/

set_option Elab.async false in
/-- Where the line is in use, a new record begins no report call, and at most cancels backoff (R163, R174). -/
theorem newRecord_inUse {kind : ReportKind} {detail : Nat} {p : Part} (hline : p.lu.line ≠ .idle) :
    (newRecord kind detail p).cru.report = p.cru.report
      ∧ ((newRecord kind detail p).cru.backoff = p.cru.backoff ∨ (newRecord kind detail p).cru.backoff = none) := by
  have hjoined : ∀ (slot : Nat) (u : Part), u.lu.line ≠ .idle →
      (joinRecord kind detail slot u).cru.report = u.cru.report
        ∧ ((joinRecord kind detail slot u).cru.backoff = u.cru.backoff
          ∨ (joinRecord kind detail slot u).cru.backoff = none) := by
    refine fun slot u hu => ⟨joinRecord_report hu, ?_⟩
    rewrite [joinRecord_cru]
    cases kind.urgent with
    | false => exact .inl rfl
    | true => exact .inr rfl
  by_cases hroom : p.cru.queue.length < 8
  · rewrite [newRecord_room hroom]
    exact hjoined _ p hline
  · by_cases hdrops : kind.urgent = false ∨ displaceable p.cru.queue = none
    · rewrite [newRecord_drops (by omega) hdrops]
      exact ⟨rfl, .inl rfl⟩
    · obtain ⟨hurgent, hold⟩ := not_or.1 hdrops
      obtain ⟨old, hold⟩ := Option.ne_none_iff_exists'.1 hold
      rewrite [newRecord_displaces (by omega) (by simpa using hurgent) hold]
      exact hjoined old.slot (displaced old p) hline

theorem raise_failures (k : Condition) (d : Nat) (p : Part) : (raise k d p).cru.failures = p.cru.failures := by
  have hsensors := (raise_after_table k d p).1
  have htable : (raisedTable k d p).cru.failures = p.cru.failures := by rw [raisedTable_frame]
  simp only [sensors, Prod.mk.injEq] at hsensors
  obtain ⟨-, -, -, -, -, -, -, -, -, -, -, hfailures⟩ := hsensors
  exact hfailures.trans htable

/-- No record of LINE_DOWN is in the queue, and the condition is clear. -/
def lineDownNew (p : Part) : Prop :=
  isActive .lineDown p = false ∧ ∀ r ∈ p.cru.queue, r.kind ≠ .condition .lineDown

/-- A raise of LINE_DOWN with the line in use begins no report call; only a new record cancels backoff (R174). -/
theorem raise_lineDown_inUse {d : Nat} {p : Part} (hline : p.lu.line ≠ .idle) :
    (raise .lineDown d p).cru.report = p.cru.report
      ∧ ((raise .lineDown d p).cru.backoff = p.cru.backoff
        ∨ (raise .lineDown d p).cru.backoff = none ∧ lineDownNew p) := by
  have hframe := raisedTable_frame .lineDown d p
  have hraise := raise_eq .lineDown d p
  rewrite [if_neg (by decide)] at hraise
  by_cases hnew : lineDownNew p
  · rewrite [raise_unqueued (by decide) hnew.1 hnew.2]
    obtain ⟨hreport, hbackoff⟩ := newRecord_inUse (kind := .condition .lineDown) (detail := d)
      (p := raisedTable .lineDown d p) (by rewrite [hframe]; exact hline)
    have hsame : (raisedTable .lineDown d p).cru.report = p.cru.report
        ∧ (raisedTable .lineDown d p).cru.backoff = p.cru.backoff := by rewrite [hframe]; exact ⟨rfl, rfl⟩
    exact ⟨hreport.trans hsame.1, hbackoff.imp (·.trans hsame.2) (⟨·, hnew⟩)⟩
  · have hkept : (raise .lineDown d p).cru.report = (raisedTable .lineDown d p).cru.report
        ∧ (raise .lineDown d p).cru.backoff = (raisedTable .lineDown d p).cru.backoff := by
      rewrite [hraise]
      unfold enqueueRaise
      split
      · exact ⟨rfl, rfl⟩
      · next hfind =>
        have hactive : isActive .lineDown p = true := by
          by_contra h
          refine hnew ⟨by simpa using h, fun r hr hk => ?_⟩
          have hr' : r ∈ (raisedTable .lineDown d p).cru.queue := by rewrite [hframe]; exact hr
          have := List.find?_eq_none.1 hfind r hr'
          simp [hk] at this
        rewrite [hactive]
        exact ⟨rfl, rfl⟩
    have hsame : (raisedTable .lineDown d p).cru.report = p.cru.report
        ∧ (raisedTable .lineDown d p).cru.backoff = p.cru.backoff := by rewrite [hframe]; exact ⟨rfl, rfl⟩
    exact ⟨hkept.1.trans hsame.1, .inl (hkept.2.trans hsame.2)⟩

/-- A raise of LINE_DOWN that finds room makes its record the newest (R163). -/
theorem raise_lineDown_joins {d : Nat} {p : Part} (hnew : lineDownNew p) (hroom : p.cru.queue.length < 8) :
    (raise .lineDown d p).cru.queue
      = p.cru.queue ++ [newRecordOf (.condition .lineDown) d (emptySlot p.cru.queue) p] := by
  have hframe := raisedTable_frame .lineDown d p
  rewrite [raise_unqueued (by decide) hnew.1 hnew.2]
  generalize raisedTable .lineDown d p = r at hframe
  have hqueue : r.cru.queue = p.cru.queue := by rw [hframe]
  have hsame : ∀ slot, newRecordOf (.condition .lineDown) d slot r = newRecordOf (.condition .lineDown) d slot p := by
    intro slot
    rewrite [hframe]
    rfl
  rewrite [newRecord_room (by rewrite [hqueue]; exact hroom), joinRecord_cru]
  dsimp only
  rw [hqueue, hsame]

/-- What a failed seize counts (R129, R131). -/
structure SeizeCounted (d : Nat) (p q : Part) : Prop where
  same : CallSame p q
  line : q.lu.line = p.lu.line
  owner : q.lu.owner = p.lu.owner
  failed : seizeFailed d p q
  few : p.lu.failedSeizes < 2 → q.cru = p.cru
  report : q.cru.report = p.cru.report
  failures : q.cru.failures = p.cru.failures
  backoff : q.cru.backoff = p.cru.backoff ∨ q.cru.backoff = none ∧ 2 ≤ p.lu.failedSeizes ∧ lineDownNew p
  joins : 2 ≤ p.lu.failedSeizes → lineDownNew p → p.cru.queue.length < 8 → q.cru.queue
    = p.cru.queue ++ [newRecordOf (.condition .lineDown) d (emptySlot p.cru.queue) p]
  publishes : Publishes p q

theorem countFailedSeize_counted {d : Nat} {p : Part} (hline : p.lu.line ≠ .idle) :
    SeizeCounted d p (countFailedSeize d p) := by
  obtain ⟨hsame, hlu, hrows⟩ := countFailedSeize_counts (d := d) hline
  have hfailed : seizeFailed d p (countFailedSeize d p) := ⟨by rw [hlu], hrows, by rw [hlu]⟩
  by_cases hthird : 2 ≤ p.lu.failedSeizes
  · obtain ⟨r, hr⟩ : ∃ r, r = ({ p with
        lu.failedSeizes := 0
        lu.probe := if isActive .lineDown p then p.lu.probe else some { start := p.tick, limit := 300000 } } : Part) :=
      ⟨_, rfl⟩
    have heq := countFailedSeize_third (d := d) hthird
    rewrite [← hr] at heq
    have hcru : r.cru = p.cru := by rw [hr]
    have hnew : lineDownNew r ↔ lineDownNew p := by rewrite [hr]; rfl
    obtain ⟨hreport, hbackoff⟩ := raise_lineDown_inUse (d := d) (p := r) (by rewrite [hr]; exact hline)
    have hjoins := raise_lineDown_joins (d := d) (p := r)
    have hfailures := raise_failures .lineDown d r
    have hpublishes : Publishes p (raise .lineDown d r) := (Publishes.of_bpu (by rw [hr])).trans (raise_publishes ..)
    have hrecord : ∀ slot, newRecordOf (.condition .lineDown) d slot r = newRecordOf (.condition .lineDown) d slot p := by
      intro slot
      rewrite [hr]
      rfl
    rewrite [heq] at hsame hlu hfailed ⊢
    clear hr heq hrows
    generalize raise .lineDown d r = q at *
    rewrite [hcru] at hreport hbackoff hjoins hfailures
    constructor
    case same => exact hsame
    case line => rw [hlu]
    case owner => rw [hlu]
    case failed => exact hfailed
    case few => exact fun h => absurd hthird (by omega)
    case report => exact hreport
    case failures => exact hfailures
    case backoff => exact hbackoff.imp_right fun h => ⟨h.1, hthird, hnew.1 h.2⟩
    case joins => exact fun _ h hroom => by rw [hjoins (hnew.2 h) hroom, hrecord]
    case publishes => exact hpublishes
  · have heq : countFailedSeize d p = { p with lu.failedSeizes := p.lu.failedSeizes + 1 } := if_pos (by omega)
    rewrite [heq] at hfailed ⊢
    exact ⟨⟨rfl, rfl, rfl, rfl, rfl, rfl, rfl⟩, rfl, rfl, hfailed, fun _ => rfl, rfl, rfl, .inl rfl,
      fun h => absurd h hthird, .of_bpu rfl⟩

/-! ## The failed report call -/

/-- The queue with the record that was being sent QUEUED again in its place (R171, R173). -/
def requeuedQueue (queue : List ReportRecord) : List ReportRecord :=
  match queue.find? (·.sending) with
  | some r => queue.map fun x => if x.slot = r.slot then requeued x else x
  | none => queue

theorem requeueSending_queue (p : Part) : (requeueSending p).cru.queue = requeuedQueue p.cru.queue := by
  unfold requeueSending sendingRecord requeuedQueue
  cases p.cru.queue.find? (·.sending) <;> rfl

theorem recordRequeued_of_queue {p q : Part} (h : q.cru.queue = requeuedQueue p.cru.queue) : recordRequeued p q := by
  unfold requeuedQueue at h
  refine ⟨fun hnone => ?_, fun r hr => ?_⟩
  · rw [h, hnone]
  · rewrite [h, hr]
    rfl

/-- A record that is not being sent, in a slot of its own, is no part of what is QUEUED again. -/
theorem requeuedQueue_append {queue : List ReportRecord} {n : ReportRecord} (hsending : n.sending = false)
    (hslot : n.slot ∉ queue.map (·.slot)) : requeuedQueue (queue ++ [n]) = requeuedQueue queue ++ [n] := by
  have hfind : (queue ++ [n]).find? (·.sending) = queue.find? (·.sending) := by
    rewrite [List.find?_append]
    simp [hsending]
  unfold requeuedQueue
  rewrite [hfind]
  cases hr : queue.find? (·.sending) with
  | none => rfl
  | some r =>
    have hother : n.slot ≠ r.slot := fun h =>
      hslot (h ▸ List.mem_map_of_mem (List.mem_of_find?_eq_some hr))
    dsimp only
    rw [List.map_append, List.map_singleton, if_neg hother]

theorem requeuedQueue_kept (queue : List ReportRecord) : (requeuedQueue queue).length = queue.length
    ∧ (requeuedQueue queue).map (·.slot) = queue.map (·.slot)
    ∧ (requeuedQueue queue).map (·.kind) = queue.map (·.kind) := by
  unfold requeuedQueue
  split
  · refine ⟨List.length_map _, ?_, ?_⟩
    · rewrite [List.map_map]
      refine List.map_congr_left fun x _ => ?_
      dsimp only [Function.comp]
      split <;> rfl
    · rewrite [List.map_map]
      refine List.map_congr_left fun x _ => ?_
      dsimp only [Function.comp]
      split <;> rfl
  · exact ⟨rfl, rfl, rfl⟩

theorem emptySlot_congr {l m : List ReportRecord} (h : m.map (·.slot) = l.map (·.slot)) : emptySlot m = emptySlot l := by
  have hany : ∀ n, (m.any fun r => r.slot == n) = l.any fun r => r.slot == n := by
    intro n
    have := congrArg (fun slots : List Nat => slots.any (· == n)) h
    rewrite [List.any_map, List.any_map] at this
    exact this
  unfold emptySlot
  simp only [hany]

/-- The backoff doubles from 60 s up to 1,920 s (R173). -/
theorem backoffTime_after {f : Nat} (h : 1 ≤ f) : backoffTime f = backoffAfter f := by
  match f, h with
  | 1, _ | 2, _ | 3, _ | 4, _ | 5, _ => rfl
  | n + 6, _ => exact if_pos (by omega)

/-- A report call that is over, counted as a success or not, with a failure of the report call (R171, R173). -/
structure ReportClosed (succeeded : Bool) (p q : Part) : Prop where
  cru : q.cru = { p.cru with
    report := none
    failures := min 255 (p.cru.failures + 1)
    backoff := some { start := p.tick, limit := backoffAfter (min 255 (p.cru.failures + 1)) } }
  calls : p.cau.load = .ended → q.cau.calls = if succeeded
    then { p.cau.calls with reportsSucceeded := p.cau.calls.reportsSucceeded + 1 }
    else { p.cau.calls with reportsFailed := p.cau.calls.reportsFailed + 1 }
  lu : q.lu = p.lu
  cc : q.cc = p.cc
  rlu : q.rlu = p.rlu
  rtu : q.rtu = p.rtu
  mem : q.mem = p.mem
  tick : q.tick = p.tick
  marked : Group.status 4 ∈ q.bpu.dirty

theorem countEvent_marks {e : CountEvent} {g : Group} {p : Part} (h : g ∈ p.bpu.dirty) :
    g ∈ (countEvent e p).bpu.dirty := by
  unfold countEvent
  split
  · unfold markRecord
    split
    · exact h
    · exact mem_insertGroup_of_mem h
  · exact h

theorem closeReport_closed (succeeded : Bool) (p : Part) :
    ReportClosed succeeded p (closeReport (some succeeded) (reportFailure p)) := by
  rewrite [closeReport_some]
  have hbackoff : backoffTime (satAdd 255 p.cru.failures) = backoffAfter (min 255 (p.cru.failures + 1)) :=
    backoffTime_after (f := min 255 (p.cru.failures + 1)) (by omega)
  obtain ⟨r, hr⟩ : ∃ r, r = { reportFailure p with cru.report := none } := ⟨_, rfl⟩
  have hcru : r.cru = { p.cru with
      report := none
      failures := min 255 (p.cru.failures + 1)
      backoff := some { start := p.tick, limit := backoffAfter (min 255 (p.cru.failures + 1)) } } := by
    rewrite [hr, ← hbackoff]
    rfl
  have hmarked : Group.status 4 ∈ r.bpu.dirty := by
    rewrite [hr]
    exact mem_insertGroup_self _ _
  have hcau : r.cau = p.cau := by rewrite [hr]; rfl
  have hrest : r.lu = p.lu ∧ r.cc = p.cc ∧ r.rlu = p.rlu ∧ r.rtu = p.rtu ∧ r.mem = p.mem ∧ r.tick = p.tick := by
    rewrite [hr]
    exact ⟨rfl, rfl, rfl, rfl, rfl, rfl⟩
  rewrite [← hr]
  clear hr
  obtain ⟨hlu, hcc, hrlu, hrtu, hmem, htick⟩ := hrest
  have hframe := countEvent_frame (.report succeeded) r
  constructor
  case cru => rewrite [hframe]; exact hcru
  case calls =>
    intro hload
    rewrite [countEvent_calls (by rewrite [hcau]; exact hload), hcau]
    cases succeeded <;> rfl
  case lu => rewrite [hframe]; exact hlu
  case cc => rewrite [hframe]; exact hcc
  case rlu => rewrite [hframe]; exact hrlu
  case rtu => rewrite [hframe]; exact hrtu
  case mem => rewrite [hframe]; exact hmem
  case tick => rewrite [hframe]; exact htick
  case marked => exact countEvent_marks hmarked

theorem reportOutcome_fails {o : LineOutcome} {c : ReportCall} {p : Part} (hreport : p.cru.report = some c)
    (hlate : lateOutcome o = false) :
    reportOutcome o p = closeReport (some false) (reportFailure (requeueSending p)) := by
  unfold reportOutcome
  rewrite [hreport]
  dsimp only
  rewrite [hlate]
  rfl

/-- The report call's failure, told to the report queue, as the state before it has it. -/
structure ReportFailed (p q : Part) : Prop where
  cru : q.cru = { p.cru with
    report := none
    queue := requeuedQueue p.cru.queue
    failures := min 255 (p.cru.failures + 1)
    backoff := some { start := p.tick, limit := backoffAfter (min 255 (p.cru.failures + 1)) } }
  calls : p.cau.load = .ended → q.cau.calls = { p.cau.calls with reportsFailed := p.cau.calls.reportsFailed + 1 }
  lu : q.lu = p.lu
  cc : q.cc = p.cc
  rlu : q.rlu = p.rlu
  rtu : q.rtu = p.rtu
  mem : q.mem = p.mem
  tick : q.tick = p.tick
  marked : Group.status 4 ∈ q.bpu.dirty

theorem reportOutcome_failed {o : LineOutcome} {c : ReportCall} {p : Part} (hreport : p.cru.report = some c)
    (hlate : lateOutcome o = false) : ReportFailed p (reportOutcome o p) := by
  have hframe := (requeueSending_requeued p).2
  have hqueue := requeueSending_queue p
  rewrite [reportOutcome_fails hreport hlate]
  generalize requeueSending p = r at hframe hqueue
  have hclosed := closeReport_closed false r
  have hcru : r.cru = { p.cru with queue := requeuedQueue p.cru.queue } := by rw [hframe, hqueue]
  have htick : r.tick = p.tick := by rw [hframe]
  constructor
  case cru => rw [hclosed.cru, hcru, htick]
  case calls =>
    intro hload
    rewrite [hclosed.calls (by rewrite [hframe]; exact hload), hframe]
    rfl
  case lu => rw [hclosed.lu, hframe]
  case cc => rw [hclosed.cc, hframe]
  case rlu => rw [hclosed.rlu, hframe]
  case rtu => rw [hclosed.rtu, hframe]
  case mem => rw [hclosed.mem, hframe]
  case tick => rw [hclosed.tick, htick]
  case marked => exact hclosed.marked

/-! ## A report call's failed seize -/

/-- A report call's seize has failed: what the outcome and the count of failed seizes leave, taken in either order. -/
structure ReportSeizeFailed (detail : Nat) (p q : Part) : Prop where
  line : q.lu.line = .clearing
  owner : q.lu.owner = .none
  seize : seizeFailed detail p q
  report : q.cru.report = none
  failures : q.cru.failures = min 255 (p.cru.failures + 1)
  marked : Group.status 4 ∈ q.bpu.dirty
  calls : p.cau.load = .ended → q.cau.calls = { p.cau.calls with reportsFailed := p.cau.calls.reportsFailed + 1 }
  cc : q.cc = p.cc
  rlu : q.rlu = p.rlu
  mem : q.mem = p.mem
  few : p.lu.failedSeizes < 2 → reportFailed p q
  backoff : q.cru.backoff = some { start := p.tick, limit := backoffAfter (min 255 (p.cru.failures + 1)) }
    ∨ q.cru.backoff = none ∧ 2 ≤ p.lu.failedSeizes ∧ lineDownNew p
  joins : 2 ≤ p.lu.failedSeizes → lineDownNew p → p.cru.queue.length < 8 → q.cru.queue
    = requeuedQueue p.cru.queue ++ [newRecordOf (.condition .lineDown) detail (emptySlot p.cru.queue) p]

theorem newRecordOf_congr {p q : Part} (hsequence : q.cru.sequence = p.cru.sequence)
    (hclock : q.rtu.clock = p.rtu.clock) (kind : ReportKind) (detail slot : Nat) :
    newRecordOf kind detail slot q = newRecordOf kind detail slot p := by
  unfold newRecordOf
  rw [hsequence, hclock]

/-- The failed seize is counted first, and the outcome told then. -/
theorem seizeFailed_told {o : LineOutcome} {d : Nat} {c : ReportCall} {p : Part} (hline : p.lu.line = .clearing)
    (howner : p.lu.owner = .none) (hreport : p.cru.report = some c) (hlate : lateOutcome o = false) :
    ReportSeizeFailed d p (reportOutcome o (countFailedSeize d p)) := by
  have hcounted := countFailedSeize_counted (d := d) (p := p) (by rewrite [hline]; decide)
  generalize countFailedSeize d p = x at hcounted
  have hfailed := reportOutcome_failed (o := o) (p := x) (hcounted.report.trans hreport) hlate
  generalize reportOutcome o x = q at hfailed
  obtain ⟨hseizes, hrows, hprobe⟩ := hcounted.failed
  have htick := hcounted.same.tick
  constructor
  case line => rw [hfailed.lu, hcounted.line, hline]
  case owner => rw [hfailed.lu, hcounted.owner, howner]
  case seize => exact ⟨by rewrite [hfailed.lu]; exact hseizes, by rewrite [hfailed.cru]; exact hrows, by rewrite [hfailed.lu]; exact hprobe⟩
  case report => rw [hfailed.cru]
  case failures => rw [hfailed.cru, hcounted.failures]
  case marked => exact hfailed.marked
  case calls =>
    intro hload
    rw [hfailed.calls (by rewrite [hcounted.same.cau]; exact hload), hcounted.same.cau]
  case cc => rw [hfailed.cc, hcounted.same.cc]
  case rlu => rw [hfailed.rlu, hcounted.same.rlu]
  case mem => rw [hfailed.mem, hcounted.same.mem]
  case few =>
    intro hfew
    have hcru := hfailed.cru
    rewrite [hcounted.few hfew, htick] at hcru
    refine ⟨by rw [hcru], by rw [hcru], by rw [hcru], hfailed.marked, by rw [hcru], recordRequeued_of_queue (by rw [hcru])⟩
  case backoff => exact .inl (by rw [hfailed.cru, hcounted.failures, htick])
  case joins =>
    intro hthird hnew hroom
    rewrite [hfailed.cru, hcounted.joins hthird hnew hroom]
    exact requeuedQueue_append rfl (emptySlot_spec hroom).2

/-- The outcome is told first, and the failed seize counted then. -/
theorem seizeFailed_counted {o : LineOutcome} {d : Nat} {c : ReportCall} {p : Part} (hline : p.lu.line = .clearing)
    (howner : p.lu.owner = .none) (hreport : p.cru.report = some c) (hlate : lateOutcome o = false) :
    ReportSeizeFailed d p (countFailedSeize d (reportOutcome o p)) := by
  have hfailed := reportOutcome_failed (o := o) hreport hlate
  generalize reportOutcome o p = x at hfailed
  have hcounted := countFailedSeize_counted (d := d) (p := x) (by rewrite [hfailed.lu, hline]; decide)
  generalize countFailedSeize d x = q at hcounted
  obtain ⟨hseizes, hrows, hprobe⟩ := hcounted.failed
  obtain ⟨hlength, hslots, hkinds⟩ := requeuedQueue_kept p.cru.queue
  have hxrows : x.cru.rows = p.cru.rows := by rw [hfailed.cru]
  have hxqueue : x.cru.queue = requeuedQueue p.cru.queue := by rw [hfailed.cru]
  have hactive : isActive .lineDown x = isActive .lineDown p := isActive_congr hxrows _
  have hnew : lineDownNew x ↔ lineDownNew p := by
    unfold lineDownNew
    rewrite [hactive, hxqueue]
    have hall : ∀ l : List ReportRecord, (∀ r ∈ l, r.kind ≠ .condition .lineDown)
        ↔ ∀ k ∈ l.map (·.kind), k ≠ .condition .lineDown := fun l => by simp
    rw [hall, hall, hkinds]
  rewrite [hfailed.lu] at hseizes hprobe
  constructor
  case line => rw [hcounted.line, hfailed.lu, hline]
  case owner => rw [hcounted.owner, hfailed.lu, howner]
  case seize =>
    refine ⟨hseizes, ?_, ?_⟩
    · rw [hrows, hfailed.lu, hxrows, raise_rows_of_rows hxrows (by rw [hfailed.rtu])]
    · rw [hprobe, hactive, hfailed.tick]
  case report => rw [hcounted.report, hfailed.cru]
  case failures => rw [hcounted.failures, hfailed.cru]
  case marked => exact hcounted.publishes.dirty _ hfailed.marked
  case calls => exact fun hload => by rw [hcounted.same.cau, hfailed.calls hload]
  case cc => rw [hcounted.same.cc, hfailed.cc]
  case rlu => rw [hcounted.same.rlu, hfailed.rlu]
  case mem => rw [hcounted.same.mem, hfailed.mem]
  case few =>
    intro hfew
    have hcru := (hcounted.few (by rewrite [hfailed.lu]; exact hfew)).trans hfailed.cru
    exact ⟨by rw [hcru], by rw [hcru], by rw [hcru], hcounted.publishes.dirty _ hfailed.marked, by rw [hcru],
      recordRequeued_of_queue (by rw [hcru])⟩
  case backoff =>
    refine hcounted.backoff.imp (fun h => by rw [h, hfailed.cru]) fun h => ⟨h.1, ?_, hnew.1 h.2.2⟩
    rewrite [← hfailed.lu]
    exact h.2.1
  case joins =>
    intro hthird hpnew hroom
    rw [hcounted.joins (by rewrite [hfailed.lu]; exact hthird) (hnew.2 hpnew) (by rewrite [hxqueue, hlength]; exact hroom), hxqueue,
      emptySlot_congr hslots, newRecordOf_congr (p := p) (q := x) (by rw [hfailed.cru]) (by rw [hfailed.rtu])]

theorem lineOutcome_report {o : LineOutcome} {d : Nat} {c : ReportCall} {p : Part} (howner : p.lu.owner = .report)
    (hreport : p.cru.report = some c) (hdetail : failedSeizeDetail o = some d) :
    ReportSeizeFailed d p (lineOutcome o p) := by
  have hlate : lateOutcome o = false := by
    cases o <;> first | rfl | exact absurd hdetail nofun
  obtain ⟨r, hr⟩ : ∃ r, r = { enterClearing p with free := (enterClearing p).free + 1 } := ⟨_, rfl⟩
  have hfailure : ∀ q, seizeFailure .report o q = countFailedSeize d q := by
    intro q
    rewrite [seizeFailure, hdetail]
    exact if_neg nofun
  have houtcome : lineOutcome o p = if Config.raiseBeforeOutcome (enterClearing p).free
      then reportOutcome o (countFailedSeize d r) else countFailedSeize d (reportOutcome o r) := by
    unfold lineOutcome
    dsimp only
    rewrite [howner, if_pos rfl, ← hr, hfailure, hfailure]
    rfl
  have hline : r.lu.line = .clearing := by rewrite [hr]; rfl
  have hnone : r.lu.owner = .none := by rewrite [hr]; rfl
  have hcall : r.cru.report = some c := by rewrite [hr]; exact hreport
  have hended : ReportSeizeFailed d r (lineOutcome o p) := by
    rewrite [houtcome]
    split
    · exact seizeFailed_told hline hnone hcall hlate
    · exact seizeFailed_counted hline hnone hcall hlate
  obtain ⟨hcru, hseizes, hprobe, htick, hclock, hcau, hcc, hrlu, hmem⟩ : r.cru = p.cru
      ∧ r.lu.failedSeizes = p.lu.failedSeizes ∧ r.lu.probe = p.lu.probe ∧ r.tick = p.tick ∧ r.rtu.clock = p.rtu.clock
      ∧ r.cau = p.cau ∧ r.cc = p.cc ∧ r.rlu = p.rlu ∧ r.mem = p.mem := by
    rewrite [hr]
    exact ⟨rfl, rfl, rfl, rfl, rfl, rfl, rfl, rfl, rfl⟩
  clear hr houtcome
  generalize lineOutcome o p = q at *
  have hactive : isActive .lineDown r = isActive .lineDown p := isActive_congr (by rw [hcru]) _
  have hnew : lineDownNew r ↔ lineDownNew p := by
    unfold lineDownNew
    rw [hactive, hcru]
  have hrows := raise_rows_of_rows (p := p) (q := r) (by rw [hcru]) hclock .lineDown d
  constructor
  case line => exact hended.line
  case owner => exact hended.owner
  case seize =>
    obtain ⟨hfailed, htable, htimer⟩ := hended.seize
    rewrite [hseizes] at hfailed htable htimer
    exact ⟨hfailed, by rw [htable, hrows, hcru], by rw [htimer, hactive, htick, hprobe]⟩
  case report => exact hended.report
  case failures => rw [hended.failures, hcru]
  case marked => exact hended.marked
  case calls => exact fun hload => by rw [hended.calls (by rewrite [hcau]; exact hload), hcau]
  case cc => rw [hended.cc, hcc]
  case rlu => rw [hended.rlu, hrlu]
  case mem => rw [hended.mem, hmem]
  case few =>
    intro hfew
    have hfailed := hended.few (by rewrite [hseizes]; exact hfew)
    unfold reportFailed recordRequeued at hfailed ⊢
    rewrite [hcru, htick] at hfailed
    exact hfailed
  case backoff =>
    have hbackoff := hended.backoff
    rewrite [hcru, htick, hseizes, hnew] at hbackoff
    exact hbackoff
  case joins =>
    intro hthird hpnew hroom
    rw [hended.joins (by rewrite [hseizes]; exact hthird) (hnew.2 hpnew) (by rewrite [hcru]; exact hroom), hcru,
      newRecordOf_congr (p := p) (q := r) (by rw [hcru]) hclock]

theorem frameWellFormed_seizeEnds (s : State) (command : Instr) (detail : Nat)
    (hreport : s.part.cru.report.isSome = true) (howner : s.part.lu.owner = .report) (hload : s.part.cau.load = .ended)
    (hends : seizeEnds command detail s.part) :
    let failures := min 255 (s.part.cru.failures + 1)
    let backoff : Option Timer := some { start := s.part.tick, limit := backoffAfter failures }
    ∃ t, exec command s = .next t ∧ t.part.lu.line = .clearing ∧ t.part.lu.owner = .none
      ∧ seizeFailed detail s.part t.part
      ∧ t.part.cru.report = none ∧ t.part.cru.failures = failures
      ∧ Group.status 4 ∈ t.part.bpu.dirty
      ∧ t.part.cau.calls = { s.part.cau.calls with reportsFailed := s.part.cau.calls.reportsFailed + 1 }
      ∧ t.part.cc = s.part.cc ∧ t.part.rlu = s.part.rlu ∧ t.part.mem = s.part.mem
      ∧ (s.part.lu.failedSeizes < 2 → reportFailed s.part t.part)
      ∧ (t.part.cru.backoff = backoff ∨ t.part.cru.backoff = none ∧ 2 ≤ s.part.lu.failedSeizes
        ∧ isActive .lineDown s.part = false ∧ ∀ r ∈ s.part.cru.queue, r.kind ≠ .condition .lineDown)
      ∧ (2 ≤ s.part.lu.failedSeizes → isActive .lineDown s.part = false →
        (∀ r ∈ s.part.cru.queue, r.kind ≠ .condition .lineDown) → s.part.cru.queue.length < 8 →
        ∃ before new, t.part.cru.queue = before ++ [new] ∧ recordRequeued s.part { t.part with cru.queue := before }
          ∧ new.kind = .condition .lineDown ∧ new.detail = detail ∧ new.sending = false
          ∧ new.sequence = s.part.cru.sequence + 1) := by
  intro failures backoff
  obtain ⟨c, hcall⟩ := Option.isSome_iff_exists.1 hreport
  obtain ⟨o, hdetail, -, hexec⟩ := exec_seizeEnds hends
  have hended := lineOutcome_report howner hcall hdetail
  generalize lineOutcome o s.part = q at hexec hended
  exact ⟨_, hexec, hended.line, hended.owner, hended.seize, hended.report, hended.failures, hended.marked,
    hended.calls hload, hended.cc, hended.rlu, hended.mem, hended.few, hended.backoff,
    fun hthird hactive hqueue hroom => ⟨_, _, hended.joins hthird ⟨hactive, hqueue⟩ hroom,
      recordRequeued_of_queue rfl, rfl, rfl, rfl, rfl⟩⟩

end Sys2Proof.Machine
end

section
/-!
PROOFS. The end of a report call by its frames: the third send without an answer, the record that a merge re-arms, the
eighth record (10_vandalism_reports.md, The report call, Failures and backoff).
-/

namespace Sys2Proof.Machine

set_option Elab.async false in
theorem releaseLine_report {p : Part} (h : p.lu.owner = .report) : releaseLine .report p = enterClearing p := by
  unfold releaseLine
  rewrite [if_neg (c := Owner.report = Owner.customer) (by decide)]
  exact if_pos ⟨h, by decide⟩

theorem frameNotAccepted_third {p : Part} {c : ReportCall} {r : ReportRecord} (hreport : p.cru.report = some c)
    (hsending : sendingRecord p = some r) (howner : p.lu.owner = .report) (h : 3 ≤ c.sends) : frameNotAccepted p =
      closeReport (some (decide (0 < c.accepted))) (reportFailure (enterClearing (requeueSending p))) := by
  have howned : (requeueSending p).lu.owner = .report := by
    rewrite [(requeueSending_requeued p).2]
    exact howner
  unfold frameNotAccepted
  rewrite [hreport, hsending]
  dsimp only
  rw [if_neg (by omega), releaseLine_report howned]

theorem frameWellFormed_third (s : State) (c : ReportCall) (r : ReportRecord) (hreport : s.part.cru.report = some c)
    (howner : s.part.lu.owner = .report) (hsending : s.part.cru.queue.find? (·.sending) = some r)
    (hload : s.part.cau.load = .ended) (hsends : 3 ≤ c.sends) :
    ∃ t, (due s.part.lu.ackWait s.part → exec .ackWaitExpiry s = .next t)
      ∧ (s.part.lu.line = .awaitAck → exec (.dtmfSymbolReceived 13) s = .next t)
      ∧ t.part.lu.line = .clearing ∧ t.part.lu.owner = .none ∧ reportFailed s.part t.part
      ∧ t.part.cau.calls = (if c.accepted = 0 then
            { s.part.cau.calls with reportsFailed := s.part.cau.calls.reportsFailed + 1 }
          else { s.part.cau.calls with reportsSucceeded := s.part.cau.calls.reportsSucceeded + 1 })
      ∧ t.part.cc = s.part.cc ∧ t.part.rlu = s.part.rlu ∧ t.part.mem = s.part.mem := by
  have hthird := frameNotAccepted_third (p := resultHanded s.part) hreport hsending howner hsends
  have hframe := (requeueSending_requeued (resultHanded s.part)).2
  have hqueue := requeueSending_queue (resultHanded s.part)
  have hclosed := closeReport_closed (decide (0 < c.accepted)) (enterClearing (requeueSending (resultHanded s.part)))
  have hlu := enterClearing_lu (requeueSending (resultHanded s.part))
  have hexpiry := fun hdue : due s.part.lu.ackWait s.part => exec_ackWaitExpiry hdue
  have hdeclined := fun hline : s.part.lu.line = .awaitAck => exec_dtmfSymbol_declined hline
  rewrite [hthird] at hexpiry hdeclined
  clear hthird
  obtain ⟨u, hu⟩ : ∃ u, u = enterClearing (requeueSending (resultHanded s.part)) := ⟨_, rfl⟩
  have hcru : u.cru = { s.part.cru with queue := requeuedQueue s.part.cru.queue } := by
    rewrite [hu]
    show (requeueSending (resultHanded s.part)).cru = _
    rewrite [hframe, hqueue]
    rfl
  obtain ⟨hcau, hcc, hrlu, hmem, htick⟩ : u.cau = s.part.cau ∧ u.cc = s.part.cc ∧ u.rlu = s.part.rlu
      ∧ u.mem = s.part.mem ∧ u.tick = s.part.tick := by
    rewrite [hu, hframe]
    exact ⟨rfl, rfl, rfl, rfl, rfl⟩
  rewrite [← hu] at hclosed hlu hexpiry hdeclined
  clear hu
  generalize closeReport (some (decide (0 < c.accepted))) (reportFailure u) = q at *
  have hqcru := hclosed.cru
  rewrite [hcru, htick] at hqcru
  refine ⟨_, hexpiry, hdeclined, ?_, ?_, ?_, ?_, hclosed.cc.trans hcc, hclosed.rlu.trans hrlu, hclosed.mem.trans hmem⟩
  · rewrite [hclosed.lu, hlu]
    rfl
  · rewrite [hclosed.lu, hlu]
    rfl
  · exact ⟨by rw [hqcru], by rw [hqcru], by rw [hqcru], hclosed.marked, by rw [hqcru],
      recordRequeued_of_queue (by rw [hqcru])⟩
  · rewrite [hclosed.calls (by rewrite [hcau]; exact hload), hcau]
    by_cases h0 : c.accepted = 0
    · rewrite [if_pos h0, decide_eq_false (by omega)]
      rfl
    · rewrite [if_neg h0, decide_eq_true (by omega)]
      rfl

/-- A record of which a merge came while it was sent is armed again at the newest end (R170). -/
theorem frameCounted_rearms {c : ReportCall} {r : ReportRecord} {p : Part} (h : r.updated = true) :
    (frameCounted c r p).cru = { p.cru with
        failures := 0, report := some { c with accepted := c.accepted + 1 }, sequence := p.cru.sequence + 1
        queue := (p.cru.queue.filter fun x => x.slot != r.slot) ++ [rearmed (p.cru.sequence + 1) r] }
      ∧ (frameCounted c r p).lu = p.lu ∧ Group.report r.slot ∈ (frameCounted c r p).bpu.dirty
      ∧ (frameCounted c r p).cc = p.cc ∧ (frameCounted c r p).cau = p.cau := by
  unfold frameCounted acceptRecord
  rewrite [h]
  split
  · next h0 => exact ⟨by simp [h0], rfl, mem_insertGroup_self _ _, rfl, rfl⟩
  · exact ⟨rfl, rfl, mem_insertGroup_self _ _, rfl, rfl⟩

theorem rearmed_fields (sequence : Total) (r : ReportRecord) : rearmed sequence r = { r with
    sending := false, sequence, count := max 1 (r.count - r.sent.getD 0)
    first := r.firstMerge.getD r.first, attempts := 0, sent := none, updated := false, firstMerge := none } := by
  unfold rearmed
  cases r.firstMerge <;> rfl

theorem frameWellFormed_rearms (s : State) (c : ReportCall) (r : ReportRecord) (hreport : s.part.cru.report = some c)
    (hsending : s.part.cru.queue.find? (·.sending) = some r) (hline : s.part.lu.line = .awaitAck)
    (hannounced : s.part.lu.announced = true) (hupdated : r.updated = true) (haccepted : c.accepted < 7) :
    let again := (s.part.cru.queue.filter fun x => x.slot != r.slot) ++
      [{ r with
        sending := false, sequence := s.part.cru.sequence + 1, count := max 1 (r.count - r.sent.getD 0)
        first := r.firstMerge.getD r.first, attempts := 0, sent := none, updated := false, firstMerge := none }]
    ∀ n, nextRecord again = some n → ∃ t, exec (.dtmfSymbolReceived 12) s = .next t ∧ t.part.lu.line = .sending
      ∧ t.part.cru.queue = again.map (fun x => if x.slot = n.slot then composed x else x)
      ∧ t.part.cru.sequence = s.part.cru.sequence + 1 ∧ t.part.cru.failures = 0
      ∧ t.part.cru.report = some { c with accepted := c.accepted + 1, sends := 1 }
      ∧ Group.report r.slot ∈ t.part.bpu.dirty ∧ t.part.cc = s.part.cc ∧ t.part.cau = s.part.cau := by
  intro again n hnext
  obtain ⟨hcru, hlu, hmarked, hcc, hcau⟩ := frameCounted_rearms (c := c) (p := resultHanded s.part) hupdated
  have hgoesOn := frameAccepted_goesOn (p := resultHanded s.part) hreport hsending haccepted
  generalize frameCounted c r (resultHanded s.part) = q at *
  have hqueue : q.cru.queue = again := by
    rewrite [hcru, rearmed_fields]
    rfl
  have hcall : q.cru.report = some { c with accepted := c.accepted + 1 } := by rw [hcru]
  have hchosen := chooseRecord_next hcall (n := n) (by rewrite [hqueue]; exact hnext)
  obtain ⟨hsent, -, -, hcru', hcc', -, hcau', -, hpublishes⟩ :=
    sendFrame_frame (r := n) (p := { q with cru.report := some { c with accepted := c.accepted + 1, sends := 0 } }) rfl
      (by rewrite [hlu]; rfl) (by rewrite [hlu]; exact hannounced)
  refine ⟨_, (exec_dtmfSymbol_accepted hline).trans (by rw [hgoesOn, hchosen]), hsent, ?_, ?_, ?_, ?_,
    hpublishes.dirty _ hmarked, hcc'.trans hcc, hcau'.trans hcau⟩
  · rewrite [hcru']
    dsimp only
    rw [hqueue]
  · rewrite [hcru']
    dsimp only
    rewrite [hcru]
    rfl
  · rewrite [hcru']
    dsimp only
    rw [hcru]
  · rw [hcru']

theorem frameAccepted_finishes {p : Part} {c : ReportCall} {r : ReportRecord} (hreport : p.cru.report = some c)
    (hsending : sendingRecord p = some r) (h : c.accepted = 7) :
    frameAccepted p = finishReport (frameCounted c r p) := by
  unfold frameAccepted
  rewrite [hreport, hsending]
  exact if_pos (by omega)

theorem frameWellFormed_eighth (s : State) (c : ReportCall) (r : ReportRecord) (hreport : s.part.cru.report = some c)
    (howner : s.part.lu.owner = .report) (hsending : s.part.cru.queue.find? (·.sending) = some r)
    (hload : s.part.cau.load = .ended) (hline : s.part.lu.line = .awaitAck) (hupdated : r.updated = false)
    (haccepted : c.accepted = 7) :
    ∃ t, exec (.dtmfSymbolReceived 12) s = .next t ∧ t.part.lu.line = .clearing ∧ t.part.cru.report = none
      ∧ t.part.cru.queue = (s.part.cru.queue.filter fun x => x.slot != r.slot) ∧ t.part.cru.failures = 0
      ∧ t.part.cru.backoff = s.part.cru.backoff
      ∧ t.part.cau.calls = { s.part.cau.calls with reportsSucceeded := s.part.cau.calls.reportsSucceeded + 1 }
      ∧ t.part.cc = s.part.cc ∧ t.part.rlu = s.part.rlu ∧ t.part.mem = s.part.mem := by
  obtain ⟨hcru, hlu, -, hcc, hrlu, hcau, hmem⟩ := frameCounted_frame (c := c) (p := resultHanded s.part) hupdated
  have hfinishes := frameAccepted_finishes (p := resultHanded s.part) hreport hsending haccepted
  have hexec := exec_dtmfSymbol_accepted hline
  rewrite [hfinishes] at hexec
  generalize frameCounted c r (resultHanded s.part) = q at *
  rewrite [finishReport, releaseLine_report (by rewrite [hlu]; exact howner), closeReport_some] at hexec
  have hclearing := enterClearing_lu q
  obtain ⟨u, hu⟩ : ∃ u, u = { enterClearing q with cru.report := none } := ⟨_, rfl⟩
  have hucru : u.cru = { q.cru with report := none } := by rewrite [hu]; rfl
  have hulu : u.lu = clearedLu q.tick q.lu := by rewrite [hu]; exact hclearing
  obtain ⟨hucau, hucc, hurlu, humem⟩ : u.cau = q.cau ∧ u.cc = q.cc ∧ u.rlu = q.rlu ∧ u.mem = q.mem := by
    rewrite [hu]
    exact ⟨rfl, rfl, rfl, rfl⟩
  rewrite [← hu] at hexec
  clear hu
  have hframe := countEvent_frame (.report true) u
  have hcalls := countEvent_calls (e := .report true) (p := u) (by rewrite [hucau, hcau]; exact hload)
  generalize countEvent (.report true) u = t at *
  have htcru : t.cru = { s.part.cru with
      report := none, failures := 0, queue := s.part.cru.queue.filter fun x => x.slot != r.slot } := by
    rewrite [hframe]
    show u.cru = _
    rewrite [hucru, hcru]
    rfl
  refine ⟨_, hexec, ?_, by rw [htcru], by rw [htcru], by rw [htcru], by rw [htcru], ?_, ?_, ?_, ?_⟩
  · show t.lu.line = _
    rewrite [hframe]
    show u.lu.line = _
    rewrite [hulu]
    rfl
  · show t.cau.calls = _
    rewrite [hcalls, hucau, hcau]
    rfl
  · show t.cc = _
    rewrite [hframe]
    exact hucc.trans hcc
  · show t.rlu = _
    rewrite [hframe]
    exact hurlu.trans hrlu
  · show t.mem = _
    rewrite [hframe]
    exact humem.trans hmem

/-- Settles O26, from the frame's digits, the displaced record, and the ends of a report call. -/
theorem frameWellFormed : Obligations.FrameWellFormed := by
  unfold Obligations.FrameWellFormed
  refine ⟨frameFields, raise_displaces, fun s hreport howner hload hdue hfew => ?_,
    fun s command detail hreport howner hload hends =>
      frameWellFormed_seizeEnds s command detail hreport howner hload hends,
    fun s c r hreport howner hsending hload =>
      ⟨frameWellFormed_third s c r hreport howner hsending hload,
        fun hline hannounced hupdated haccepted =>
          frameWellFormed_rearms s c r hreport hsending hline hannounced hupdated haccepted,
        fun hline hupdated haccepted =>
          frameWellFormed_eighth s c r hreport howner hsending hload hline hupdated haccepted⟩⟩
  obtain ⟨t, hexec, hline, -, hseize, -, -, -, hcalls, hcc, hrlu, hmem, hfailed, -, -⟩ :=
    frameWellFormed_seizeEnds s .loopLimitExpiry 2 hreport howner hload (.inl ⟨rfl, rfl, hdue⟩)
  refine ⟨t, hexec, hline, hfailed hfew, ?_, hcalls, hcc, hrlu, hmem⟩
  rewrite [hseize.1]
  exact if_neg (by simpa using hfew)

end Sys2Proof.Machine
end

section
/-!
PROOFS. The encodings of 12_record_and_frame_layouts.md, Encodings: words, bit fields, flags, digits, wall times and
32-bit figures read back.
-/

namespace Sys2Proof.Machine

/-! ## Words and their bits -/

set_option Elab.async false in
theorem word_injective {n m : Nat} (hn : n < 65536) (hm : m < 65536) (h : word n = word m) : n = m := by
  rw [← word_toNat hn, ← word_toNat hm, h]

theorem bits_word {n : Nat} (h : n < 65536) (low length : Nat) :
    bits (word n) low length = n / 2 ^ low % 2 ^ length := by
  rw [bits, word_toNat h]

theorem getLsbD_word {n i : Nat} (hi : i < 16) : (word n).getLsbD i = decide (n / 2 ^ i % 2 = 1) := by
  unfold word
  rw [BitVec.getLsbD_ofNat, Nat.testBit_eq_decide_div_mod_eq, decide_eq_true hi, Bool.true_and]

theorem setBits_testBit (l : List Nat) (i : Nat) : (setBits l).testBit i = decide (i ∈ l) := by
  induction l with
  | nil => simp [setBits]
  | cons n l ih =>
    rewrite [setBits, Nat.testBit_or, ih, Nat.testBit_two_pow]
    simp [eq_comm]

theorem getLsbD_setBits {l : List Nat} {i : Nat} (hi : i < 16) : (word (setBits l)).getLsbD i = decide (i ∈ l) := by
  unfold word
  rw [BitVec.getLsbD_ofNat, setBits_testBit, decide_eq_true hi, Bool.true_and]

/-! ## Fields of a word -/

/-- The number that fields (width and value) make, the first one lowest. -/
def packed : List (Nat × Nat) → Nat
  | [] => 0
  | (width, value) :: fs => value + 2 ^ width * packed fs

/-- How many bits fields take together. -/
def widthOf : List (Nat × Nat) → Nat
  | [] => 0
  | (width, _) :: fs => width + widthOf fs

/-- Each value fits its width. -/
def FieldsFit : List (Nat × Nat) → Prop
  | [] => True
  | (width, value) :: fs => value < 2 ^ width ∧ FieldsFit fs

theorem packed_lt : ∀ {fs : List (Nat × Nat)}, FieldsFit fs → packed fs < 2 ^ widthOf fs
  | [], _ => Nat.one_pos
  | (width, value) :: fs, ⟨hvalue, hfs⟩ => calc
      value + 2 ^ width * packed fs < 2 ^ width + 2 ^ width * packed fs := Nat.add_lt_add_right hvalue _
      _ = 2 ^ width * (packed fs + 1) := by rw [Nat.mul_succ, Nat.add_comm]
      _ ≤ 2 ^ width * 2 ^ widthOf fs := Nat.mul_le_mul_left _ (packed_lt hfs)
      _ = 2 ^ widthOf ((width, value) :: fs) := (Nat.pow_add ..).symm

/-- Each field stands behind those before it. -/
theorem packed_field : ∀ {fs : List (Nat × Nat)}, FieldsFit fs → ∀ i : Nat,
    packed fs / 2 ^ widthOf (fs.take i) % 2 ^ (fs.getD i (0, 0)).1 = (fs.getD i (0, 0)).2
  | [], _, i => by simp [packed, Nat.mod_one]
  | (width, value) :: fs, ⟨hvalue, _⟩, 0 => by
    show (value + 2 ^ width * packed fs) / 2 ^ 0 % 2 ^ width = value
    rw [Nat.pow_zero, Nat.div_one, Nat.add_mul_mod_self_left, Nat.mod_eq_of_lt hvalue]
  | (width, value) :: fs, ⟨hvalue, hfs⟩, i + 1 => by
    have hrest : (value + 2 ^ width * packed fs) / 2 ^ width = packed fs := by
      rw [Nat.add_mul_div_left _ _ (Nat.two_pow_pos width), Nat.div_eq_of_lt hvalue, Nat.zero_add]
    show (value + 2 ^ width * packed fs) / 2 ^ (width + widthOf (fs.take i)) % _ = _
    rewrite [Nat.pow_add, ← Nat.div_div_eq_div_mul, hrest]
    exact packed_field hfs i

/-- Fields that fill a word read back from it. -/
theorem bits_packed {fs : List (Nat × Nat)} (hfit : FieldsFit fs) (hfull : widthOf fs = 16) (i : Nat) :
    bits (word (packed fs)) (widthOf (fs.take i)) (fs.getD i (0, 0)).1 = (fs.getD i (0, 0)).2 := by
  have hlt := packed_lt hfit
  rewrite [hfull] at hlt
  rw [bits_word hlt, packed_field hfit]

/-- A flag is a field of one bit. -/
theorem flag_packed {fs : List (Nat × Nat)} {b : Bool} {place : Nat} (hfit : FieldsFit fs) (i : Nat)
    (hflag : fs.getD i (0, 0) = (1, b.toNat)) (hplace : widthOf (fs.take i) = place) (h16 : place < 16) :
    (word (packed fs)).getLsbD place = b := by
  have hfield := packed_field hfit i
  rewrite [hflag, hplace, Nat.pow_one] at hfield
  rewrite [getLsbD_word h16, hfield]
  cases b <;> rfl

theorem flag_fits (b : Bool) : b.toNat < 2 ^ 1 := Bool.toNat_lt b

/-! ## 32-bit figures -/

theorem totalOf_words (t : Total) : totalOf (t.setWidth 16) ((t >>> 16).setWidth 16) = t := by
  have ht := t.isLt
  refine BitVec.eq_of_toNat_eq ?_
  simp only [totalOf, BitVec.toNat_ofNat, BitVec.toNat_setWidth, BitVec.toNat_ushiftRight, Nat.shiftRight_eq_div_pow]
  omega

theorem totalWords_reads (t : Total) : ∃ low high, totalWords t = [low, high] ∧ totalOf low high = t :=
  ⟨_, _, rfl, totalOf_words t⟩

/-! ## Wall times -/

theorem wallWords_reads (t : WallTime) (h : validWall t) : ∃ low high, wallWords t = [low, high] ∧ wallOf low high = t := by
  cases t with
  | none => exact ⟨0, 0xFFFF, rfl, by decide⟩
  | some stamp =>
    obtain ⟨day, second⟩ := stamp
    obtain ⟨hday, hsecond⟩ : day ≤ 6 ∧ second < 86400 := h
    refine ⟨_, _, rfl, ?_⟩
    have hlow : (word second).toNat = second % 65536 := BitVec.toNat_ofNat second 16
    have hhigh : (word (day * 2 + second / 65536)).toNat = day * 2 + second / 65536 := word_toNat (by omega)
    have hset : word (day * 2 + second / 65536) ≠ 0xFFFF := fun hff => by
      have := congrArg BitVec.toNat hff
      rewrite [hhigh] at this
      have hmax : (0xFFFF : Word).toNat = 65535 := rfl
      omega
    rewrite [wallOf, if_neg fun hboth => hset hboth.2, hlow, hhigh]
    congr 2 <;> omega

/-! ## Digit codes -/

theorem unpackWord_packFour {a b c d : Nat} (ha : a < 16) (hb : b < 16) (hc : c < 16) (hd : d < 16) :
    unpackWord (packFour a b c d) = [a, b, c, d] := by
  have hfit : FieldsFit [(4, a), (4, b), (4, c), (4, d)] := ⟨ha, hb, hc, hd, trivial⟩
  have hpacked : packFour a b c d = word (packed [(4, a), (4, b), (4, c), (4, d)]) := by
    unfold packFour
    rewrite [Nat.mod_eq_of_lt ha, Nat.mod_eq_of_lt hb, Nat.mod_eq_of_lt hc, Nat.mod_eq_of_lt hd]
    congr 1
    simp only [packed]
    ring
  have hread := bits_packed hfit rfl
  rewrite [hpacked]
  show [_, _, _, _] = _
  rw [show bits _ 0 4 = a from hread 0, show bits _ 4 4 = b from hread 1, show bits _ 8 4 = c from hread 2,
    show bits _ 12 4 = d from hread 3]

theorem getD_lt {ds : List Nat} (h : ∀ d ∈ ds, d < 16) (i : Nat) : ds.getD i 0 < 16 := by
  rewrite [List.getD_eq_getElem?_getD]
  cases hi : ds[i]? with
  | none => decide
  | some d => exact h d (List.mem_of_getElem? hi)

/-- A list of digit codes is its first four, filled with code 0, and the rest. -/
theorem padded_four (n : Nat) (ds : List Nat) : padded (4 * (n + 1)) ds =
    [ds.getD 0 0, ds.getD 1 0, ds.getD 2 0, ds.getD 3 0] ++ padded (4 * n) (ds.drop 4) := by
  have hfour : 4 * (n + 1) = 4 * n + 4 := rfl
  unfold padded
  rewrite [hfour]
  match ds with
  | [] | [_] | [_, _] | [_, _, _] => simp [List.replicate_succ]
  | a :: b :: c :: d :: rest =>
    simp only [List.length_cons, List.drop_succ_cons, List.drop_zero]
    rewrite [show 4 * n + 4 - (rest.length + 1 + 1 + 1 + 1) = 4 * n - rest.length by omega]
    rfl

theorem unpackDigits_packDigits : ∀ (n : Nat) {ds : List Nat}, ds.length ≤ 4 * n → (∀ d ∈ ds, d < 16) →
    unpackDigits (packDigits n ds) = padded (4 * n) ds
  | 0, ds, hlen, _ => by
    rewrite [List.length_eq_zero_iff.1 (Nat.le_zero.1 hlen)]
    rfl
  | n + 1, ds, hlen, hds => by
    have hrest := unpackDigits_packDigits n (ds := ds.drop 4) (by rewrite [List.length_drop]; omega)
      fun d hd => hds d (List.mem_of_mem_drop hd)
    rw [packDigits, unpackDigits, hrest, padded_four,
      unpackWord_packFour (getD_lt hds 0) (getD_lt hds 1) (getD_lt hds 2) (getD_lt hds 3)]

theorem packDigits_length : ∀ (n : Nat) (ds : List Nat), (packDigits n ds).length = n
  | 0, _ => rfl
  | n + 1, ds => congrArg (· + 1) (packDigits_length n (ds.drop 4))

theorem fieldsReadBack_encodings : (∀ (n : Nat) (ds : List Nat), ds.length ≤ 4 * n → (∀ d ∈ ds, d < 16) →
        (packDigits n ds).length = n ∧ unpackDigits (packDigits n ds) = padded (4 * n) ds)
      ∧ (∀ t : WallTime, validWall t → ∃ low high, wallWords t = [low, high] ∧ wallOf low high = t)
      ∧ (∀ t : Total, ∃ low high, totalWords t = [low, high] ∧ totalOf low high = t) :=
  ⟨fun n ds hlen hds => ⟨packDigits_length n ds, unpackDigits_packDigits n hlen hds⟩, wallWords_reads, totalWords_reads⟩

end Sys2Proof.Machine
end

section
/-!
PROOFS. The account slots of 12_record_and_frame_layouts.md, Account slots: what a slot holds, and for which record it
checks (03_the_cash_account.md, Slots and check words).
-/

namespace Sys2Proof.Machine

/-! ## Check words -/

set_option Elab.async false in
theorem fit_length (n : Nat) (words : List Word) : (fit n words).length = n := by
  unfold fit
  rewrite [List.length_take, List.length_append, List.length_replicate]
  omega

theorem fit_append_of_length {n : Nat} {words more : List Word} (h : words.length = n) :
    fit n (words ++ more) = words := by
  unfold fit
  rw [List.append_assoc, ← h, List.take_left]

theorem wordAt_append_of_length {n : Nat} {words more : List Word} (h : words.length = n) :
    wordAt (words ++ more) n = wordAt more 0 := by
  unfold wordAt
  rw [List.getD_append_right _ _ _ _ (le_of_eq h), h, Nat.sub_self]

/-- Filling with 0 changes no word: a word that a list does not have reads as 0. -/
theorem wordAt_fit {n i : Nat} (hi : i < n) (words : List Word) : wordAt (fit n words) i = wordAt words i := by
  unfold wordAt fit
  rewrite [List.getD_eq_getElem?_getD, List.getD_eq_getElem?_getD, List.getElem?_take, if_pos hi]
  by_cases h : i < words.length
  · rw [List.getElem?_append_left h]
  · rewrite [List.getElem?_append_right (by omega), List.getElem?_eq_none (l := words) (by omega), List.getElem?_replicate]
    split <;> rfl

theorem drop_take_fit {m i n : Nat} {words : List Word} (hm : i + n ≤ m) (hw : i + n ≤ words.length) :
    ((fit m words).drop i).take n = (words.drop i).take n := by
  unfold fit
  rw [List.drop_take, List.take_take, List.drop_append_of_le_length (by omega), Nat.min_eq_left (by omega),
    List.take_append_of_le_length (by rewrite [List.length_drop]; omega)]

theorem recordWords_length (n : Nat) (p : Part) : (recordWords n p).length = 24 := by
  unfold recordWords
  rewrite [List.length_append, fit_length]
  rfl

/-- A slot checks for a record by the check word of its fields. -/
theorem slotChecks_recordWords (n m : Nat) (p : Part) : slotChecks m (recordWords n p)
    = (accountCheck n (fit 23 (recordFields n p)) == accountCheck m (fit 23 (recordFields n p))) := by
  unfold slotChecks recordWords
  rewrite [wordAt_append_of_length (fit_length 23 _), fit_append_of_length (fit_length 23 _)]
  rfl

theorem slotChecks_own (n : Nat) (p : Part) : slotChecks n (recordWords n p) = true := by
  rewrite [slotChecks_recordWords]
  exact beq_self_eq_true _

theorem slotChecks_other {n m : Nat} {p : Part} (hn : n < 65536) (hm : m < 65536) (h : n ≠ m) :
    slotChecks m (recordWords n p) = false := by
  rewrite [slotChecks_recordWords]
  refine beq_false_of_ne fun heq => h (word_injective hn hm ?_)
  have hsums := BitVec.not_inj.1 heq
  exact BitVec.add_right_inj _ |>.1 hsums

/-! ## The fields of a record -/

theorem wordAt_recordWords {i : Nat} (hi : i < 23) (n : Nat) (p : Part) :
    wordAt (recordWords n p) i = wordAt (recordFields n p) i := by
  have hfit := wordAt_fit hi (recordFields n p)
  rewrite [← hfit]
  unfold recordWords wordAt
  rw [List.getD_append _ _ _ _ (by rewrite [fit_length]; exact hi)]

theorem totalAt_recordWords {i : Nat} (hi : i < 22) (n : Nat) (p : Part) :
    totalAt (recordWords n p) i = totalAt (recordFields n p) i := by
  rw [totalAt, totalAt, wordAt_recordWords (by omega), wordAt_recordWords (by omega)]

theorem moneyOf_moneyWords {m : Money} (h : moneyFits m) :
    moneyOf (moneyWords m) = { m with railTypes := padded 8 m.railTypes } := by
  obtain ⟨hbanked, hcount, hrail, hunbooked, hlength, htypes⟩ := h
  have hdigits : unpackDigits (packDigits 2 m.railTypes) = padded 8 m.railTypes :=
    unpackDigits_packDigits 2 (by omega) htypes
  have hread : moneyOf (moneyWords m) =
      { accepted := totalOf (m.accepted.setWidth 16) ((m.accepted >>> 16).setWidth 16)
        refunded := totalOf (m.refunded.setWidth 16) ((m.refunded >>> 16).setWidth 16)
        collected := totalOf (m.collected.setWidth 16) ((m.collected >>> 16).setWidth 16)
        charged := totalOf (m.charged.setWidth 16) ((m.charged >>> 16).setWidth 16)
        forfeited := totalOf (m.forfeited.setWidth 16) ((m.forfeited >>> 16).setWidth 16)
        suspense := totalOf (m.suspense.setWidth 16) ((m.suspense >>> 16).setWidth 16)
        banked := (word m.banked).toNat
        vaultValue := totalOf (m.vaultValue.setWidth 16) ((m.vaultValue >>> 16).setWidth 16)
        vaultCount := (word m.vaultCount).toNat, railCount := (word m.railCount).toNat
        railTypes := unpackDigits (packDigits 2 m.railTypes), unbooked := (word m.unbooked).toNat } := rfl
  rewrite [hread]
  simp only [totalOf_words, hdigits, word_toNat hbanked, word_toNat hcount, word_toNat hrail, word_toNat hunbooked]

theorem moneyOf_recordWords {p : Part} (h : moneyFits p.cau.money) : moneyOf (recordWords 1 p) =
    { p.cau.money with railTypes := padded 8 p.cau.money.railTypes } := by
  have hfields : moneyOf (recordWords 1 p) = moneyOf (recordFields 1 p) := by
    unfold moneyOf
    simp only [totalAt_recordWords, wordAt_recordWords, Nat.reduceLT]
  exact hfields.trans (moneyOf_moneyWords h)

theorem callsOf_callWords (c : CallCounts) : callsOf (callWords c) = c := by
  obtain ⟨attempts, answered, free, cut, succeeded, failed⟩ := c
  have hread : callsOf (callWords ⟨attempts, answered, free, cut, succeeded, failed⟩) =
      { attempts := totalOf (attempts.setWidth 16) ((attempts >>> 16).setWidth 16)
        answered := totalOf (answered.setWidth 16) ((answered >>> 16).setWidth 16)
        free := totalOf (free.setWidth 16) ((free >>> 16).setWidth 16)
        cut := totalOf (cut.setWidth 16) ((cut >>> 16).setWidth 16)
        reportsSucceeded := totalOf (succeeded.setWidth 16) ((succeeded >>> 16).setWidth 16)
        reportsFailed := totalOf (failed.setWidth 16) ((failed >>> 16).setWidth 16) } := rfl
  rewrite [hread]
  simp only [totalOf_words]

theorem callsOf_recordWords (p : Part) : callsOf (recordWords 3 p) = p.cau.calls := by
  have hfields : callsOf (recordWords 3 p) = callsOf (recordFields 3 p) := by
    unfold callsOf
    simp only [totalAt_recordWords, Nat.reduceLT]
  exact hfields.trans (callsOf_callWords p.cau.calls)

/-- A list of counts that fit their words reads back. -/
theorem map_word_toNat {l : List Nat} (h : ∀ n ∈ l, n < 65536) : (l.map word).map BitVec.toNat = l := by
  rewrite [List.map_map]
  exact (List.map_congr_left fun n hn => word_toNat (h n hn)).trans (List.map_id _)

theorem take_fit {m n : Nat} {words : List Word} (hm : m ≤ n) (hw : m ≤ words.length) :
    (fit n words).take m = words.take m := by
  have h := drop_take_fit (m := n) (i := 0) (n := m) (words := words) (by omega) (by omega)
  rwa [List.drop_zero, List.drop_zero] at h

theorem fit_of_le {n : Nat} {words : List Word} (h : n ≤ words.length) : fit n words = words.take n := by
  unfold fit
  exact List.take_append_of_le_length h

theorem typesOf_recordWords {p : Part} (hvault : p.cau.types.vault.length = 8)
    (hreturned : p.cau.types.returned.length = 6) (hv : ∀ n ∈ p.cau.types.vault, n < 65536)
    (hr : ∀ n ∈ p.cau.types.returned, n < 65536) : typesOf (recordWords 2 p) = p.cau.types := by
  have hfields : recordFields 2 p = p.cau.types.vault.map word ++ p.cau.types.returned.map word := by
    show fit 8 (p.cau.types.vault.map word) ++ fit 6 (p.cau.types.returned.map word) = _
    rw [fit_of_length (by rw [List.length_map, hvault]), fit_of_length (by rw [List.length_map, hreturned])]
  have hlength : (recordFields 2 p).length = 14 := by
    rw [hfields, List.length_append, List.length_map, List.length_map, hvault, hreturned]
  have hrecord : (fit 23 (recordFields 2 p)).length = 23 := fit_length 23 _
  have hfirst : fit 8 (recordWords 2 p) = p.cau.types.vault.map word := by
    rw [fit_of_le (by rewrite [recordWords_length]; decide), recordWords, List.take_append_of_le_length (by omega),
      take_fit (by decide) (by omega), hfields, List.take_left' (by rw [List.length_map, hvault])]
  have hsecond : fit 6 ((recordWords 2 p).drop 8) = p.cau.types.returned.map word := by
    rw [fit_of_le (by rewrite [List.length_drop, recordWords_length]; decide), recordWords,
      List.drop_append_of_le_length (by omega), List.take_append_of_le_length (by rewrite [List.length_drop, hrecord]; decide),
      drop_take_fit (by decide) (by omega), hfields, List.drop_left' (by rw [List.length_map, hvault]),
      List.take_of_length_le (by rw [List.length_map, hreturned])]
  unfold typesOf
  rw [hfirst, hsecond, map_word_toNat hv, map_word_toNat hr]

theorem collectionOf_collectionWords {c : Collection} {more : List Word} (hwall : validWall c.time)
    (hcount : c.count < 65536) : collectionOf (collectionWords c ++ more) = c := by
  obtain ⟨low, high, hwords, hread⟩ := wallWords_reads _ hwall
  obtain ⟨time, value, count⟩ := c
  have hlist : collectionWords ⟨time, value, count⟩ = [low, high] ++ totalWords value ++ [word count] := by
    rw [collectionWords, hwords]
  have hfields : collectionOf ([low, high] ++ totalWords value ++ [word count] ++ more) =
      { time := wallOf low high, value := totalOf (value.setWidth 16) ((value >>> 16).setWidth 16)
        count := (word count).toNat } := rfl
  rw [hlist, hfields, hread, totalOf_words, word_toNat hcount]

theorem collectionWords_length (c : Collection) : (collectionWords c).length = 5 := by
  obtain ⟨time, value, count⟩ := c
  cases time <;> rfl

theorem lastOf_recordWords {p : Part} (hlatest : validWall p.cau.last.latest.time)
    (hprevious : validWall p.cau.last.previous.time) (hl : p.cau.last.latest.count < 65536)
    (hp : p.cau.last.previous.count < 65536) : lastOf (recordWords 4 p) = p.cau.last := by
  have hrecord : ∀ more : List Word, fit 23 (recordFields 4 p) ++ more = collectionWords p.cau.last.latest
      ++ (collectionWords p.cau.last.previous ++ (List.replicate 13 0 ++ more)) := by
    intro more
    have hlength : (recordFields 4 p).length = 10 := by
      show (collectionWords _ ++ collectionWords _).length = _
      rw [List.length_append, collectionWords_length, collectionWords_length]
    have hfit : fit 23 (recordFields 4 p) = recordFields 4 p ++ List.replicate 13 0 := by
      unfold fit
      rewrite [List.take_append, hlength, List.take_of_length_le (by omega), List.take_replicate]
      rfl
    rewrite [hfit]
    show collectionWords _ ++ collectionWords _ ++ _ ++ _ = _
    simp only [List.append_assoc]
  unfold lastOf recordWords
  rw [hrecord, collectionOf_collectionWords hlatest hl, List.drop_left' (collectionWords_length _),
    collectionOf_collectionWords hprevious hp]

/-! ## The header -/

/-- The slots of a header fit their digit positions, and its retired slots their bits (R39). -/
def headerRange (h : Header) : Prop :=
  h.slots.length = 4 ∧ (∀ s ∈ h.slots, s < 16) ∧ (∀ s ∈ h.retired, 1 ≤ s ∧ s ≤ 8) ∧ h.spares < 65536

theorem headerOf_headerWords {h : Header} (hfits : headerRange h) (more : List Word) :
    (headerOf (headerWords h ++ more)).slots = h.slots ∧ (headerOf (headerWords h ++ more)).spares = h.spares
      ∧ ∀ s : Nat, s ∈ (headerOf (headerWords h ++ more)).retired ↔ s ∈ h.retired := by
  obtain ⟨hlength, hslots, hretired, hspares⟩ := hfits
  obtain ⟨slots, retired, spares⟩ := h
  match slots, hlength with
  | [a, b, c, d], _ =>
    refine ⟨?_, word_toNat hspares, fun s => ?_⟩
    · have h16 := fun x hx => hslots x hx
      exact unpackWord_packFour (h16 a (by simp)) (h16 b (by simp)) (h16 c (by simp)) (h16 d (by simp))
    · have hmem : s ∈ (headerOf (headerWords ⟨[a, b, c, d], retired, spares⟩ ++ more)).retired
          ↔ s ∈ ([1, 2, 3, 4, 5, 6, 7, 8].filter fun s => (word (setBits retired)).getLsbD s) := Iff.rfl
      rewrite [hmem, List.mem_filter]
      constructor
      · rintro ⟨hrange, hset⟩
        have hs : s < 16 := by
          simp only [List.mem_cons, List.not_mem_nil, or_false] at hrange
          omega
        rewrite [getLsbD_setBits hs] at hset
        exact of_decide_eq_true hset
      · intro hs
        obtain ⟨hlow, hhigh⟩ := hretired s hs
        refine ⟨?_, ?_⟩
        · simp only [List.mem_cons, List.not_mem_nil, or_false]
          omega
        · rewrite [getLsbD_setBits (by omega)]
          exact decide_eq_true hs

theorem headerOf_recordWords (p : Part) (hfits : headerRange (publishedHeader p)) :
    (headerOf (recordWords 0 p)).slots = (publishedHeader p).slots
      ∧ (headerOf (recordWords 0 p)).spares = (publishedHeader p).spares
      ∧ ∀ s : Nat, s ∈ (headerOf (recordWords 0 p)).retired ↔ s ∈ (publishedHeader p).retired := by
  have hfields : headerOf (recordWords 0 p) = headerOf (headerWords (publishedHeader p) ++ []) := by
    unfold headerOf
    simp only [wordAt_recordWords, Nat.reduceLT]
    rewrite [List.append_nil]
    rfl
  rewrite [hfields]
  exact headerOf_headerWords hfits []

/-- The header as a relocation in progress has it published (R50). -/
theorem headerRange_withoutRelocation {h : Header} {r : Relocation} (hlength : h.slots.length = 4)
    (hslots : ∀ s ∈ h.slots, s < 16) (hretired : ∀ s ∈ h.retired, 1 ≤ s ∧ s ≤ 8) (hspares : h.spares < 65535)
    (hold : r.oldSlot < 16) : headerRange (withoutRelocation h r) := by
  refine ⟨(List.length_set ..).trans hlength, fun s hs => ?_, fun s hs => hretired s (List.mem_of_mem_filter hs), ?_⟩
  · rcases List.mem_or_eq_of_mem_set hs with h | h
    · exact hslots s h
    · exact h ▸ hold
  · show h.spares + 1 < 65536
    omega

theorem header_shown (p : Part) (hlength : p.cau.header.slots.length = 4) (hslots : ∀ s ∈ p.cau.header.slots, s < 16)
    (hretired : ∀ s ∈ p.cau.header.retired, 1 ≤ s ∧ s ≤ 8) (hspares : p.cau.header.spares < 65535) :
    let shown := headerOf (recordWords 0 p)
    (p.cau.relocations = [] → shown.slots = p.cau.header.slots ∧ shown.spares = p.cau.header.spares
      ∧ ∀ s : Nat, s ∈ shown.retired ↔ s ∈ p.cau.header.retired)
    ∧ (∀ r : Relocation, p.cau.relocations = [r] → 1 ≤ r.record → r.record ≤ 4 → r.oldSlot < 16 →
      shown.slots = p.cau.header.slots.set (r.record - 1) r.oldSlot ∧ shown.spares = p.cau.header.spares + 1
      ∧ ∀ s : Nat, s ∈ shown.retired ↔ s ∈ p.cau.header.retired ∧ s ≠ r.oldSlot) := by
  intro shown
  refine ⟨fun hnone => ?_, fun r hone _ _ hold => ?_⟩
  · have hpublished : publishedHeader p = p.cau.header := by rewrite [publishedHeader, hnone]; rfl
    have hread := headerOf_recordWords p (by rewrite [hpublished]; exact ⟨hlength, hslots, hretired, by omega⟩)
    rewrite [hpublished] at hread
    exact hread
  · have hpublished : publishedHeader p = withoutRelocation p.cau.header r := by rewrite [publishedHeader, hone]; rfl
    obtain ⟨hs, hn, hr⟩ := headerOf_recordWords p (by
      rewrite [hpublished]
      exact headerRange_withoutRelocation hlength hslots hretired hspares hold)
    rewrite [hpublished] at hs hn hr
    refine ⟨hs, hn, fun s => (hr s).trans ?_⟩
    simp [withoutRelocation]

/-! ## The slot of a record -/

theorem slotOf_getD {n : Nat} (hn : 1 ≤ n) (p : Part) : slotOf n p = p.cau.header.slots.getD (n - 1) 0 := by
  match n, hn with
  | n + 1, _ => rfl

/-- A slot of the map holds the record that the map puts there (R40). -/
theorem recordIn_slot {p : Part} {n slot : Nat} (hn : 1 ≤ n) (h4 : n ≤ 4) (hslot : slot ≠ 0)
    (hnodup : p.cau.header.slots.Nodup) (h : p.cau.header.slots[n - 1]? = some slot) : recordIn slot p = some n := by
  have hat : slotOf n p = slot := by rewrite [slotOf_getD hn, List.getD_eq_getElem?_getD, h]; rfl
  have hother : ∀ m, 1 ≤ m → m < n → slotOf m p ≠ slot := by
    intro m hm hlt heq
    rewrite [slotOf_getD hm, List.getD_eq_getElem?_getD] at heq
    cases hm' : p.cau.header.slots[m - 1]? with
    | none => rewrite [hm'] at heq; exact hslot heq.symm
    | some x =>
      rewrite [hm'] at heq
      have hx : x = slot := heq
      obtain ⟨hmlt, hmx⟩ := List.getElem?_eq_some_iff.1 hm'
      obtain ⟨hnlt, hnx⟩ := List.getElem?_eq_some_iff.1 h
      have := (List.Nodup.getElem_inj_iff hnodup (hi := hmlt) (hj := hnlt)).1 (by rw [hmx, hnx, hx])
      omega
  unfold recordIn
  rewrite [if_neg hslot]
  match n, hn, h4 with
  | 1, _, _ => simp [hat]
  | 2, _, _ => simp [hat, hother 1 (by decide) (by decide)]
  | 3, _, _ => simp [hat, hother 1 (by decide) (by decide), hother 2 (by decide) (by decide)]
  | 4, _, _ =>
    simp [hat, hother 1 (by decide) (by decide), hother 2 (by decide) (by decide), hother 3 (by decide) (by decide)]

theorem fieldsReadBack_account (p : Part) :
    (∀ n : Nat, (recordWords n p).length = 24 ∧ slotChecks n (recordWords n p) = true)
      ∧ (∀ n m : Nat, n < 65536 → m < 65536 → n ≠ m → slotChecks m (recordWords n p) = false)
      ∧ (moneyFits p.cau.money → moneyOf (recordWords 1 p) =
          { p.cau.money with railTypes := padded 8 p.cau.money.railTypes })
      ∧ (p.cau.header.slots.length = 4 → (∀ s ∈ p.cau.header.slots, s < 16) →
          (∀ s ∈ p.cau.header.retired, 1 ≤ s ∧ s ≤ 8) → p.cau.header.spares < 65535 →
          let shown := headerOf (recordWords 0 p)
          (p.cau.relocations = [] → shown.slots = p.cau.header.slots ∧ shown.spares = p.cau.header.spares
            ∧ ∀ s : Nat, s ∈ shown.retired ↔ s ∈ p.cau.header.retired)
          ∧ (∀ r : Relocation, p.cau.relocations = [r] → 1 ≤ r.record → r.record ≤ 4 → r.oldSlot < 16 →
            shown.slots = p.cau.header.slots.set (r.record - 1) r.oldSlot ∧ shown.spares = p.cau.header.spares + 1
            ∧ ∀ s : Nat, s ∈ shown.retired ↔ s ∈ p.cau.header.retired ∧ s ≠ r.oldSlot))
      ∧ (p.cau.types.vault.length = 8 → p.cau.types.returned.length = 6 → (∀ n ∈ p.cau.types.vault, n < 65536) →
          (∀ n ∈ p.cau.types.returned, n < 65536) → typesOf (recordWords 2 p) = p.cau.types)
      ∧ callsOf (recordWords 3 p) = p.cau.calls
      ∧ (validWall p.cau.last.latest.time → validWall p.cau.last.previous.time → p.cau.last.latest.count < 65536 →
          p.cau.last.previous.count < 65536 → lastOf (recordWords 4 p) = p.cau.last)
      ∧ (groupWords (.account 0) p = recordWords 0 p ∧ ∀ n slot : Nat, 1 ≤ n → n ≤ 4 → slot ≠ 0 →
          p.cau.header.slots.Nodup → p.cau.header.slots[n - 1]? = some slot →
          groupWords (.account slot) p = recordWords n p ∧ groupRecord (.account slot) p = some n) := by
  refine ⟨fun n => ⟨recordWords_length n p, slotChecks_own n p⟩, fun n m => slotChecks_other, moneyOf_recordWords,
    header_shown p, typesOf_recordWords, callsOf_recordWords p, lastOf_recordWords, rfl,
    fun n slot hn h4 hslot hnodup h => ?_⟩
  have hrecord := recordIn_slot hn h4 hslot hnodup h
  exact ⟨by rw [groupWords, hrecord], by rw [groupRecord, hrecord]⟩

end Sys2Proof.Machine
end

section
/-!
PROOFS. The status groups of 12_record_and_frame_layouts.md, Status groups, and the result word: each field reads back
from its place.
-/

namespace Sys2Proof.Machine

/-! ## Flags and codes -/

set_option Elab.async false in
theorem flagBit_eq (i : Nat) (b : Bool) : flagBit i b = 2 ^ i * b.toNat := by
  cases b <;> simp [flagBit]

theorem flag_reads {n i : Nat} {b : Bool} (hi : i < 16) (h : n / 2 ^ i % 2 = b.toNat) : (word n).getLsbD i = b := by
  rewrite [getLsbD_word hi, h]
  cases b <;> rfl

theorem resultCode_lt (c : ResultCode) : c.code < 17 := by cases c <;> decide
theorem callClass_lt (c : CallClass) : c.code < 7 := by cases c <;> decide
theorem callState_lt (c : CallState) : c.code < 7 := by cases c <;> decide
theorem lineState_lt (c : LineState) : c.code < 9 := by cases c <;> decide
theorem owner_lt (c : Owner) : c.code < 4 := by cases c <;> decide
theorem restriction_lt (c : Restriction) : c.level < 4 := by cases c <;> decide
theorem gateState_lt (c : GateState) : c.code < 4 := by cases c <;> decide
theorem timingState_lt (c : TimingState) : c.code < 4 := by cases c <;> decide
theorem callOutcome_lt (c : CallOutcome) : c.code < 10 := by cases c <;> decide
theorem reason_lt (c : Reason) : c.code < 10 := by cases c <;> decide
theorem windowKind_lt (c : WindowKind) : c.code < 7 := by cases c <;> decide

/-! ## S0 to S3 -/

/-- The fields of the flag word of S0. -/
def flagsS0 (p : Part) : List (Nat × Nat) :=
  [(1, (coinReady p).toNat), (2, p.cru.restriction.level), (1, (serviceMode p).toNat), (1, p.bpu.profileChanged.toNat),
   (1, p.cc.off.toNat), (10, 0)]

/-- The fields of the state word of S0. -/
def statesS0 (p : Part) : List (Nat × Nat) :=
  [(4, p.cc.call.code), (4, p.lu.line.code), (2, p.lu.owner.code), (6, 0)]

theorem wordsS0_fields (p : Part) : wordsS0 p =
    [p.bpu.causes.setWidth 16, word (packed (flagsS0 p)), word (packed (statesS0 p)), 0] := by
  have hflags : flagBit 0 (coinReady p) + 2 * p.cru.restriction.level + flagBit 3 (serviceMode p)
      + flagBit 4 p.bpu.profileChanged + flagBit 5 p.cc.off = packed (flagsS0 p) := by
    simp only [flagBit_eq, packed, flagsS0]
    omega
  have hstates : p.cc.call.code + 16 * p.lu.line.code + 256 * p.lu.owner.code = packed (statesS0 p) := by
    simp only [packed, statesS0]
    omega
  rw [wordsS0, hflags, hstates]

theorem showsS0_words (p : Part) : showsS0 p (groupWords (.status 0) p) := by
  have hflags : FieldsFit (flagsS0 p) :=
    ⟨flag_fits _, restriction_lt _, flag_fits _, flag_fits _, flag_fits _, by decide, trivial⟩
  have hstates : FieldsFit (statesS0 p) :=
    ⟨(callState_lt _).trans (by decide), (lineState_lt _).trans (by decide), owner_lt _, by decide, trivial⟩
  have hready : coinReady p = decide (p.bpu.load ≠ some .start ∧ p.rlu.dump = .ended) :=
    Bool.eq_iff_iff.2 (by simp [coinReady])
  have hservice : serviceMode p = decide (p.cru.key = some true) := Bool.eq_iff_iff.2 (by simp [serviceMode])
  have hfield := bits_packed hflags rfl
  have hstate := bits_packed hstates rfl
  show showsS0 p (wordsS0 p)
  rewrite [wordsS0_fields]
  exact ⟨rfl, rfl, .trans (flag_packed hflags 0 rfl rfl (by decide)) hready, hfield 1,
    .trans (flag_packed hflags 2 rfl rfl (by decide)) hservice, flag_packed hflags 3 rfl rfl (by decide),
    flag_packed hflags 4 rfl rfl (by decide), hfield 5, hstate 0, hstate 1, hstate 2, hstate 3, rfl⟩

theorem sumValues_drop_le (n : Nat) (cs : List Coin) : sumValues (cs.drop n) ≤ sumValues cs := by
  calc sumValues (cs.drop n) ≤ sumValues (cs.take n) + sumValues (cs.drop n) := Nat.le_add_left _ _
    _ = sumValues cs := by rw [← sumValues_append, List.take_append_drop]

/-- Credit on hand is no more than banked credit and the rail value (R19). -/
theorem creditOnHand_le (p : Part) : creditOnHand p ≤ p.rlu.banked + railValue p :=
  Nat.add_le_add_left (sumValues_drop_le _ _) _

/-- The fields of the state word of S1. -/
def statesS1 (p : Part) : List (Nat × Nat) :=
  [(4, p.rlu.rail.length), (2, p.rlu.gate.code), (1, p.cc.low.toNat), (9, 0)]

theorem wordsS1_fields (p : Part) : wordsS1 p = [word p.rlu.banked, word (railValue p), word (creditOnHand p),
    word (packed (statesS1 p))] ++ packDigits 2 (p.rlu.rail.map (·.type)) := by
  have hstates : p.rlu.rail.length + 16 * p.rlu.gate.code + flagBit 6 p.cc.low = packed (statesS1 p) := by
    simp only [flagBit_eq, packed, statesS1]
    omega
  rw [wordsS1, hstates]

theorem showsS1_words {p : Part} (hwithin : creditWithin p) (htypes : ∀ c ∈ p.rlu.rail, c.type < 16) :
    showsS1 p (groupWords (.status 1) p) := by
  obtain ⟨hrail, hcredit⟩ := hwithin
  have hhand := creditOnHand_le p
  have hstates : FieldsFit (statesS1 p) :=
    ⟨Nat.lt_of_le_of_lt hrail (by decide), gateState_lt _, flag_fits _, by decide, trivial⟩
  have hstate := bits_packed hstates rfl
  have hdigits : ∀ d ∈ p.rlu.rail.map (·.type), d < 16 := by
    intro d hd
    obtain ⟨c, hc, rfl⟩ := List.mem_map.1 hd
    exact htypes c hc
  show showsS1 p (wordsS1 p)
  rewrite [wordsS1_fields]
  exact ⟨rfl, word_toNat (by omega), word_toNat (by omega), word_toNat (by omega), hstate 0, hstate 1,
    flag_packed hstates 2 rfl rfl (by decide), hstate 3,
    unpackDigits_packDigits 2 ((List.length_map _).trans_le hrail) hdigits⟩

theorem publishedBand_eq (p : Part) :
    publishedBand p = if p.rtu.timing.state = .idle then p.rtu.band else p.rtu.timing.band := by
  unfold publishedBand isCharging
  cases p.rtu.timing.state <;> rfl

theorem publishedBand_lt {p : Part} (hband : p.rtu.band < 4) (htiming : p.rtu.timing.band < 4) :
    publishedBand p < 4 := by
  unfold publishedBand
  split
  · exact htiming
  · exact hband

theorem stepsAffordable_le (p : Part) : stepsAffordable p ≤ creditOnHand p := by
  unfold stepsAffordable
  split
  · exact Nat.zero_le _
  · exact Nat.div_le_self _ _

/-- The fields of the first word of S2. -/
def statesS2 (p : Part) : List (Nat × Nat) :=
  [(3, p.cc.cls.code), (1, 0), (2, p.rtu.timing.state.code), (2, 0), (2, publishedBand p), (6, 0)]

/-- The fields of the digit counts of S2. -/
def countsS2 (p : Part) : List (Nat × Nat) := [(5, p.cc.digits.length), (3, 0), (8, p.cc.ignored)]

theorem wordsS2_fields (p : Part) : wordsS2 p = [word (packed (statesS2 p)), word (packed (countsS2 p))]
    ++ packDigits 5 p.cc.digits ++ totalWords p.rtu.timing.index ++ endTickWords p.rtu.timing
    ++ [word (stepsAffordable p)] ++ totalWords (BitVec.ofNat 32 p.cc.charged) := by
  have hstates : p.cc.cls.code + 16 * p.rtu.timing.state.code + 256 * publishedBand p = packed (statesS2 p) := by
    simp only [packed, statesS2]
    omega
  have hcounts : p.cc.digits.length + 256 * p.cc.ignored = packed (countsS2 p) := by
    simp only [packed, countsS2]
    omega
  rw [wordsS2, hstates, hcounts]

/-- The two words of the end tick show it, or 0xFFFF where it is absent. -/
theorem endTickWords_reads (t : Timing) : ∃ low high, endTickWords t = [low, high]
    ∧ (t.state = .running → totalOf low high = t.finish) ∧ (t.state ≠ .running → low = 0xFFFF ∧ high = 0xFFFF) := by
  unfold endTickWords
  split
  case isTrue h => exact ⟨_, _, rfl, fun _ => totalOf_words _, fun hn => absurd h hn⟩
  case isFalse h => exact ⟨_, _, rfl, fun hr => absurd hr h, fun _ => ⟨rfl, rfl⟩⟩

theorem showsS2_words {p : Part} (hcredit : p.rlu.banked + railValue p ≤ 9999) (hband : p.rtu.band < 4)
    (htiming : p.rtu.timing.band < 4) (hlength : p.cc.digits.length ≤ 20) (hdigits : ∀ d ∈ p.cc.digits, d < 16)
    (hignored : p.cc.ignored ≤ 255) : showsS2 p (groupWords (.status 2) p) := by
  have hsteps := (stepsAffordable_le p).trans (creditOnHand_le p)
  have hstates : FieldsFit (statesS2 p) := ⟨(callClass_lt _).trans (by decide), by decide, timingState_lt _, by decide,
    publishedBand_lt hband htiming, by decide, trivial⟩
  have hcounts : FieldsFit (countsS2 p) :=
    ⟨Nat.lt_of_le_of_lt hlength (by decide), by decide, Nat.lt_of_le_of_lt hignored (by decide), trivial⟩
  have hstate := bits_packed hstates rfl
  have hcount := bits_packed hcounts rfl
  obtain ⟨low, high, hend, hrunning, habsent⟩ := endTickWords_reads p.rtu.timing
  show showsS2 p (wordsS2 p)
  rewrite [wordsS2_fields, hend]
  exact ⟨rfl, hstate 0, hstate 2, (hstate 4).trans (publishedBand_eq p), hstate 1, hstate 3, hstate 5, hcount 0, hcount 1,
    hcount 2, unpackDigits_packDigits 5 hlength hdigits, totalOf_words _, hrunning, habsent, word_toNat (by omega),
    totalOf_words _⟩

/-- The fields of the first word of S3. -/
def routeS3 (e : CoinEvent) : List (Nat × Nat) := [(4, e.type), (1, e.toRail.toNat), (3, 0), (4, e.reason.code), (4, 0)]

theorem showsS3_words {p : Part} (htype : p.cu.event.type < 16) (hvalue : p.cu.event.value < 65536) :
    showsS3 p.cu.event (groupWords (.status 3) p) := by
  have hroute : FieldsFit (routeS3 p.cu.event) :=
    ⟨htype, flag_fits _, by decide, (reason_lt _).trans (by decide), by decide, trivial⟩
  have hfirst : p.cu.event.type + flagBit 4 p.cu.event.toRail + 256 * p.cu.event.reason.code
      = packed (routeS3 p.cu.event) := by
    simp only [flagBit_eq, packed, routeS3]
    omega
  have hfield := bits_packed hroute rfl
  show showsS3 p.cu.event (wordsS3 p)
  rewrite [wordsS3, hfirst]
  exact ⟨rfl, hfield 0, flag_packed hroute 1 rfl rfl (by decide), hfield 2, hfield 3, hfield 4, word_toNat hvalue, rfl, rfl,
    rfl⟩

/-! ## S4 to S7 -/

/-- The fields of the ring indices of S4. -/
def indicesS4 (p : Part) : List (Nat × Nat) := [(6, p.cc.producer), (2, 0), (6, p.cc.consumer), (2, 0)]

/-- The fields of the last word of S4. -/
def backoffS4 (p : Part) : List (Nat × Nat) := [(8, p.cru.failures), (1, p.cru.backoff.isSome.toNat), (7, 0)]

theorem wordsS4_fields (p : Part) : wordsS4 p = totalWords p.cu.accepted ++ totalWords p.cu.returned
    ++ [word p.bpu.refused, word p.cc.lost, word p.cru.dropped] ++ fit 5 (p.cau.mismatches.map word)
    ++ [word (setBits p.cau.faulted), word (packed (indicesS4 p)), word p.cc.heldCount, word (packed (backoffS4 p))] := by
  have hindices : p.cc.producer + 256 * p.cc.consumer = packed (indicesS4 p) := by
    simp only [packed, indicesS4]
    omega
  have hbackoff : p.cru.failures + flagBit 8 p.cru.backoff.isSome = packed (backoffS4 p) := by
    simp only [flagBit_eq, packed, backoffS4]
    omega
  rw [wordsS4, hindices, hbackoff]

theorem showsS4_words {p : Part} (hrefused : p.bpu.refused < 65536) (hlost : p.cc.lost < 65536)
    (hdropped : p.cru.dropped < 65536) (hlength : p.cau.mismatches.length = 5)
    (hcounts : ∀ n ∈ p.cau.mismatches, n < 65536) (hproducer : p.cc.producer < 64) (hconsumer : p.cc.consumer < 64)
    (hheld : p.cc.heldCount ≤ 64) (hfailures : p.cru.failures ≤ 255) : showsS4 p (groupWords (.status 4) p) := by
  have hindices : FieldsFit (indicesS4 p) := ⟨hproducer, by decide, hconsumer, by decide, trivial⟩
  have hbackoff : FieldsFit (backoffS4 p) :=
    ⟨Nat.lt_of_le_of_lt hfailures (by decide), flag_fits _, by decide, trivial⟩
  have hindex := bits_packed hindices rfl
  have hlast := bits_packed hbackoff rfl
  obtain ⟨a, b, c, d, e, hm⟩ : ∃ a b c d e, p.cau.mismatches = [a, b, c, d, e] := by
    match p.cau.mismatches, hlength with
    | [a, b, c, d, e], _ => exact ⟨a, b, c, d, e, rfl⟩
  rewrite [hm] at hcounts
  show showsS4 p (wordsS4 p)
  rewrite [wordsS4_fields, hm]
  refine ⟨rfl, totalOf_words _, totalOf_words _, word_toNat hrefused, word_toNat hlost, word_toNat hdropped,
    fun n hn => ?_, fun n hn => getLsbD_setBits hn, hindex 0, hindex 1, hindex 2, hindex 3,
    word_toNat (Nat.lt_of_le_of_lt hheld (by decide)), hlast 0, flag_packed hbackoff 1 rfl rfl (by decide), hlast 2⟩
  rewrite [hm]
  match n, hn with
  | 0, _ | 1, _ | 2, _ | 3, _ | 4, _ => exact word_toNat (hcounts _ (by simp))

/-- The code of the window that a capture names, 0 without one. -/
def captureCode (c : Capture) : Nat :=
  match c.kind with
  | some k => k.code
  | none => 0

theorem captureCode_lt (c : Capture) : captureCode c < 2 ^ 3 := by
  unfold captureCode
  split
  · exact (windowKind_lt _).trans (by decide)
  · decide

/-- The fields of the first word of S5. -/
def flagsS5 (c : Capture) : List (Nat × Nat) :=
  [(1, c.locked.toNat), (1, c.empty.toNat), (6, 0), (3, captureCode c), (5, 0)]

theorem showsS5_words {p : Part} (hfurther : p.bpu.capture.further < 65536) :
    showsS5 p.bpu.capture (groupWords (.status 5) p) := by
  have hflags : FieldsFit (flagsS5 p.bpu.capture) :=
    ⟨flag_fits _, flag_fits _, by decide, captureCode_lt _, by decide, trivial⟩
  have hfield := bits_packed hflags rfl
  have hfirst : flagBit 0 p.bpu.capture.locked + flagBit 1 p.bpu.capture.empty + 256 * captureCode p.bpu.capture
      = packed (flagsS5 p.bpu.capture) := by
    simp only [flagBit_eq, packed, flagsS5]
    omega
  have hwords : wordsS5 p = [word (flagBit 0 p.bpu.capture.locked + flagBit 1 p.bpu.capture.empty
      + 256 * captureCode p.bpu.capture)] ++ totalWords (p.bpu.capture.address.setWidth 32) ++ [p.bpu.capture.data]
      ++ totalWords p.bpu.capture.tick ++ [word p.bpu.capture.further] := rfl
  show showsS5 p.bpu.capture (wordsS5 p)
  rewrite [hwords, hfirst]
  exact ⟨rfl, flag_packed hflags 0 rfl rfl (by decide), flag_packed hflags 1 rfl rfl (by decide), hfield 2, hfield 3,
    hfield 4, totalOf_words _, rfl, totalOf_words _, word_toNat hfurther⟩

theorem showsS6_words {p : Part} (hclock : validWall p.rtu.clock) : showsS6 p (groupWords (.status 6) p) := by
  obtain ⟨low, high, hwords, hreads⟩ := wallWords_reads _ hclock
  have hshape : wordsS6 p = totalWords p.tick ++ [low, high] := by rewrite [← hwords]; rfl
  show showsS6 p (wordsS6 p)
  rewrite [hshape]
  exact ⟨rfl, totalOf_words _, hreads⟩

theorem activeBits_shift (rows : List ConditionRow) (k : Nat) : activeBits (k + 1) rows = 2 * activeBits k rows := by
  induction rows generalizing k with
  | nil => rfl
  | cons r rows ih =>
    rewrite [activeBits, activeBits, ih, flagBit_eq, flagBit_eq, Nat.pow_succ, Nat.mul_add]
    ring

theorem activeBits_cons (r : ConditionRow) (rows : List ConditionRow) :
    activeBits 0 (r :: rows) = r.active.toNat + 2 * activeBits 0 rows := by
  rw [activeBits, activeBits_shift, flagBit_eq, Nat.pow_zero, Nat.one_mul]

theorem activeBits_lt (rows : List ConditionRow) : activeBits 0 rows < 2 ^ rows.length := by
  induction rows with
  | nil => decide
  | cons r rows ih =>
    have hr := Bool.toNat_le r.active
    rewrite [activeBits_cons, List.length_cons, Nat.pow_succ]
    omega

theorem activeBits_bit {rows : List ConditionRow} {i : Nat} {r : ConditionRow} (h : rows[i]? = some r) :
    activeBits 0 rows / 2 ^ i % 2 = r.active.toNat := by
  induction rows generalizing i with
  | nil => cases h
  | cons x rows ih =>
    have hx := Bool.toNat_le x.active
    rewrite [activeBits_cons]
    cases i with
    | zero =>
      obtain rfl : x = r := Option.some.inj h
      rewrite [Nat.pow_zero, Nat.div_one]
      omega
    | succ i =>
      have hrest := ih (i := i) h
      rewrite [Nat.pow_succ', ← Nat.div_div_eq_div_mul]
      rwa [show (x.active.toNat + 2 * activeBits 0 rows) / 2 = activeBits 0 rows by omega]

theorem length_flatMap_two {f : ConditionRow → List Word} (hf : ∀ r, (f r).length = 2) (rows : List ConditionRow) :
    (rows.flatMap f).length = 2 * rows.length := by
  induction rows with
  | nil => rfl
  | cons r rows ih =>
    rewrite [List.flatMap_cons, List.length_append, hf, ih, List.length_cons]
    omega

/-- Words that stand two to a row: those of row `i` are words `2 * i` and `2 * i + 1`. -/
theorem wordAt_flatMap_two {f : ConditionRow → List Word} (hf : ∀ r, (f r).length = 2) {rows : List ConditionRow}
    {i j : Nat} {r : ConditionRow} (h : rows[i]? = some r) (hj : j < 2) (more : List Word) :
    wordAt (rows.flatMap f ++ more) (2 * i + j) = wordAt (f r) j := by
  induction rows generalizing i with
  | nil => cases h
  | cons x rows ih =>
    rewrite [List.flatMap_cons, List.append_assoc]
    cases i with
    | zero =>
      obtain rfl : x = r := Option.some.inj h
      unfold wordAt
      rw [List.getD_append _ _ _ _ (by rewrite [hf]; omega), Nat.mul_zero, Nat.zero_add]
    | succ i =>
      have hrest := ih (i := i) h
      rewrite [← hrest]
      unfold wordAt
      rewrite [List.getD_append_right _ _ _ _ (by rewrite [hf]; omega), hf]
      congr 1
      omega

theorem optionalWall_length (t : Option WallTime) : (optionalWall t).length = 2 := by
  rcases t with _ | _ | _ <;> rfl

/-- What the two words of an optional wall time show (R188). -/
theorem optionalWallAt_of {ws : List Word} {i : Nat} {t : Option WallTime} (ht : ∀ x, t = some x → validWall x)
    (hfirst : wordAt ws i = wordAt (optionalWall t) 0) (hsecond : wordAt ws (i + 1) = wordAt (optionalWall t) 1) :
    optionalWallAt ws i t := by
  cases t with
  | none => exact ⟨hfirst, hsecond⟩
  | some x =>
    obtain ⟨low, high, hwords, hreads⟩ := wallWords_reads x (ht x rfl)
    show wallOf _ _ = x
    rewrite [hfirst, hsecond, optionalWall, hwords]
    exact hreads

theorem showsS7_words {p : Part} (hrows : p.cru.rows.length = 14)
    (hfits : ∀ r ∈ p.cru.rows, r.count ≤ 255 ∧ r.detail < 65536 ∧ ∀ t, r.last = some t → validWall t) :
    showsS7 p.cru.rows (groupWords (.status 7) p) := by
  have hbits := activeBits_lt p.cru.rows
  rewrite [hrows] at hbits
  have hcounts : ∀ r : ConditionRow, [word r.count, word r.detail].length = 2 := fun _ => rfl
  have hlasts : ∀ r : ConditionRow, (optionalWall r.last).length = 2 := fun r => optionalWall_length r.last
  have hlength := length_flatMap_two hcounts p.cru.rows
  rewrite [hrows] at hlength
  have hcount : ∀ i, wordAt (wordsS7 p) (1 + i)
      = wordAt (p.cru.rows.flatMap (fun r => [word r.count, word r.detail])
        ++ p.cru.rows.flatMap fun r => optionalWall r.last) i := fun i => by
    rewrite [Nat.add_comm]
    rfl
  have hlast : ∀ i, wordAt (wordsS7 p) (29 + i)
      = wordAt (p.cru.rows.flatMap (fun r => optionalWall r.last) ++ []) i := fun i => by
    rewrite [show 29 + i = 1 + (28 + i) by omega, hcount, List.append_nil]
    unfold wordAt
    rw [List.getD_append_right _ _ _ _ (by omega), hlength, Nat.add_sub_cancel_left]
  show showsS7 p.cru.rows (wordsS7 p)
  refine ⟨?_, (bits_word (by omega) _ _).trans (by omega), fun i r hr => ?_⟩
  · show (_ ++ _ ++ _ : List Word).length = 57
    rewrite [List.length_append, List.length_append, hlength, length_flatMap_two hlasts, hrows]
    rfl
  · have hi : i < 14 := hrows ▸ (List.getElem?_eq_some_iff.1 hr).1
    obtain ⟨hc, hd, hw⟩ := hfits r (List.mem_of_getElem? hr)
    refine ⟨flag_reads (by omega) (activeBits_bit hr), ?_, ?_, optionalWallAt_of hw ?_ ?_⟩
    · rewrite [hcount, ← Nat.add_zero (2 * i), wordAt_flatMap_two hcounts hr (by decide)]
      exact word_toNat (by omega)
    · rewrite [show 2 + 2 * i = 1 + (2 * i + 1) by omega, hcount, wordAt_flatMap_two hcounts hr (by decide)]
      exact word_toNat hd
    · rw [hlast, ← Nat.add_zero (2 * i), wordAt_flatMap_two hlasts hr (by decide)]
    · rw [Nat.add_assoc, hlast, wordAt_flatMap_two hlasts hr (by decide)]

theorem fieldsReadBack_status {p : Part} (h : statusFits p) :
    showsS1 p (groupWords (.status 1) p) ∧ showsS2 p (groupWords (.status 2) p)
      ∧ showsS3 p.cu.event (groupWords (.status 3) p) ∧ showsS4 p (groupWords (.status 4) p)
      ∧ showsS5 p.bpu.capture (groupWords (.status 5) p) ∧ showsS6 p (groupWords (.status 6) p)
      ∧ showsS7 p.cru.rows (groupWords (.status 7) p) := by
  obtain ⟨hwithin, htypes, hband, htiming, hlength, hdigits, hignored, htype, hvalue, hrefused, hlost, hdropped, hmismatches,
    hcounts, -, hproducer, hconsumer, hheld, hfailures, hfurther, hclock, hrows, hfits⟩ := h
  exact ⟨showsS1_words hwithin htypes, showsS2_words hwithin.2 hband htiming hlength hdigits hignored,
    showsS3_words htype hvalue,
    showsS4_words hrefused hlost hdropped hmismatches hcounts hproducer hconsumer hheld hfailures,
    showsS5_words hfurther, showsS6_words hclock, showsS7_words hrows hfits⟩

theorem resultWord_reads (p : Part) : ∃ w, groupWords .result p = [w] ∧ bits w 0 8 = p.bpu.result.code
    ∧ bits w 8 8 = p.bpu.number.toNat := by
  have hfit : FieldsFit [(8, p.bpu.result.code), (8, p.bpu.number.toNat)] :=
    ⟨(resultCode_lt _).trans (by decide), p.bpu.number.isLt, trivial⟩
  have hfield := bits_packed hfit rfl
  exact ⟨_, rfl, hfield 0, hfield 1⟩

end Sys2Proof.Machine
end

section
/-!
PROOFS. The ring records of 12_record_and_frame_layouts.md, Ring records, the places of the groups and the codes of the
tables; with these O27 is settled.
-/

namespace Sys2Proof.Machine

/-! ## Call-ring slots -/

set_option Elab.async false in
theorem callSlotWords_of_mem {p : Part} {slot : Nat} {r : RingRecord} (hmem : (slot, r) ∈ p.cc.records)
    (hone : ∀ x ∈ p.cc.records, x.1 = slot → x = (slot, r)) :
    groupWords (.call slot) p = fit 24 (ringRecordWords r) := by
  have hfind : p.cc.records.find? (fun e => e.1 == slot) = some (slot, r) := by
    cases hf : p.cc.records.find? fun e => e.1 == slot with
    | none => exact absurd (List.find?_eq_none.1 hf _ hmem) (by simp)
    | some x => rw [hone x (List.mem_of_find?_eq_some hf) (by simpa using List.find?_some hf)]
  show callSlotWords slot p = _
  rw [callSlotWords, hfind]

theorem optionalAt_of {ws : List Word} {i : Nat} {n : Option Nat} (hn : ∀ x, n = some x → x < 65536)
    (h : wordAt ws i = optionalWord n) : optionalAt ws i n := by
  cases n with
  | none => exact h
  | some x =>
    show (wordAt ws i).toNat = x
    rewrite [h]
    exact word_toNat (hn x rfl)

theorem zeroAt_of_map {places : List Nat} {ws : List Word} (h : places.map (wordAt ws) = places.map fun _ => 0) :
    zeroAt places ws :=
  List.map_inj_left.1 h

/-- The fields of the first word of a CALL record. -/
def callFields (c : CallRecord) : List (Nat × Nat) :=
  [(4, 1), (4, c.outcome.code), (3, c.cls.code), (1, c.answered.isSome.toNat), (4, 0)]

theorem callWords_first (c : CallRecord) :
    1 + 16 * c.outcome.code + 256 * c.cls.code + flagBit 11 c.answered.isSome = packed (callFields c) := by
  simp only [flagBit_eq, packed, callFields]
  omega

theorem showsCall_words {c : CallRecord} (h : callFits c) : showsCall c (fit 24 (callRecordWords c)) := by
  obtain ⟨hindex, hlength, hdigits, hwall, hanswered, hcollected, hrefund⟩ := h
  have hfields : FieldsFit (callFields c) := ⟨by decide, (callOutcome_lt _).trans (by decide),
    (callClass_lt _).trans (by decide), flag_fits _, by decide, trivial⟩
  have hfield := bits_packed hfields rfl
  have htick : ∀ x, c.answered.map (·.1) = some x → x < 65536 := fun x hx => by
    obtain ⟨a, ha, rfl⟩ := Option.map_eq_some_iff.1 hx
    exact (hanswered a ha).1
  have hband : ∀ x, c.answered.map (·.2) = some x → x < 65536 := fun x hx => by
    obtain ⟨a, ha, rfl⟩ := Option.map_eq_some_iff.1 hx
    exact (hanswered a ha).2
  obtain ⟨low, high, htime, hreads⟩ := wallWords_reads _ hwall
  rewrite [callRecordWords, callWords_first, htime]
  exact ⟨rfl, hfield 0, hfield 1, hfield 2, flag_packed hfields 3 rfl rfl (by decide), hfield 4, word_toNat hindex,
    word_toNat (Nat.lt_of_le_of_lt hlength (by decide)), unpackDigits_packDigits 5 hlength hdigits, hreads,
    optionalAt_of htick rfl, optionalAt_of hband rfl, totalOf_words _, totalOf_words _, word_toNat hcollected,
    word_toNat hrefund, zeroAt_of_map rfl⟩

theorem showsCollection_words {c : Collection} (hwall : validWall c.time) (hcount : c.count < 65536) :
    showsCollection c (fit 24 (ringRecordWords (.collection c))) := by
  obtain ⟨low, high, htime, hreads⟩ := wallWords_reads _ hwall
  have hwords : fit 24 (ringRecordWords (.collection c)) = [2, 0] ++ totalWords c.value
      ++ [word c.count, 0, 0, 0, low, high] ++ List.replicate 14 0 := by
    rewrite [ringRecordWords, htime]
    rfl
  rewrite [hwords]
  exact ⟨rfl, rfl, totalOf_words _, word_toNat hcount, hreads, zeroAt_of_map rfl⟩

theorem showsStart_words {kind : StartKind} {time : WallTime} (hwall : validWall time) :
    showsStart kind time (fit 24 (ringRecordWords (.start kind time))) := by
  obtain ⟨low, high, htime, hreads⟩ := wallWords_reads _ hwall
  have hwords : fit 24 (ringRecordWords (.start kind time)) = [word (3 + flagBit 4 (kind == .line)), 0, 0, 0, 0, 0, 0, 0,
      low, high] ++ List.replicate 14 0 := by
    rewrite [ringRecordWords, htime]
    rfl
  rewrite [hwords]
  refine ⟨rfl, ?_, hreads, zeroAt_of_map rfl⟩
  cases kind <;> rfl

theorem fieldsReadBack_ring (p : Part) : ∀ (slot : Nat) (r : RingRecord), (slot, r) ∈ p.cc.records →
    (∀ x ∈ p.cc.records, x.1 = slot → x = (slot, r)) →
    let ws := groupWords (.call slot) p
    (∀ c, r = .call c → callFits c → showsCall c ws)
    ∧ (∀ c, r = .collection c → validWall c.time → c.count < 65536 → showsCollection c ws)
    ∧ (∀ kind time, r = .start kind time → validWall time → showsStart kind time ws) := by
  intro slot r hmem hone
  rewrite [callSlotWords_of_mem hmem hone]
  refine ⟨?_, ?_, ?_⟩
  · rintro c rfl h
    exact showsCall_words h
  · rintro c rfl hwall hcount
    exact showsCollection_words hwall hcount
  · rintro kind time rfl hwall
    exact showsStart_words hwall

/-! ## Report-ring slots -/

theorem reportSlotWords_of_mem {p : Part} {r : ReportRecord} (hmem : r ∈ p.cru.queue)
    (hone : ∀ x ∈ p.cru.queue, x.slot = r.slot → x = r) :
    groupWords (.report r.slot) p = fit 16 (reportWords r) := by
  have hfind : p.cru.queue.find? (fun x => x.slot == r.slot) = some r := by
    cases hf : p.cru.queue.find? fun x => x.slot == r.slot with
    | none => exact absurd (List.find?_eq_none.1 hf _ hmem) (by simp)
    | some x => rw [hone x (List.mem_of_find?_eq_some hf) (by simpa using List.find?_some hf)]
  show reportSlotWords r.slot p = _
  rw [reportSlotWords, hfind]

theorem reportSlotWords_of_not {p : Part} {slot : Nat} (hnone : ∀ x ∈ p.cru.queue, x.slot ≠ slot) :
    groupWords (.report slot) p = List.replicate 16 0 := by
  have hfind : p.cru.queue.find? (fun x => x.slot == slot) = none :=
    List.find?_eq_none.2 fun x hx => by simpa using hnone x hx
  show reportSlotWords slot p = _
  rw [reportSlotWords, hfind]

theorem reportKind_lt (k : ReportKind) : k.code < 16 := by
  cases k with
  | condition k => cases k <;> decide
  | test => decide

/-- The fields of the first word of a report record. -/
def reportFields (r : ReportRecord) : List (Nat × Nat) :=
  [(4, r.kind.code), (4, 0), (1, r.kind.urgent.toNat), (1, r.sending.toNat), (1, r.updated.toNat), (5, 0)]

theorem reportWords_first (r : ReportRecord) : r.kind.code + flagBit 8 r.kind.urgent + flagBit 9 r.sending
    + flagBit 10 r.updated = packed (reportFields r) := by
  simp only [flagBit_eq, packed, reportFields]
  omega

theorem showsReport_words {r : ReportRecord} (h : reportFits r) : showsReport r (fit 16 (reportWords r)) := by
  obtain ⟨hcount, hfirst, hlast, hdetail, hattempts, hsent, hmerge⟩ := h
  have hfields : FieldsFit (reportFields r) :=
    ⟨reportKind_lt _, by decide, flag_fits _, flag_fits _, flag_fits _, by decide, trivial⟩
  have hfield := bits_packed hfields rfl
  obtain ⟨low, high, htime, hreads⟩ := wallWords_reads _ hfirst
  obtain ⟨low', high', htime', hreads'⟩ := wallWords_reads _ hlast
  obtain ⟨a, b, hab⟩ := List.length_eq_two.1 (optionalWall_length r.firstMerge)
  rewrite [reportWords, reportWords_first, htime, htime', hab]
  exact ⟨rfl, hfield 0, hfield 1, flag_packed hfields 2 rfl rfl (by decide), flag_packed hfields 3 rfl rfl (by decide),
    flag_packed hfields 4 rfl rfl (by decide), hfield 5, totalOf_words _, word_toNat hcount, hreads, hreads',
    word_toNat hdetail, word_toNat hattempts, optionalAt_of hsent rfl,
    optionalWallAt_of hmerge (by rewrite [hab]; rfl) (by rewrite [hab]; rfl), zeroAt_of_map rfl⟩

/-- Settles O27, from the encodings, the account slots, the status groups and the ring records; the places of the groups
and the codes are those of the tables. -/
theorem fieldsReadBack : Obligations.FieldsReadBack := by
  unfold Obligations.FieldsReadBack
  refine ⟨fieldsReadBack_encodings, fieldsReadBack_account, fun p => ?_, ?_, ?_⟩
  · refine ⟨resultWord_reads p, showsS0_words p, fieldsReadBack_status, fieldsReadBack_ring p, fun r hmem hone hfits => ?_,
      fun slot hnone => reportSlotWords_of_not hnone, fun i => rfl⟩
    rewrite [reportSlotWords_of_mem hmem hone]
    exact showsReport_words hfits
  · exact ⟨rfl, rfl, fun i => ⟨rfl, rfl, rfl, rfl⟩⟩
  · exact ⟨rfl, rfl, rfl, rfl, rfl, rfl, rfl, rfl, rfl, rfl, rfl, rfl, rfl⟩

end Sys2Proof.Machine
end
